-- ==== Sys2Proof/Word.lean ====
section
/-! DEFINITION. The two word types of the part: the byte of the line and the 16-bit word. -/

namespace Sys2Proof

/-- One byte of a frame (R121: a DATA symbol carries one byte). -/
abbrev Byte := BitVec 8

/-- A 16-bit number or value: sweep numbers wrap at 65535 (R4); values are two's complement (R156). -/
abbrev Word := BitVec 16

end Sys2Proof
end

