-- ==== Sys2Proof/Syntax.lean ====
section
/-! DEFINITION. The commands: one constructor of `Instr` per row of spec/opcode_table.json. The table gives the rows no
fields, so the operands are what the rule of each row says the event carries (notes/assumptions/7). -/

namespace Sys2Proof

/-- The three link ports (00 section 1.2). -/
inductive Port where
  | tu | td | sg
  deriving DecidableEq, Repr

/-- The four sorts of valid symbol (R121). -/
inductive ValidSymbol where
  | idle
  | startFrame
  | endFrame
  | data (b : Byte)
  deriving DecidableEq, Repr

/-- The header bytes of a trunk frame besides its kind and payload length (R133). -/
structure TrunkHeader where
  flags : Byte
  dest : Byte
  src : Byte
  deriving DecidableEq, Repr

/-- A REQUEST as the Trunk Dispatcher hands it to the Management Executor: addressed to the part or broadcast (R141), its
tag, and the bytes of its fields after the request code (R150, R156). -/
structure Request where
  broadcast : Bool
  tag : Byte
  fields : List Byte
  deriving DecidableEq, Repr

/-- The commands of the block, in the order of spec/opcode_table.json. -/
inductive Instr where
  | powerOn
  | resetPin
  | linkAligning (p : Port) (sym : ValidSymbol)
  | linkUp (p : Port)
  | linkSilenceLoss (p : Port)
  | linkNoiseLoss (p : Port)
  /-- `restart`: the symbol that cuts the frame short is START; otherwise it is IDLE (R128). -/
  | frameTruncated (p : Port) (restart : Bool)
  | frameReceived (p : Port)
  | transmissionComplete (p : Port)
  | dfqSend
  /-- `flag` is the restart byte, any value but 00h (R132). -/
  | enumerateRestart (h : TrunkHeader) (flag : Byte) (next : Byte)
  | enumerateClear (h : TrunkHeader) (next : Byte)
  | sync (h : TrunkHeader) (number : Word)
  | syncSupervisionExpiry
  | periodReached
  | windowExpiry
  | sgArbiterStart
  | sampleFrame (node : Byte) (payload : List Byte)
  | uplinkChoice
  /-- The entry whose time runs out is named by its sequence number (R107: no two entries share one). -/
  | retransmissionExpiry (seq : Byte)
  | ack (payload : List Byte)
  | nodeReply (node : Byte) (reply : List Byte)
  | relayTimerExpiry
  | sessionIdleExpiry
  | getIdentity (r : Request)
  | readSettings (r : Request)
  | readNode (r : Request)
  | readChannel (r : Request)
  | readQueues (r : Request)
  | readCounters (r : Request)
  | readEvents (r : Request)
  | clearEvents (r : Request)
  | setNotify (r : Request)
  | startSweeps (r : Request)
  | stopSweeps (r : Request)
  | triggerOnce (r : Request)
  | forceReport (r : Request)
  | flushClass (r : Request)
  | segmentRelay (r : Request)
  | sessionOpen (r : Request)
  | stageNode (r : Request)
  | stageChannel (r : Request)
  | stageSettings (r : Request)
  | readStaged (r : Request)
  | sessionDiscard (r : Request)
  | commit (r : Request)
  | resetPart (r : Request)
  | idleSymbol (p : Port)
  | codeError (p : Port)
  | startSymbol (p : Port)
  | dataSymbol (p : Port) (b : Byte)
  /-- The whole payload, tag and code included; it may be shorter than 2 bytes (R149). -/
  | unknownRequest (broadcast : Bool) (payload : List Byte)
  deriving DecidableEq, Repr

end Sys2Proof
end

