-- ==== Sys2Proof/Config.lean ====
section
/-! DEFINITION. What the part fixes: capacities, codes and line figures (00 section 1.7; R107, R131, R135, R147, R153),
and the free values of notes/assumptions/25 and 34. -/

namespace Sys2Proof.Config

/-- Report slots (R78). -/
def storeSlots : Nat := 384
/-- Entries of the outstanding list (R107). -/
def outstandingSlots : Nat := 16
/-- Slots of MQ (R148). -/
def mqSlots : Nat := 8
/-- Capacity of DFQ (R135). -/
def dfqSlots : Nat := 16
/-- Capacity of TQ-U (R135). -/
def tqUSlots : Nat := 16
/-- Capacity of TQ-N (R135). -/
def tqNSlots : Nat := 32
/-- Items of the staging list (R147). -/
def stagingItems : Nat := 32
/-- The largest value of a counter (R182). -/
def counterMax : Nat := 4294967295
/-- Idle symbols that align a link (R123). -/
def alignRun : Nat := 64
/-- Ticks without a valid symbol that lose a link (R124). -/
def silenceTicks : Nat := 10
/-- Code errors that lose a link (R124). -/
def noiseErrors : Nat := 32
/-- The span in ticks over which code errors are counted (R124). -/
def noiseSpan : Nat := 100
/-- Most command or reply bytes of a relay (R169, R171). -/
def relayBytes : Nat := 32
/-- Ticks in a millisecond (00 section 1.5). -/
def ticksPerMs : Nat := 100
/-- Ticks in a unit of the session idle timeout (R160). -/
def ticksPerIdleUnit : Nat := 10000
/-- Vendor, family, part and revision codes (R153). -/
def vendorCode : Nat := 74
def familyCode : Nat := 5
def partCode : Nat := 24
def revisionCode : Nat := 1
/-- Entries of the Node Table (R19) and of the Channel Table (R38). -/
def nodeEntries : Nat := 24
def channelEntries : Nat := 256

/-- Free value: the node address that a report or duplicate of a channel carries at a time at which no enabled node entry
covers the channel. R41 and R46 name none there, and nothing here constrains it (notes/assumptions/25). -/
opaque unmappedAddress : Nat → Fin 256 → Byte
/-- Free value: the channel number of a report in the same case (R46; notes/assumptions/25). -/
opaque unmappedNumber : Nat → Fin 256 → Byte
/-- Free value: the latency of a node whose first accepted frame ended, by the part's count of ticks, before the trigger
start time. R26 states no difference of that kind, and nothing here constrains it (notes/assumptions/34). -/
opaque earlyLatency : Nat → Fin 24 → Word

end Sys2Proof.Config
end

