-- ==== Sys2Proof/Machine/State.lean ====
section
/-! DEFINITION. The state of the part as plain data, block by block, and its value after power-on. -/

namespace Sys2Proof.Machine

/-- A value for each of the three ports. -/
structure PerPort (α : Type) where
  tu : α
  td : α
  sg : α
  deriving DecidableEq, Repr

/-- The four report classes; `c0` is the most urgent (00 section 1.4). -/
inductive ReportClass where
  | c0 | c1 | c2 | c3
  deriving DecidableEq, Repr

/-- A value for each report class. -/
structure Quad (α : Type) where
  q0 : α
  q1 : α
  q2 : α
  q3 : α
  deriving DecidableEq, Repr

/-! ### Sweep Controller (R1) -/

inductive SweepState where
  | stopped | collecting | quiet
  deriving DecidableEq, Repr

inductive SweepSource where
  | localTimer | trunk
  deriving DecidableEq, Repr

/-- The record of R1. `waiting` is the sweep number of the TRIGGER in the waiting position of the SG transmitter. -/
structure Sweep where
  state : SweepState := .stopped
  number : Word := 0
  lastClosed : Option Word := none
  oneShot : Bool := false
  lastTrigger : Option Nat := none
  triggerStart : Option Nat := none
  window : Option Nat := none
  supervision : Option Nat := none
  waiting : Option Word := none
  deriving DecidableEq, Repr

/-! ### Node Table (R19, R20) -/

structure NodeConfig where
  enabled : Bool := false
  address : Nat := 0
  first : Nat := 0
  count : Nat := 1
  required : Bool := true
  deriving DecidableEq, Repr

inductive Presence where
  | unknown | present | missing | absent
  deriving DecidableEq, Repr

structure NodeRuntime where
  presence : Presence := .unknown
  misses : Nat := 0
  responded : Bool := false
  lastLatency : Option Nat := none
  worstLatency : Option Nat := none
  deriving DecidableEq, Repr

/-! ### Channel Table (R38, R39) -/

inductive Quality where
  | good | overrange | fault | noData
  deriving DecidableEq, Repr

inductive ChangeRule where
  | none | deadband | every
  deriving DecidableEq, Repr

structure ChanConfig where
  enabled : Bool := false
  rule : ChangeRule := .deadband
  deadband : Nat := 0
  holdOff : Nat := 0
  heartbeat : Nat := 0
  changeClass : ReportClass := .c2
  supervision : Bool := false
  high : Word := 32767
  low : Word := 32768
  hysteresis : Nat := 0
  persistence : Nat := 1
  limitClass : ReportClass := .c1
  deriving DecidableEq, Repr

/-- A value and its quality: the last reported record. -/
structure Reading where
  value : Word
  quality : Quality
  deriving DecidableEq, Repr

/-- The latest record: value, quality and sweep of the most recent sample judged. -/
structure Latest where
  value : Word
  quality : Quality
  sweep : Word
  deriving DecidableEq, Repr

inductive LimitState where
  | unknown | normal | high | low
  deriving DecidableEq, Repr

structure ChanRuntime where
  lastReported : Option Reading := none
  latest : Option Latest := none
  sinceReport : Nat := 0
  pendingChange : Bool := false
  forcePending : Bool := false
  gap : Bool := false
  limit : LimitState := .unknown
  count : Nat := 0
  candidate : Option LimitState := none
  deriving DecidableEq, Repr

/-- A set of the six causes (00 section 1.4). -/
structure Causes where
  initial : Bool := false
  change : Bool := false
  limit : Bool := false
  quality : Bool := false
  refresh : Bool := false
  forced : Bool := false
  deriving DecidableEq, Repr

/-- A report record (R46, R133). `number` is the channel number within its node. -/
structure Report where
  node : Nat
  channel : Fin 256
  number : Nat
  causes : Causes
  cls : ReportClass
  value : Word
  quality : Quality
  sweep : Word
  limit : LimitState
  aged : Bool
  gap : Bool
  seq : Byte := 0
  attempt : Nat := 0
  deriving DecidableEq, Repr

/-! ### Settings (R157) -/

inductive Policy where
  | keepOld | keepNew
  deriving DecidableEq, Repr

structure Settings where
  period : Nat := 1000
  window : Nat := 800
  source : SweepSource := .localTimer
  absentLimit : Nat := 3
  limits : Quad Nat := ⟨64, 128, 96, 96⟩
  policies : Quad Policy := ⟨.keepNew, .keepOld, .keepOld, .keepOld⟩
  w1 : Nat := 8
  w2 : Nat := 4
  w3 : Nat := 2
  wt : Nat := 4
  packLimit : Nat := 4
  retransTimeout : Nat := 20
  retryLimit : Nat := 3
  relayTimeout : Nat := 10
  idleTimeout : Nat := 50
  beaconInterval : Nat := 100
  deriving DecidableEq, Repr

/-! ### Report Store (R78, R79) -/

/-- Free slots are counted: they cannot be told apart (R78). -/
structure Store where
  free : Nat := 384
  cq : Quad (List Report) := ⟨[], [], [], []⟩
  deriving DecidableEq, Repr

/-! ### Event kinds (R176) and management items (R148) -/

inductive EventKind where
  | nodeLost | nodeBack | classDrop | storeEmpty | urgentAbandoned | transitDrop | forwardDrop | linkLoss
  | sessionExpired | sampleAnomaly | relayTimeout | syncGap | requestDrop
  deriving DecidableEq, Repr

/-- The statuses in the order of R150, which numbers them (R156). -/
inductive Status where
  | ok | unknownRequest | badFormat | badIndex | badValue | busy | notAllowed | noSession | wrongSession | sessionHeld
  | stageFull | commitRejected | linkDown | relayTimeout
  deriving DecidableEq, Repr

/-- An item of MQ: a RESPONSE, an EVENT notice or an ANNOUNCE (R98, R148). -/
inductive MqItem where
  | response (tag code : Byte) (status : Status) (results : List Byte)
  | event (kind : EventKind) (sweep : Word) (detail : Byte)
  | announce
  deriving DecidableEq, Repr

/-- A slot of MQ reserved for the response to one accepted request (R148, R149). -/
structure Reservation where
  tag : Byte
  code : Byte
  deriving DecidableEq, Repr

/-! ### Trunk and segment frames (R133, R134). A stored frame passed its CRC check, so its CRC is the one R131 computes
over it and is not kept beside it (notes/assumptions/8). -/

structure TrunkFrame where
  kind : Byte
  flags : Byte
  dest : Byte
  src : Byte
  payload : List Byte
  deriving DecidableEq, Repr

structure SegFrame where
  kind : Byte
  node : Byte
  payload : List Byte
  deriving DecidableEq, Repr

/-! ### Uplink Scheduler (R92) -/

/-- The members of the round robin in their cyclic order (R100). -/
inductive Member where
  | cq1 | cq2 | cq3 | tqN
  deriving DecidableEq, Repr

/-- The frame in flight with its source (R92): the place it was taken from and what its owner must be told about. -/
inductive Flight where
  /-- Tier 6, CQ1 to CQ3: the reports carried. -/
  | reports (m : Member) (rs : List Report)
  /-- Tier 3, or tier 1 when `retransmit`: the outstanding entry of this sequence number. -/
  | urgent (seq : Byte) (retransmit : Bool)
  /-- Tier 2 when `fromUrgent`, else the TQ-N member of tier 6. -/
  | transit (fromUrgent : Bool)
  /-- Tier 4. -/
  | item (i : MqItem)
  /-- Tier 5. -/
  | beacon
  deriving DecidableEq, Repr

structure Turn where
  member : Member := .cq1
  count : Nat := 0
  deriving DecidableEq, Repr

structure Uplink where
  flight : Option Flight := none
  turn : Turn := {}
  beaconPending : Bool := false
  deriving DecidableEq, Repr

/-! ### Confirmation Unit (R107) -/

inductive EntryState where
  | sending
  | waiting (remaining : Nat)
  | due
  deriving DecidableEq, Repr

/-- An entry of the outstanding list; `report` is the record held in its slot. -/
structure Entry where
  report : Report
  seq : Byte
  attempt : Nat
  state : EntryState
  acked : Bool := false
  deriving DecidableEq, Repr

/-- `due` is the DUE order: sequence numbers, earliest DUE first. -/
structure Confirmation where
  entries : List Entry := []
  due : List Byte := []
  nextSeq : Byte := 0
  deriving DecidableEq, Repr

/-! ### Link ports (R122) -/

inductive LinkState where
  | down | aligning | up
  deriving DecidableEq, Repr

/-- A frame in reception: the bytes gathered since its START and its marks (R128). -/
structure Reception where
  bytes : List Byte := []
  spoilt : Bool := false
  oversize : Bool := false
  deriving DecidableEq, Repr

/-- Who is told of the end of a transmission (R126); `nobody` after a reset (R122). -/
inductive Owner where
  | scheduler | dispatcher | sweepController | relayController | nobody
  deriving DecidableEq, Repr

/-- A frame in transmission: its bytes with the CRC, the owner that handed it, and how many of its symbols have left
(R121, R126). -/
structure Transmission where
  bytes : List Byte
  owner : Owner
  sent : Nat := 0
  deriving DecidableEq, Repr

/-- The link record of R122. `errors` holds the times of code errors, newest first. -/
structure LinkPort where
  state : LinkState := .down
  idleRun : Nat := 0
  silence : Option Nat := none
  errors : List Nat := []
  rx : Option Reception := none
  tx : Option Transmission := none
  deriving DecidableEq, Repr

/-! ### Trunk Dispatcher (R135) -/

structure Trunk where
  own : Nat := 0
  dfq : List TrunkFrame := []
  tqU : List TrunkFrame := []
  tqN : List TrunkFrame := []
  deriving DecidableEq, Repr

/-! ### Management Executor (R147) -/

inductive SessionState where
  | none | opened | commitPending
  deriving DecidableEq, Repr

/-- An item of the staging list with its target (R161). -/
inductive StagedItem where
  | node (i : Fin 24) (cfg : NodeConfig)
  | channel (c : Fin 256) (cfg : ChanConfig)
  | settings (st : Settings)
  deriving DecidableEq, Repr

structure Session where
  state : SessionState := .none
  token : Option Word := none
  items : List StagedItem := []
  idle : Option Nat := none
  deriving DecidableEq, Repr

/-- The two scopes of RESET_PART (R166). -/
inductive Scope where
  | runtime | tables
  deriving DecidableEq, Repr

structure Management where
  items : List MqItem := []
  reserved : List Reservation := []
  session : Session := {}
  resetPending : Option Scope := none
  deriving DecidableEq, Repr

/-! ### Relay Controller (R168). A relay in phase `queued` is the NODE_COMMAND in the arbiter's waiting position. -/

inductive RelayPhase where
  | queued
  | sending
  | listening (remaining : Nat)
  deriving DecidableEq, Repr

structure PendingRelay where
  node : Byte
  command : List Byte
  phase : RelayPhase
  deriving DecidableEq, Repr

/-! ### Event Latch and Counter Bank (R175, R182, R185) -/

/-- What the latch keeps with a latched kind. -/
structure Occurrence where
  detail : Byte
  sweep : Word
  deriving DecidableEq, Repr

/-- `notify` is the notify set, bit k for kind k (R156). -/
structure Latch where
  latched : Vector (Option Occurrence) 13 := Vector.replicate 13 none
  notify : Word := 0
  storeEmpty : Bool := false
  beaconCount : Nat := 0
  deriving DecidableEq, Repr

/-- The 43 counters of R182, by name. -/
inductive Counter where
  | framesIn (p : Port) | framesOut (p : Port) | crcErrors (p : Port) | lengthErrors (p : Port) | linkLosses (p : Port)
  | sampleFrames | samplesAccepted | late | stale | unmapped | duplicate | disabledChannel | strayReply
  | reportsAdmitted (k : ReportClass) | reportsDropped (k : ReportClass) | storeEmptyDrops
  | urgentAcked | urgentRetransmitted | urgentAbandoned | strayAck | txAborted
  | transitDrop | forwardDrop | misdirected | requestDropped | noticeLost | broadcastIgnored
  deriving DecidableEq, Repr

/-! ### Hand-over, free choices, and the state -/

/-- A REQUEST handed to the Executor: whether broadcast, and its payload (R141). -/
structure HandedRequest where
  broadcast : Bool
  payload : List Byte
  deriving DecidableEq, Repr

/-- A frame delivered to Intake, with the part's count of ticks at the end of its reception (R26, R129). -/
structure Arrival where
  frame : SegFrame
  tick : Nat
  deriving DecidableEq, Repr

/-- Frames delivered inward and not yet taken by their block, in order of arrival (R129, R136, R149, R21;
notes/assumptions/6). -/
structure Inbox where
  tu : List TrunkFrame := []
  executor : List HandedRequest := []
  confirm : List (List Byte) := []
  intake : List Arrival := []
  deriving DecidableEq, Repr

/-- A sample that Intake has handed on and the Exception Filter has not yet taken (R27, R40). -/
structure HandedSample where
  channel : Fin 256
  quality : Quality
  value : Word
  sweep : Word
  deriving DecidableEq, Repr

/-- A channel's share of a node-loss notice: the channel, and the node's address, first channel index and closing sweep
number that the notice carries (R32). `past` marks a share that the filter has not taken within its own close (R73;
notes/assumptions/35). -/
structure LossNotice where
  channel : Fin 256
  address : Nat
  first : Nat
  closing : Word
  past : Bool := false
  deriving DecidableEq, Repr

/-- A notice that waits for the filter, by its channel: a share of a node-loss notice (R54) or a drop notice (R57). -/
inductive Notice where
  | share (c : Fin 256)
  | drop (c : Fin 256)
  deriving DecidableEq, Repr

/-- What the filter takes in one act: the first waiting notice of its kind and channel, or the first waiting delivery, whole
(R27, R40). -/
inductive FilterAct where
  | notice (n : Notice)
  | delivery
  deriving DecidableEq, Repr

/-- The acts of a sweep close whose order the spec leaves open (R8, R29, R40, R49, R56, R57, R74): the judgement of a node
entry, one taking of the filter, all shares and all drop notices still waiting, a channel's close duties, all deliveries
still waiting, the commit apply, the advance of the beacon count, and the Controller's own next move (QUIET, STOPPED or the
trigger after a SYNC). -/
inductive CloseAct where
  | judge (i : Fin 24)
  | take (a : FilterAct)
  | shares
  | drops
  | duties (c : Fin 256)
  | deliveries
  | apply
  | beacon
  | proceed
  deriving DecidableEq, Repr

/-- One supply of the choices the spec leaves free inside one command or tick (notes/assumptions/4, 5, 16, 17, 18, 20, 29, 30,
35). -/
structure Choice where
  /-- The acts of a close to take first, in this order; the rest follow in the default order. -/
  acts : List CloseAct := []
  /-- What the filter takes first at a frame or a tick, in this order; the rest follows in the default order (R40, R54, R57). -/
  takes : List FilterAct := []
  /-- Notices that the filter takes between the samples of a delivery, before the sample of the channel named first (R57). -/
  between : List (Fin 256 × Notice) := []
  /-- Channels whose trim drop notices are taken before the runtime resets of the same apply (R89). -/
  dropFirst : List (Fin 256) := []
  /-- Channels whose drop notices the filter takes later than in the act that sends them (R57). -/
  lateDrops : List (Fin 256) := []
  /-- The forwarding copy is offered before the local action (R136). -/
  forwardFirst : Bool := false
  /-- At a link loss, the blocks are told before the port counts and raises the loss (R125). -/
  tellFirst : Bool := false
  /-- The END of the frame in transmission has left when the link is lost (R127). -/
  endLeft : Bool := false
  /-- A pending part reset is taken before the Scheduler is told of the abort, when TU leaves UP (R125). -/
  resetFirst : Bool := false
  /-- The next uplink choice is taken before the owner of the completed TU frame is told (R103, R106). -/
  chooseFirst : Bool := false
  /-- The filter takes the samples handed to it later than in this command (R40). -/
  deliverLate : Bool := false
  /-- Channels whose shares of node-loss notices the filter takes later than in this command (R54, R73). -/
  late : List (Fin 256) := []
  /-- The symbols that leave each transmitter in a tick, up to its line rate (R121; notes/assumptions/20). -/
  symbols : PerPort Nat := ⟨125, 125, 15⟩
  deriving DecidableEq, Repr

structure State where
  /-- The part's count of ticks (R26). -/
  now : Nat := 0
  sweep : Sweep := {}
  nodeCfg : Vector NodeConfig 24 := Vector.replicate 24 {}
  nodeRun : Vector NodeRuntime 24 := Vector.replicate 24 {}
  chanCfg : Vector ChanConfig 256 := Vector.replicate 256 {}
  chanRun : Vector ChanRuntime 256 := Vector.replicate 256 {}
  settings : Settings := {}
  store : Store := {}
  uplink : Uplink := {}
  conf : Confirmation := {}
  links : PerPort LinkPort := ⟨{}, {}, {}⟩
  trunk : Trunk := {}
  mgmt : Management := {}
  /-- The pending relay; none is IDLE (R168). -/
  relay : Option PendingRelay := none
  latch : Latch := {}
  bank : Vector Nat 43 := Vector.replicate 43 0
  inbox : Inbox := {}
  /-- Deliveries handed to the Exception Filter and not yet taken, each the samples of one frame (R27, R40;
  notes/assumptions/30). -/
  handed : List (List HandedSample) := []
  /-- Shares of node-loss notices that the filter has not yet taken (R54, R73; notes/assumptions/35). -/
  notices : List LossNotice := []
  /-- The channels of the drop notices that the filter has not yet taken (R57; notes/assumptions/16). -/
  drops : List (Fin 256) := []
  /-- The model's own supply of free choices (notes/assumptions/4). -/
  choices : List Choice := []
  /-- The commands that wait, first in, first out. -/
  pending : List Instr := []
  deriving DecidableEq, Repr

/-- No command of the part stops it: the spec discards, counts, refuses by status or raises an event in every case
(notes/assumptions/26). -/
inductive Fault where
  deriving DecidableEq, Repr

/-- Why a command has no meaning. -/
inductive Refusal where
  /-- Raised by the dispatcher alone, for a row without a meaning; safe. No row is so answered. -/
  | notModelled (mnemonic : String)
  deriving DecidableEq, Repr

/-- The part right after power-on (the reset values of R1, R20, R39, R79, R92, R107, R122, R135, R147, R168, R175, R184,
R185 and the defaults of R19, R38, R157). -/
def State.reset : State := {}

end Sys2Proof.Machine
end

