-- ==== Sys2Proof/Machine/Frames.lean ====
section
/-! DEFINITION. Bytes and symbols of the line: byte order, the CRC of R131, the layouts of R133 and R134, the kinds of R132,
and the symbols sent (R121). -/

namespace Sys2Proof.Machine

/-- A number in 2 bytes, most significant first (R156). -/
def be16 (n : Nat) : List Byte := [BitVec.ofNat 8 (n / 256), BitVec.ofNat 8 n]

/-- A number in 4 bytes, most significant first (R156: a counter takes 4). -/
def be32 (n : Nat) : List Byte := be16 (n / 65536) ++ be16 n

/-- The byte at a place; the callers have checked the length. -/
def byteAt (bs : List Byte) (i : Nat) : Byte := bs.getD i 0

/-- The 16-bit word at a place, most significant byte first (R156). -/
def wordAt (bs : List Byte) (i : Nat) : Word := byteAt bs i ++ byteAt bs (i + 1)

/-- One shift of the CRC register by the polynomial 1021h (R131). -/
def crcShift (c : Word) : Word := if c.msb then (c <<< 1) ^^^ 0x1021 else c <<< 1

/-- One byte enters the CRC register, most significant bit first (R131). -/
def crcByte (c : Word) (b : Byte) : Word :=
  crcShift (crcShift (crcShift (crcShift (crcShift (crcShift (crcShift (crcShift
    (c ^^^ (b.zeroExtend 16 <<< 8)))))))))

/-- The CRC of R131: the register starts at FFFFh, no reflection, not inverted. -/
def crc16 (bs : List Byte) : Word := bs.foldl crcByte 0xFFFF

/-- The bytes with their CRC after them, most significant byte first (R131). -/
def withCrc (bs : List Byte) : List Byte := bs ++ be16 (crc16 bs).toNat

/-! Kind codes (R132). -/

def kindReport : Byte := 0x01
def kindEvent : Byte := 0x02
def kindResponse : Byte := 0x03
def kindBeacon : Byte := 0x04
def kindAnnounce : Byte := 0x05
def kindRequest : Byte := 0x11
def kindAck : Byte := 0x12
def kindSync : Byte := 0x13
def kindEnumerate : Byte := 0x14
def kindTrigger : Byte := 0x21
def kindNodeCommand : Byte := 0x22
def kindSample : Byte := 0x31
def kindNodeReply : Byte := 0x32

/-- The kinds a port delivers (R130); every other code is misdirected there. -/
def deliveredKinds : Port → List Byte
  | .tu => [kindRequest, kindAck, kindSync, kindEnumerate]
  | .td => [kindReport, kindEvent, kindResponse, kindBeacon, kindAnnounce]
  | .sg => [kindSample, kindNodeReply]

/-- Header and payload of a trunk frame (R133). -/
def TrunkFrame.body (f : TrunkFrame) : List Byte :=
  [f.kind, f.flags, f.dest, f.src, BitVec.ofNat 8 f.payload.length] ++ f.payload

/-- A trunk frame as sent, with its CRC (R126, R131). -/
def TrunkFrame.bytes (f : TrunkFrame) : List Byte := withCrc f.body

/-- A segment frame as sent, with its CRC (R134, R131). -/
def SegFrame.bytes (f : SegFrame) : List Byte :=
  withCrc ([f.kind, f.node, BitVec.ofNat 8 f.payload.length] ++ f.payload)

/-- Reading a trunk frame from its bytes, the CRC dropped (R133). -/
def readTrunk (bs : List Byte) : TrunkFrame :=
  ⟨byteAt bs 0, byteAt bs 1, byteAt bs 2, byteAt bs 3, (bs.drop 5).dropLast.dropLast⟩

/-- Reading a segment frame from its bytes, the CRC dropped (R134). -/
def readSeg (bs : List Byte) : SegFrame :=
  ⟨byteAt bs 0, byteAt bs 1, (bs.drop 3).dropLast.dropLast⟩

/-- The largest frame of a port (R129). -/
def maxFrame : Port → Nat
  | .tu => 103
  | .td => 103
  | .sg => 67

/-! ### The symbols sent (R121, R126) -/

/-- A frame on the line: START, its bytes as DATA symbols in order, END, and two IDLE symbols of gap (R121). -/
def frameSymbols (bytes : List Byte) : List ValidSymbol := .startFrame :: bytes.map .data ++ [.endFrame, .idle, .idle]

/-- The symbols of a frame in transmission, from START to the end of the gap (R121). -/
def Transmission.symbols (t : Transmission) : List ValidSymbol := frameSymbols t.bytes

/-- `n` more symbols leave, but for the last IDLE of the gap, which leaves at TRANSMISSION_COMPLETE (R126). -/
def Transmission.send (n : Nat) (t : Transmission) : Transmission :=
  { t with sent := min (t.symbols.length - 1) (t.sent + n) }

/-- The END of the frame has left (R127): the START, the bytes and the END are gone. -/
def Transmission.endGone (t : Transmission) : Bool := decide (t.bytes.length + 2 ≤ t.sent)

/-- The symbol that the transmitter sends now: the next one of its frame, and IDLE while it sends none, whatever the link
state of its port (R121). -/
def LinkPort.sends (lp : LinkPort) : ValidSymbol :=
  match lp.tx with
  | some t => t.symbols.getD t.sent .idle
  | none => .idle

/-- The most symbols that leave a transmitter in a tick of 10 microseconds: one in 80 ns on TU and TD, 640 ns on SG (R121). -/
def symbolsPerTick : Port → Nat
  | .tu => 125
  | .td => 125
  | .sg => 16

/-! ### The checks of a closed frame (R129, R130) -/

/-- Header bytes of a port's frames (R129). -/
def headerLength : Port → Nat
  | .tu => 5
  | .td => 5
  | .sg => 3

/-- Whether the CRC in the last two bytes is that of the bytes before them (R129 check 2). -/
def crcGood (bs : List Byte) : Bool :=
  be16 (crc16 bs.dropLast.dropLast).toNat == bs.drop (bs.length - 2)

/-- Whether a frame's kind and addresses are misdirected on its port (R130). -/
def misdirected (p : Port) (bs : List Byte) : Bool :=
  !(deliveredKinds p).contains (byteAt bs 0) ||
    match p with
    | .sg => 63 < (byteAt bs 1).toNat
    | _ => 31 < (byteAt bs 2).toNat || 31 < (byteAt bs 3).toNat

/-- The payload length a frame's header states (R129 check 3). -/
def statedLength (p : Port) (bs : List Byte) : Nat := (byteAt bs (headerLength p - 1)).toNat

/-- The counter of the first check of R129 that a closed frame fails, none when the frame is good. -/
def failedCheck (p : Port) (rx : Reception) : Option Counter :=
  if rx.oversize || rx.bytes.length < headerLength p + 2 then some (.lengthErrors p)
  else if rx.spoilt || !crcGood rx.bytes then some (.crcErrors p)
  else if statedLength p rx.bytes + headerLength p + 2 != rx.bytes.length then some (.lengthErrors p)
  else if misdirected p rx.bytes then some .misdirected
  else if (byteAt rx.bytes 0 == kindSync || byteAt rx.bytes 0 == kindEnumerate) && statedLength p rx.bytes != 2 then
    some (.lengthErrors p)
  else none

end Sys2Proof.Machine
end

