-- ==== Sys2Proof/Machine/Flags.lean ====
section
/-! DEFINITION. Codes, bits and flag bytes: the numbers of the named values (R133, R150, R156, R176), the flags byte of a
trunk header (R131), the marks and causes of a report record (R133), and sets of event kinds (R156). -/

namespace Sys2Proof.Machine

/-- URGENT is bit 0 of the flags byte (R131). -/
def urgentBit (flags : Byte) : Bool := flags.getLsbD 0

/-- The flags byte of a first urgent transmission (R131, R97). -/
def flagUrgent : Byte := 0x01

/-- The flags byte of a retransmission: URGENT and RETRANSMIT (R131, R95). -/
def flagUrgentRetransmit : Byte := 0x03

def boolCode (b : Bool) : Byte := if b then 1 else 0

def Quality.code : Quality → Byte
  | .good => 0
  | .overrange => 1
  | .fault => 2
  | .noData => 3

/-- The quality of a 2-bit code (R134): every code is one of the four (R22). -/
def qualityOfBits (q : BitVec 2) : Quality :=
  if q = 0 then .good else if q = 1 then .overrange else if q = 2 then .fault else .noData

def ChangeRule.code : ChangeRule → Byte
  | .none => 0
  | .deadband => 1
  | .every => 2

def ReportClass.code : ReportClass → Byte
  | .c0 => 0
  | .c1 => 1
  | .c2 => 2
  | .c3 => 3

def LimitState.code : LimitState → Byte
  | .unknown => 0
  | .normal => 1
  | .high => 2
  | .low => 3

def Presence.code : Presence → Byte
  | .unknown => 0
  | .present => 1
  | .missing => 2
  | .absent => 3

def SweepState.code : SweepState → Byte
  | .stopped => 0
  | .collecting => 1
  | .quiet => 2

def SweepSource.code : SweepSource → Byte
  | .localTimer => 0
  | .trunk => 1

def LinkState.code : LinkState → Byte
  | .down => 0
  | .aligning => 1
  | .up => 2

def SessionState.code : SessionState → Byte
  | .none => 0
  | .opened => 1
  | .commitPending => 2

def Port.code : Port → Byte
  | .tu => 0
  | .td => 1
  | .sg => 2

/-- Statuses numbered from 0 in the order of R150 (R156). -/
def Status.code : Status → Byte
  | .ok => 0
  | .unknownRequest => 1
  | .badFormat => 2
  | .badIndex => 3
  | .badValue => 4
  | .busy => 5
  | .notAllowed => 6
  | .noSession => 7
  | .wrongSession => 8
  | .sessionHeld => 9
  | .stageFull => 10
  | .commitRejected => 11
  | .linkDown => 12
  | .relayTimeout => 13

/-- The causes byte of a report record: bits 5..0 (R133). -/
def Causes.bits (c : Causes) : Byte :=
  boolCode c.initial ||| boolCode c.change <<< 1 ||| boolCode c.limit <<< 2 ||| boolCode c.quality <<< 3 |||
    boolCode c.refresh <<< 4 ||| boolCode c.forced <<< 5

/-- Whether any cause is present. -/
def Causes.any (c : Causes) : Bool :=
  c.initial || c.change || c.limit || c.quality || c.refresh || c.forced

/-- Byte 3 of a report record: AGED, GAP and the causes (R133). -/
def marksByte (r : Report) : Byte := boolCode r.aged <<< 7 ||| boolCode r.gap <<< 6 ||| r.causes.bits

/-- The kind's place among the thirteen, from 0. -/
def EventKind.index : EventKind → Fin 13
  | .nodeLost => 0
  | .nodeBack => 1
  | .classDrop => 2
  | .storeEmpty => 3
  | .urgentAbandoned => 4
  | .transitDrop => 5
  | .forwardDrop => 6
  | .linkLoss => 7
  | .sessionExpired => 8
  | .sampleAnomaly => 9
  | .relayTimeout => 10
  | .syncGap => 11
  | .requestDrop => 12

/-- The kind number of R176, 1 to 13. -/
def EventKind.number (k : EventKind) : Nat := k.index.val + 1

/-- The thirteen kinds in the order of their numbers (R176). -/
def EventKind.all : List EventKind :=
  [.nodeLost, .nodeBack, .classDrop, .storeEmpty, .urgentAbandoned, .transitDrop, .forwardDrop, .linkLoss,
    .sessionExpired, .sampleAnomaly, .relayTimeout, .syncGap, .requestDrop]

/-- A set of kinds names a kind: bit k (R156). -/
def names (set : Word) (k : EventKind) : Bool := set.getLsbD k.number

/-- A set of kinds names only kinds the part defines: bits 0, 14 and 15 are clear (R156, R176). -/
def kindsDefined (set : Word) : Bool := !set.getLsbD 0 && !set.getLsbD 14 && !set.getLsbD 15

/-- The latched set as a set of kinds (R156). -/
def latchedSet (l : Latch) : Word :=
  EventKind.all.foldl (fun w k => if (l.latched[k.index]).isSome then w ||| (1#16 <<< k.number) else w) 0

/-- Counters in the order of the Counter Bank: LINK for TU, TD, SG, then SAMPLE, REPORT, TRANSIT (R182, R183). -/
def Counter.index : Counter → Fin 43
  | .framesIn .tu => 0
  | .framesOut .tu => 1
  | .crcErrors .tu => 2
  | .lengthErrors .tu => 3
  | .linkLosses .tu => 4
  | .framesIn .td => 5
  | .framesOut .td => 6
  | .crcErrors .td => 7
  | .lengthErrors .td => 8
  | .linkLosses .td => 9
  | .framesIn .sg => 10
  | .framesOut .sg => 11
  | .crcErrors .sg => 12
  | .lengthErrors .sg => 13
  | .linkLosses .sg => 14
  | .sampleFrames => 15
  | .samplesAccepted => 16
  | .late => 17
  | .stale => 18
  | .unmapped => 19
  | .duplicate => 20
  | .disabledChannel => 21
  | .strayReply => 22
  | .reportsAdmitted .c0 => 23
  | .reportsAdmitted .c1 => 24
  | .reportsAdmitted .c2 => 25
  | .reportsAdmitted .c3 => 26
  | .reportsDropped .c0 => 27
  | .reportsDropped .c1 => 28
  | .reportsDropped .c2 => 29
  | .reportsDropped .c3 => 30
  | .storeEmptyDrops => 31
  | .urgentAcked => 32
  | .urgentRetransmitted => 33
  | .urgentAbandoned => 34
  | .strayAck => 35
  | .txAborted => 36
  | .transitDrop => 37
  | .forwardDrop => 38
  | .misdirected => 39
  | .requestDropped => 40
  | .noticeLost => 41
  | .broadcastIgnored => 42

/-- A counter group of READ_COUNTERS: the first place and the number of its counters; groups are numbered LINK, SAMPLE,
REPORT, TRANSIT from 0 (R156, R183). -/
def counterGroup (code : Byte) : Option (Nat × Nat) :=
  if code = 0 then some (0, 15) else if code = 1 then some (15, 8) else if code = 2 then some (23, 14)
  else if code = 3 then some (37, 6) else none

end Sys2Proof.Machine
end

