-- ==== Sys2Proof/Machine/Ops.lean ====
section
/-! DEFINITION. The named operations every block shares: access to ports, classes and tables, counters, the Event Latch,
MQ, slots, drop notices, the passing of time, and the starting and sending of a transmission. -/

namespace Sys2Proof.Machine

def PerPort.get {α : Type} (x : PerPort α) : Port → α
  | .tu => x.tu
  | .td => x.td
  | .sg => x.sg

def PerPort.set {α : Type} (x : PerPort α) (p : Port) (a : α) : PerPort α :=
  match p with
  | .tu => { x with tu := a }
  | .td => { x with td := a }
  | .sg => { x with sg := a }

def Quad.get {α : Type} (x : Quad α) : ReportClass → α
  | .c0 => x.q0
  | .c1 => x.q1
  | .c2 => x.q2
  | .c3 => x.q3

def Quad.set {α : Type} (x : Quad α) (k : ReportClass) (a : α) : Quad α :=
  match k with
  | .c0 => { x with q0 := a }
  | .c1 => { x with q1 := a }
  | .c2 => { x with q2 := a }
  | .c3 => { x with q3 := a }

def State.link (s : State) (p : Port) : LinkPort := s.links.get p

def State.setLink (s : State) (p : Port) (lp : LinkPort) : State := { s with links := s.links.set p lp }

/-- Whether a port is UP. -/
def State.isUp (s : State) (p : Port) : Bool := (s.link p).state == .up

/-- A class queue (R79). -/
def State.queue (s : State) (k : ReportClass) : List Report := s.store.cq.get k

def State.setQueue (s : State) (k : ReportClass) (q : List Report) : State :=
  { s with store := { s.store with cq := s.store.cq.set k q } }

def State.setNodeRun (s : State) (i : Fin 24) (r : NodeRuntime) : State := { s with nodeRun := s.nodeRun.set i r }

def State.setChanRun (s : State) (c : Fin 256) (r : ChanRuntime) : State := { s with chanRun := s.chanRun.set c r }

/-- The value of a counter. -/
def State.counter (s : State) (c : Counter) : Nat := s.bank[c.index]

/-- `n` increments of a counter: each adds one, and a counter at its largest value stays there (R182). -/
def State.countBy (s : State) (c : Counter) (n : Nat) : State :=
  { s with bank := s.bank.set c.index (min Config.counterMax (s.counter c + n)) }

/-- One increment of a counter (R182). -/
def State.count (s : State) (c : Counter) : State := s.countBy c 1

/-! ### MQ (R148) -/

/-- Slots of MQ that are free: neither holding an item nor reserved (R148). -/
def State.mqFree (s : State) : Nat := Config.mqSlots - (s.mgmt.items.length + s.mgmt.reserved.length)

/-- An item joins the tail of MQ (R148). -/
def State.pushMq (s : State) (i : MqItem) : State := { s with mgmt := { s.mgmt with items := s.mgmt.items ++ [i] } }

/-- A notice or ANNOUNCE takes a free, unreserved slot, or is lost and counted (R148). -/
def State.offerMq (s : State) (i : MqItem) : State :=
  if 0 < s.mqFree then s.pushMq i else s.count .noticeLost

/-- Admission reserves a free slot for the response (R149). -/
def State.reserve (s : State) (tag code : Byte) : State :=
  { s with mgmt := { s.mgmt with reserved := ⟨tag, code⟩ :: s.mgmt.reserved } }

/-- The production of a response fills its reserved slot, which joins the tail (R148). -/
def State.respond (s : State) (tag code : Byte) (status : Status) (results : List Byte) : State :=
  if (⟨tag, code⟩ : Reservation) ∈ s.mgmt.reserved then
    { s with mgmt := { s.mgmt with
        reserved := s.mgmt.reserved.erase ⟨tag, code⟩
        items := s.mgmt.items ++ [.response tag code status results] } }
  else s

/-- The production of the response that waits for a request of this code: a pending COMMIT's or a relay's (R164, R168). -/
def State.respondTo (s : State) (code : Byte) (status : Status) (results : List Byte) : State :=
  match s.mgmt.reserved.find? (fun r => r.code == code) with
  | some r => s.respond r.tag r.code status results
  | none => s

/-! ### Event Latch (R177, R178) -/

/-- An occurrence is raised: the kind latches with its detail and sweep number if it is not latched, and sends a notice if
it is in the notify set (R177). -/
def State.raise (s : State) (k : EventKind) (detail : Byte) (sweep : Word) : State :=
  match s.latch.latched[k.index] with
  | some _ => s
  | none =>
    let s1 := { s with latch := { s.latch with latched := s.latch.latched.set k.index (some ⟨detail, sweep⟩) } }
    if names s.latch.notify k then s1.offerMq (.event k sweep detail) else s1

/-- An occurrence that carries the current sweep number (R176). -/
def State.raiseNow (s : State) (k : EventKind) (detail : Byte) : State := s.raise k detail s.sweep.number

/-! ### Slots and drop notices (R57, R83) -/

/-- The store tells the latch that STORE_EMPTY has become true (R178). -/
def State.tellStoreEmpty (s : State) : State :=
  ({ s with latch := { s.latch with storeEmpty := true } } : State).raiseNow .storeEmpty 0

/-- Slots return to the free list; with at least one, STORE_EMPTY is false afterwards (R83). -/
def State.freeSlots (s : State) (n : Nat) : State :=
  if n = 0 then s
  else { s with
    store := { s.store with free := s.store.free + n }
    latch := { s.latch with storeEmpty := false } }

/-- A drop notice sets the channel's gap flag and nothing else (R57). -/
def State.dropNotice (s : State) (c : Fin 256) : State := s.setChanRun c { s.chanRun[c] with gap := true }

/-- Drop notices that the filter takes, in order (R86, R88). -/
def State.dropNotices (s : State) (cs : List (Fin 256)) : State := cs.foldl State.dropNotice s

/-- Drop notices are sent, in order: the filter takes each at once, but for those of the channels in `late`, which wait for
it (R57; notes/assumptions/16). -/
def State.sendDrops (s : State) (late cs : List (Fin 256)) : State :=
  ({ s with drops := s.drops ++ cs.filter (fun c => decide (c ∈ late)) } : State).dropNotices
    (cs.filter (fun c => decide (c ∉ late)))

/-- The drop notices that wait are taken, but for those of the channels in `late`, which go on waiting (R57). -/
def State.takeDrops (s : State) (late : List (Fin 256)) : State := ({ s with drops := [] } : State).sendDrops late s.drops

/-- A drop notice of one channel, if one waits, is taken (R57). -/
def State.takeDropOf (s : State) (c : Fin 256) : State :=
  if c ∈ s.drops then ({ s with drops := s.drops.erase c } : State).dropNotice c else s

/-! ### Free choices (notes/assumptions/4) -/

/-- The next supply of free choices, the default one when the list is empty. -/
def State.choice (s : State) : Choice := s.choices.headD {}

/-- The supply is used up. -/
def State.dropChoice (s : State) : State := { s with choices := s.choices.tail }

/-! ### Time (00 section 1.5, R113, R122) -/

/-- A WAITING entry's remaining time falls (R110). -/
def Entry.elapse (dt : Nat) (e : Entry) : Entry :=
  match e.state with
  | .waiting r => { e with state := .waiting (r - dt) }
  | .sending => e
  | .due => e

/-- The error history keeps the code errors of the last 100 ticks (R122; notes/assumptions/10). -/
def recentErrors (now : Nat) (errors : List Nat) : List Nat := errors.filter (fun t => now - t ≤ Config.noiseSpan)

/-- The silence measure grows, up to the 10 ticks at which the loss is due (R124; notes/assumptions/11). -/
def LinkPort.elapse (now dt : Nat) (lp : LinkPort) : LinkPort :=
  { lp with
    silence := lp.silence.map (fun t => min Config.silenceTicks (t + dt))
    errors := recentErrors now lp.errors }

/-- The relay timer runs in LISTENING only (R168). -/
def PendingRelay.elapse (dt : Nat) (r : PendingRelay) : PendingRelay :=
  match r.phase with
  | .listening t => { r with phase := .listening (t - dt) }
  | .queued => r
  | .sending => r

/-- `dt` ticks pass: every running timer falls, to 0 at the lowest, where its expiry waits to be taken. The remaining times
of WAITING entries fall only while TU is UP (R113). -/
def State.advance (s : State) (dt : Nat) : State :=
  let now := s.now + dt
  { s with
    now := now
    sweep := { s.sweep with
      window := s.sweep.window.map (· - dt)
      supervision := s.sweep.supervision.map (· - dt) }
    conf := if s.isUp .tu then { s.conf with entries := s.conf.entries.map (Entry.elapse dt) } else s.conf
    links := ⟨s.links.tu.elapse now dt, s.links.td.elapse now dt, s.links.sg.elapse now dt⟩
    mgmt := { s.mgmt with session := { s.mgmt.session with idle := s.mgmt.session.idle.map (· - dt) } }
    relay := s.relay.map (PendingRelay.elapse dt) }

/-! ### Transmission (R126) -/

/-- The transmitter of a port is idle and its link UP, so its owner may hand it a frame (R126). -/
def State.canSend (s : State) (p : Port) : Bool := s.isUp p && (s.link p).tx.isNone

/-- A port starts the transmission of a frame for its owner (R126). -/
def State.startTx (s : State) (p : Port) (bytes : List Byte) (owner : Owner) : State :=
  s.setLink p { s.link p with tx := some ⟨bytes, owner, 0⟩ }

/-- Symbols leave a port's transmitter: the number supplied, at most as many as its line rate allows (R121). -/
def LinkPort.transmit (p : Port) (supplied : Nat) (lp : LinkPort) : LinkPort :=
  { lp with tx := lp.tx.map (Transmission.send (min (symbolsPerTick p) supplied)) }

/-- Symbols leave the three transmitters (R121; notes/assumptions/20). -/
def State.transmit (s : State) (supplied : PerPort Nat) : State :=
  { s with links := ⟨s.links.tu.transmit .tu supplied.tu, s.links.td.transmit .td supplied.td,
      s.links.sg.transmit .sg supplied.sg⟩ }

/-! ### Forwarding downward (R142) -/

/-- A frame to be forwarded joins the tail of DFQ, or is discarded, counted and raised (R142). -/
def State.forwardOffer (s : State) (f : TrunkFrame) : State :=
  if s.isUp .td && decide (s.trunk.dfq.length < Config.dfqSlots) then
    { s with trunk := { s.trunk with dfq := s.trunk.dfq ++ [f] } }
  else (s.count .forwardDrop).raiseNow .forwardDrop 0

/-! ### Channels and their nodes -/

/-- The channel index range of a node entry holds the index (R19). -/
def NodeConfig.covers (n : NodeConfig) (c : Nat) : Bool :=
  decide (n.first ≤ c) && decide (c < n.first + n.count)

/-- The enabled node entry whose range holds a channel index (R46): at most one, since ranges are separate (R163). -/
def State.nodeOf (s : State) (c : Fin 256) : Option NodeConfig :=
  s.nodeCfg.toList.find? (fun n => n.enabled && n.covers c.val)

/-- The node address a report of the channel carries (R46); a free value where no enabled node entry covers the channel,
which a sample taken after the apply of its close can meet (R40; notes/assumptions/25). -/
def State.nodeAddress (s : State) (c : Fin 256) : Nat :=
  match s.nodeOf c with
  | some n => n.address
  | none => (Config.unmappedAddress s.now c).toNat

/-- The channel number a report of the channel carries (R46); a free value in the same case (notes/assumptions/25). -/
def State.channelNumber (s : State) (c : Fin 256) : Nat :=
  match s.nodeOf c with
  | some n => c.val - n.first
  | none => (Config.unmappedNumber s.now c).toNat

end Sys2Proof.Machine
end

