-- ==== Sys2Proof/Machine/Operands.lean ====
section
/-! DEFINITION. Every operand form of the commands: the records of R156 with their ranges, read from and written to bytes;
the report record and the payloads of R133; the SAMPLE payload of R134. -/

namespace Sys2Proof.Machine

/-! ### Bytes read as named values; a byte outside the list is outside the field's range (R156) -/

def parseBool (b : Byte) : Option Bool := if b = 0 then some false else if b = 1 then some true else none

def parseClass (b : Byte) : Option ReportClass :=
  if b = 0 then some .c0 else if b = 1 then some .c1 else if b = 2 then some .c2 else if b = 3 then some .c3 else none

def parseRule (b : Byte) : Option ChangeRule :=
  if b = 0 then some .none else if b = 1 then some .deadband else if b = 2 then some .every else none

def parseSource (b : Byte) : Option SweepSource :=
  if b = 0 then some .localTimer else if b = 1 then some .trunk else none

def parseScope (b : Byte) : Option Scope := if b = 0 then some .runtime else if b = 1 then some .tables else none

/-- The four policies in one byte, bit k set for KEEP_NEW in CQk; a higher bit names no queue (R156;
notes/assumptions/13). -/
def parsePolicies (b : Byte) : Option (Quad Policy) :=
  let at' (k : Nat) : Policy := if b.getLsbD k then .keepNew else .keepOld
  if b.toNat ≤ 15 then some ⟨at' 0, at' 1, at' 2, at' 3⟩ else none

def policiesByte (q : Quad Policy) : Byte :=
  boolCode (q.q0 == .keepNew) ||| boolCode (q.q1 == .keepNew) <<< 1 ||| boolCode (q.q2 == .keepNew) <<< 2 |||
    boolCode (q.q3 == .keepNew) <<< 3

def byteOf (n : Nat) : Byte := BitVec.ofNat 8 n

/-! ### Node record, 5 bytes in the order of R19 -/

/-- The ranges of R19, with the two joint conditions of its last paragraph. -/
def NodeConfig.inRange (n : NodeConfig) : Bool :=
  decide (n.address ≤ 62) && decide (n.first ≤ 255) && decide (1 ≤ n.count) && decide (n.count ≤ 16) &&
    decide (n.first + n.count - 1 ≤ 255) && !(n.enabled && n.address == 0)

def nodeBytes (n : NodeConfig) : List Byte :=
  [boolCode n.enabled, byteOf n.address, byteOf n.first, byteOf n.count, boolCode n.required]

/-- A node record; none when a field is outside its range (R161). -/
def parseNode (f : List Byte) : Option NodeConfig :=
  match parseBool (byteAt f 0), parseBool (byteAt f 4) with
  | some enabled, some required =>
    let n : NodeConfig := ⟨enabled, (byteAt f 1).toNat, (byteAt f 2).toNat, (byteAt f 3).toNat, required⟩
    if n.inRange then some n else none
  | _, _ => none

/-! ### Channel record, 17 bytes in the order of R38 -/

/-- The ranges of R38 that the field's own width does not bound. -/
def ChanConfig.inRange (c : ChanConfig) : Bool :=
  decide (c.deadband ≤ 32767) && decide (c.holdOff ≤ 255) && decide (c.heartbeat ≤ 65535) &&
    decide (c.hysteresis ≤ 65535) && decide (1 ≤ c.persistence) && decide (c.persistence ≤ 8)

def channelBytes (c : ChanConfig) : List Byte :=
  [boolCode c.enabled, c.rule.code] ++ be16 c.deadband ++ [byteOf c.holdOff] ++ be16 c.heartbeat ++
    [c.changeClass.code, boolCode c.supervision] ++ be16 c.high.toNat ++ be16 c.low.toNat ++ be16 c.hysteresis ++
    [byteOf c.persistence, c.limitClass.code]

/-- A channel record; none when a field is outside its range (R161). -/
def parseChannel (f : List Byte) : Option ChanConfig :=
  match parseBool (byteAt f 0), parseRule (byteAt f 1), parseClass (byteAt f 7), parseBool (byteAt f 8),
      parseClass (byteAt f 16) with
  | some enabled, some rule, some changeClass, some supervision, some limitClass =>
    let c : ChanConfig :=
      { enabled := enabled, rule := rule, deadband := (wordAt f 2).toNat, holdOff := (byteAt f 4).toNat,
        heartbeat := (wordAt f 5).toNat, changeClass := changeClass, supervision := supervision, high := wordAt f 9,
        low := wordAt f 11, hysteresis := (wordAt f 13).toNat, persistence := (byteAt f 15).toNat,
        limitClass := limitClass }
    if c.inRange then some c else none
  | _, _, _, _, _ => none

/-! ### Settings record, 26 bytes in the order of R157 -/

/-- A bound of a numeric setting. -/
def within (lo hi n : Nat) : Bool := decide (lo ≤ n) && decide (n ≤ hi)

/-- The ranges of R157; the window against the period is checked at COMMIT. -/
def Settings.inRange (t : Settings) : Bool :=
  within 10 60000 t.period && within 5 59999 t.window && within 1 15 t.absentLimit &&
    within 1 384 t.limits.q0 && within 1 384 t.limits.q1 && within 1 384 t.limits.q2 && within 1 384 t.limits.q3 &&
    within 1 15 t.w1 && within 1 15 t.w2 && within 1 15 t.w3 && within 1 15 t.wt && within 1 8 t.packLimit &&
    within 1 255 t.retransTimeout && within 0 7 t.retryLimit && within 1 255 t.relayTimeout &&
    within 1 255 t.idleTimeout && within 0 4095 t.beaconInterval

def settingsBytes (t : Settings) : List Byte :=
  be16 t.period ++ be16 t.window ++ [t.source.code, byteOf t.absentLimit] ++ be16 t.limits.q0 ++ be16 t.limits.q1 ++
    be16 t.limits.q2 ++ be16 t.limits.q3 ++
    [policiesByte t.policies, byteOf t.w1, byteOf t.w2, byteOf t.w3, byteOf t.wt, byteOf t.packLimit,
      byteOf t.retransTimeout, byteOf t.retryLimit, byteOf t.relayTimeout, byteOf t.idleTimeout] ++ be16 t.beaconInterval

/-- A settings record; none when a field is outside its range (R161). -/
def parseSettings (f : List Byte) : Option Settings :=
  match parseSource (byteAt f 4), parsePolicies (byteAt f 14) with
  | some source, some policies =>
    let t : Settings :=
      { period := (wordAt f 0).toNat, window := (wordAt f 2).toNat, source := source,
        absentLimit := (byteAt f 5).toNat,
        limits := ⟨(wordAt f 6).toNat, (wordAt f 8).toNat, (wordAt f 10).toNat, (wordAt f 12).toNat⟩,
        policies := policies, w1 := (byteAt f 15).toNat, w2 := (byteAt f 16).toNat, w3 := (byteAt f 17).toNat,
        wt := (byteAt f 18).toNat, packLimit := (byteAt f 19).toNat, retransTimeout := (byteAt f 20).toNat,
        retryLimit := (byteAt f 21).toNat, relayTimeout := (byteAt f 22).toNat, idleTimeout := (byteAt f 23).toNat,
        beaconInterval := (wordAt f 24).toNat }
    if t.inRange then some t else none
  | _, _ => none

/-! ### Result fields -/

/-- A field that may be absent: one byte 0 or 1, and value bytes that are 0 when it is absent (R156). -/
def optional16 : Option Nat → List Byte
  | none => [0, 0, 0]
  | some n => 1 :: be16 n

/-- The runtime of a node entry, in the order of R20 (R34). -/
def nodeRuntimeBytes (r : NodeRuntime) : List Byte :=
  [r.presence.code, byteOf r.misses, boolCode r.responded] ++ optional16 r.lastLatency ++ optional16 r.worstLatency

/-- The runtime record of a channel entry, in the order of R39 (R60). -/
def channelRuntimeBytes (r : ChanRuntime) : List Byte :=
  (match r.lastReported with
    | none => [0, 0, 0, 0]
    | some x => [1] ++ be16 x.value.toNat ++ [x.quality.code]) ++
  (match r.latest with
    | none => [0, 0, 0, 0, 0, 0]
    | some x => [1] ++ be16 x.value.toNat ++ [x.quality.code] ++ be16 x.sweep.toNat) ++
  be16 r.sinceReport ++
  [boolCode r.pendingChange, boolCode r.forcePending, boolCode r.gap, r.limit.code, byteOf r.count] ++
  (match r.candidate with
    | none => [0, 0]
    | some x => [1, x.code])

/-- The identity record, 11 bytes (R153, R156). -/
def identityBytes : List Byte :=
  [byteOf Config.vendorCode, byteOf Config.familyCode, byteOf Config.partCode, byteOf Config.revisionCode,
    byteOf Config.nodeEntries] ++ be16 Config.channelEntries ++ be16 Config.storeSlots ++
    [byteOf Config.outstandingSlots, byteOf Config.stagingItems]

/-- The target of a staged item, 2 bytes (R156). -/
def StagedItem.targetBytes : StagedItem → List Byte
  | .node i _ => [0, byteOf i.val]
  | .channel c _ => [1, byteOf c.val]
  | .settings _ => [2, 0]

/-- The record of a staged item (R162). -/
def StagedItem.recordBytes : StagedItem → List Byte
  | .node _ n => nodeBytes n
  | .channel _ c => channelBytes c
  | .settings t => settingsBytes t

/-- A detail byte and a sweep number for one kind, 0 for a kind not latched (R156). -/
def occurrenceBytes : Option Occurrence → List Byte
  | none => [0, 0, 0]
  | some o => o.detail :: be16 o.sweep.toNat

/-! ### Report record, 10 bytes, and upward payloads (R133) -/

def reportBytes (r : Report) : List Byte :=
  [(byteOf r.node <<< 2) ||| r.quality.code, byteOf r.channel.val,
    (byteOf r.number <<< 4) ||| (r.limit.code <<< 2) ||| r.cls.code, marksByte r] ++
    be16 r.sweep.toNat ++ be16 r.value.toNat ++ [r.seq, byteOf r.attempt <<< 4]

/-- The payload of a REPORT frame: a count byte and the records (R102). -/
def reportPayload (rs : List Report) : List Byte := byteOf rs.length :: (rs.map reportBytes).flatten

/-- Kind code and payload of an item of MQ (R98, R132, R133, R156). -/
def MqItem.kindAndPayload : MqItem → Byte × List Byte
  | .response tag code status results => (kindResponse, [tag, code, status.code] ++ results)
  | .event k sweep detail => (kindEvent, byteOf k.number :: be16 sweep.toNat ++ [detail])
  | .announce => (kindAnnounce, [0, Status.ok.code] ++ identityBytes)

/-! ### SAMPLE payload (R134) -/

structure Sample where
  number : Nat
  quality : Quality
  value : Word
  deriving DecidableEq, Repr

/-- Sample i of a SAMPLE payload (R134); bits 7..6 of its first byte are ignored. -/
def sampleAt (payload : List Byte) (i : Nat) : Sample :=
  let b := byteAt payload (3 + 3 * i)
  ⟨(b.extractLsb' 0 4).toNat, qualityOfBits (b.extractLsb' 4 2), wordAt payload (4 + 3 * i)⟩

/-- The samples of a well-formed payload in frame order (R27, R134). -/
def samplesOf (payload : List Byte) : List Sample :=
  (List.range (byteAt payload 2).toNat).map (sampleAt payload)

/-- The form check of R22: a count of 1 to 16, and a payload of 3 plus 3 times the count. -/
def sampleForm (payload : List Byte) : Bool :=
  within 1 16 (byteAt payload 2).toNat && payload.length == 3 + 3 * (byteAt payload 2).toNat

/-- The form check of an ACK: a count of 1 to 8 and that many sequence numbers (R115). -/
def ackForm (payload : List Byte) : Bool :=
  within 1 8 (byteAt payload 0).toNat && payload.length == 1 + (byteAt payload 0).toNat

end Sys2Proof.Machine
end

