-- ==== Sys2Proof/Machine/Confirm.lean ====
section
/-! DEFINITION. The Confirmation Unit: chapter 07 (R107 to R118). -/

namespace Sys2Proof.Machine

/-- A frame is taken out of a hand-over list where it stands at the head (notes/assumptions/6). -/
def dropHead {α : Type} [DecidableEq α] (x : α) : List α → List α
  | [] => []
  | y :: rest => if y = x then rest else y :: rest

/-- The entry that holds a sequence number (R107: at most one). -/
def State.entry (s : State) (q : Byte) : Option Entry := s.conf.entries.find? (fun e => e.seq == q)

/-- The entry of this sequence number is replaced by `e'`. -/
def replaceEntry (entries : List Entry) (e' : Entry) : List Entry :=
  entries.map (fun e => if e.seq = e'.seq then e' else e)

def State.setEntry (s : State) (e : Entry) : State :=
  { s with conf := { s.conf with entries := replaceEntry s.conf.entries e } }

/-- The search of R108: from `q`, the first number held by no entry within `n` steps. -/
def freeNumber (entries : List Entry) : Nat → Byte → Byte
  | 0, q => q
  | n + 1, q => if entries.any (fun e => e.seq == q) then freeNumber entries n (q + 1) else q

/-- The sequence number of the next entry (R108: found within 16 steps). -/
def State.nextNumber (s : State) : Byte := freeNumber s.conf.entries 16 s.conf.nextSeq

/-- An entry leaves the list and the DUE order, and its slot returns to the free list (R87). -/
def State.removeEntry (s : State) (q : Byte) : State :=
  ({ s with conf := { s.conf with
      entries := s.conf.entries.eraseP (fun e => e.seq == q)
      due := s.conf.due.erase q } } : State).freeSlots 1

/-- Removal on acknowledgement, disposition DELIVERED (R87, R110, R111, R115). -/
def State.deliverEntry (s : State) (q : Byte) : State := (s.removeEntry q).count .urgentAcked

/-- Removal past the retry limit, disposition ABANDONED, with its drop notice (R87, R112). -/
def State.abandonEntry (s : State) (e : Entry) : State :=
  (((s.dropChoice.removeEntry e.seq).sendDrops s.choice.lateDrops [e.report.channel]).count .urgentAbandoned).raiseNow
    .urgentAbandoned 0

/-- An entry becomes DUE and joins the tail of the DUE order (R107). -/
def State.makeDue (s : State) (e : Entry) : State :=
  let s1 := s.setEntry { e with state := .due }
  { s1 with conf := { s1.conf with due := s1.conf.due ++ [e.seq] } }

/-- A report taken from CQ0 becomes a SENDING entry, attempt 1, its record numbered (R109). -/
def State.addEntry (s : State) (r : Report) : State :=
  let q := s.nextNumber
  { s with conf := { s.conf with
      entries := s.conf.entries ++ [⟨{ r with seq := q, attempt := 1 }, q, 1, .sending, false⟩]
      nextSeq := q + 1 } }

/-- The entry a tier 1 take sends: SENDING with its attempt advanced and written into its record (R114). -/
def Entry.resend (e : Entry) : Entry :=
  { e with state := .sending, attempt := e.attempt + 1, report := { e.report with attempt := e.attempt + 1 } }

/-- The take of a DUE entry (R114). -/
def State.takeDue (s : State) (e : Entry) : State :=
  let s1 := s.setEntry e.resend
  ({ s1 with conf := { s1.conf with due := s1.conf.due.erase e.seq } } : State).count .urgentRetransmitted

/-- The transmission of an urgent frame has completed (R110). -/
def State.urgentCompleted (s : State) (q : Byte) : State :=
  match s.entry q with
  | none => s
  | some e =>
    if e.acked then s.deliverEntry q
    else s.setEntry { e with state := .waiting (s.settings.retransTimeout * Config.ticksPerMs) }

/-- The transmission of an urgent frame was aborted (R111). -/
def State.urgentAborted (s : State) (q : Byte) : State :=
  match s.entry q with
  | none => s
  | some e => if e.acked then s.deliverEntry q else s.makeDue { e with attempt := e.attempt - 1 }

/-- The expiry of a WAITING entry, under the retry limit read now (R112, R117). -/
def State.expireEntry (s : State) (e : Entry) : State :=
  if e.attempt ≤ s.settings.retryLimit then s.makeDue e else s.abandonEntry e

/-- RETRANSMISSION_EXPIRY: the time of the WAITING entry of this number runs out with TU UP (R112, R113;
notes/assumptions/2). -/
def execRetransmissionExpiry (q : Byte) (s : State) : Host.Outcome State Fault Refusal :=
  .next (match s.entry q with
    | none => s
    | some e =>
      match e.state with
      | .waiting remaining => if s.isUp .tu then (s.advance remaining).expireEntry e else s
      | .sending => s
      | .due => s)

/-- One number of an ACK (the table of R115). -/
def State.acknowledge (s : State) (q : Byte) : State :=
  match s.entry q with
  | none => s.count .strayAck
  | some e =>
    match e.state with
    | .sending => s.setEntry { e with acked := true }
    | .waiting _ => s.deliverEntry q
    | .due => s.deliverEntry q

/-- The Confirmation Unit takes an ACK whole, its numbers in frame order (R115). -/
def State.takeAck (s : State) (payload : List Byte) : State :=
  if ackForm payload then payload.tail.foldl State.acknowledge s else s.count (.lengthErrors .tu)

/-- ACK: the Confirmation Unit takes an ACK addressed to the part (R115). -/
def execAck (payload : List Byte) (s : State) : Host.Outcome State Fault Refusal :=
  .next (({ s with inbox := { s.inbox with confirm := dropHead payload s.inbox.confirm } } : State).takeAck payload)

end Sys2Proof.Machine
end

