-- ==== Sys2Proof/Machine/Limits.lean ====
section
/-! DEFINITION. The limit step of chapter 04 (R65 to R70). -/

namespace Sys2Proof.Machine

/-- The candidate a value indicates; the tests are made in the order of the table, exactly (R67). -/
def limitCandidate (cfg : ChanConfig) (state : LimitState) (v : Word) : LimitState :=
  if cfg.high.toInt ≤ v.toInt then .high
  else if v.toInt ≤ cfg.low.toInt then .low
  else if state = .high ∧ cfg.high.toInt - cfg.hysteresis ≤ v.toInt then .high
  else if state = .low ∧ v.toInt ≤ cfg.low.toInt + cfg.hysteresis then .low
  else .normal

/-- The record a known state tracks after the table of R69 and before the comparison with the persistence. -/
def trackCandidate (run : ChanRuntime) (found : LimitState) : ChanRuntime :=
  if found = run.limit then { run with count := 0, candidate := none }
  else if run.candidate = some found then { run with count := run.count + 1 }
  else { run with count := 1, candidate := some found }

/-- The step from a known state (R69): the record after it, and whether LIMIT is yielded. -/
def limitFromKnown (cfg : ChanConfig) (run : ChanRuntime) (found : LimitState) : ChanRuntime × Bool :=
  let tracked := trackCandidate run found
  match tracked.candidate with
  | none => (tracked, false)
  | some c =>
    if cfg.persistence ≤ tracked.count then ({ tracked with limit := c, count := 0, candidate := none }, true)
    else (tracked, false)

/-- The step from UNKNOWN: the candidate at once, LIMIT when it is HIGH or LOW (R68). -/
def limitFromUnknown (run : ChanRuntime) (found : LimitState) : ChanRuntime × Bool :=
  ({ run with limit := found, count := 0, candidate := none }, found != .normal)

/-- The limit step for one sample: taken with supervision on and a GOOD sample (R66). -/
def limitStep (cfg : ChanConfig) (run : ChanRuntime) (quality : Quality) (v : Word) : ChanRuntime × Bool :=
  if cfg.supervision && quality == .good then
    if run.limit = .unknown then limitFromUnknown run (limitCandidate cfg run.limit v)
    else limitFromKnown cfg run (limitCandidate cfg run.limit v)
  else (run, false)

end Sys2Proof.Machine
end

