-- ==== Sys2Proof/Machine/Filter.lean ====
section
/-! DEFINITION. The Exception Filter and the Report Store's answer to its offers: chapters 03 and 05 (R40 to R58, R78 to
R83). -/

namespace Sys2Proof.Machine

/-! ### The offer (R80 to R82) and the answer applied (R47, R48, R58) -/

/-- The filter's record when a report of the channel is admitted (R47). -/
def admittedRun (run : ChanRuntime) (r : Report) : ChanRuntime :=
  { run with
    lastReported := some ⟨r.value, r.quality⟩
    sinceReport := 0
    pendingChange := false
    forcePending := false
    gap := false }

/-- The filter's record when a report of the channel is refused (R48). -/
def refusedRun (run : ChanRuntime) (r : Report) : ChanRuntime :=
  { run with
    gap := true
    pendingChange := run.pendingChange || r.causes.initial || r.causes.change }

def State.applyAdmission (s : State) (r : Report) : State := s.setChanRun r.channel (admittedRun s.chanRun[r.channel] r)

def State.applyRefusal (s : State) (r : Report) : State := s.setChanRun r.channel (refusedRun s.chanRun[r.channel] r)

/-- Case 1 of R80: a free slot joins the tail; taking the last one makes STORE_EMPTY true (R83). -/
def State.admitReport (s : State) (r : Report) : State :=
  let s1 := ({ s with store := { s.store with free := s.store.free - 1 } } : State).setQueue r.cls (s.queue r.cls ++ [r])
  let s2 := s1.count (.reportsAdmitted r.cls)
  (if s2.store.free = 0 then s2.tellStoreEmpty else s2).applyAdmission r

/-- Case 2 of R80: the head of the queue gives way (R81); the admission is applied first, then the drop notice (R58). -/
def State.evict (s : State) (r head : Report) (rest : List Report) : State :=
  let s1 := s.setQueue r.cls (rest ++ [r])
  let s2 := (s1.count (.reportsAdmitted r.cls)).count (.reportsDropped r.cls)
  ((s2.raiseNow .classDrop r.cls.code).applyAdmission r).dropNotice head.channel

/-- Cases 3 and 4 of R80: nothing is stored (R82). -/
def State.refuse (s : State) (r : Report) : State :=
  let s1 := (s.count (.reportsDropped r.cls)).raiseNow .classDrop r.cls.code
  (if s.store.free = 0 then s1.count .storeEmptyDrops else s1).applyRefusal r

/-- The offer of a report: the cases of R80 in order, and the answer applied by the filter. -/
def State.offer (s : State) (r : Report) : State :=
  if (s.queue r.cls).length < s.settings.limits.get r.cls ∧ 0 < s.store.free then s.admitReport r
  else match s.settings.policies.get r.cls, s.queue r.cls with
    | .keepNew, head :: rest => s.evict r head rest
    | .keepNew, [] => s.refuse r
    | .keepOld, _ => s.refuse r

/-! ### Classes (R46) -/

/-- The more urgent of two classes. -/
def ReportClass.lower (a b : ReportClass) : ReportClass := if a.code ≤ b.code then a else b

/-- INITIAL, CHANGE, REFRESH and FORCED take the change class; LIMIT and QUALITY the limit class; the lowest counts (R46). -/
def Causes.cls (c : Causes) (cfg : ChanConfig) : ReportClass :=
  let change := c.initial || c.change || c.refresh || c.forced
  let limit := c.limit || c.quality
  if change && limit then cfg.changeClass.lower cfg.limitClass
  else if limit then cfg.limitClass
  else cfg.changeClass

/-! ### Judging a sample (R40 to R46) -/

/-- The difference of two values, taken without sign and exactly (R44). -/
def difference (a b : Word) : Nat := (a.toInt - b.toInt).natAbs

/-- Whether a reading is a DEADBAND change against the last reported record (R44, R50). -/
def deadbandChange (cfg : ChanConfig) (last : Option Reading) (quality : Quality) (v : Word) : Bool :=
  match last with
  | none => false
  | some l => quality == .good && l.quality == .good && decide (cfg.deadband < difference v l.value)

/-- CHANGE at a sample (R44). -/
def sampleChange (cfg : ChanConfig) (last : Option Reading) (quality : Quality) (v : Word) : Bool :=
  match cfg.rule with
  | .none => false
  | .deadband => deadbandChange cfg last quality v
  | .every => true

/-- The causes of a sample before hold-off (R43, R44, R71). -/
def sampleCauses (cfg : ChanConfig) (run : ChanRuntime) (limit : Bool) (quality : Quality) (v : Word) : Causes :=
  { initial := run.lastReported.isNone
    quality := match run.lastReported with
      | none => false
      | some l => l.quality != quality
    limit := limit
    change := sampleChange cfg run.lastReported quality v }

/-- CHANGE is the only cause and the hold-off has not run out: the change is withheld (R45). -/
def withheld (cfg : ChanConfig) (run : ChanRuntime) (c : Causes) : Bool :=
  c.change && !c.initial && !c.quality && !c.limit && decide (run.sinceReport < cfg.holdOff)

/-- The report of a sample (R46). -/
def State.sampleReport (s : State) (c : Fin 256) (run : ChanRuntime) (causes : Causes) (quality : Quality) (v sweep : Word) :
    Report :=
  { node := s.nodeAddress c, channel := c, number := s.channelNumber c, causes := causes,
    cls := causes.cls s.chanCfg[c], value := v, quality := quality, sweep := sweep, limit := run.limit, aged := false,
    gap := run.gap }

/-- The part of the judgement after the enabled and duplicate tests (R42 to R46). -/
def State.judgeFresh (s : State) (c : Fin 256) (quality : Quality) (v sweep : Word) : State :=
  let cfg := s.chanCfg[c]
  let step := limitStep cfg { s.chanRun[c] with latest := some ⟨v, quality, sweep⟩ } quality v
  let run := step.1
  let causes := sampleCauses cfg run step.2 quality v
  if withheld cfg run causes then s.setChanRun c { run with pendingChange := true }
  else if causes.any then (s.setChanRun c run).offer (s.sampleReport c run causes quality v sweep)
  else s.setChanRun c run

/-- The filter takes one sample whole (R40, R41, R42). -/
def State.judgeSample (s : State) (c : Fin 256) (quality : Quality) (v sweep : Word) : State :=
  if !s.chanCfg[c].enabled then s.count .disabledChannel
  else if (s.chanRun[c].latest.map Latest.sweep) = some sweep then
    (s.count .duplicate).raise .sampleAnomaly (BitVec.ofNat 8 (s.nodeAddress c)) sweep
  else s.judgeFresh c quality v sweep

/-! ### Close duties (R49 to R53) -/

/-- The duty of a pending change: the record after it, and whether INITIAL and whether CHANGE is found (R50). -/
def resolvePending (cfg : ChanConfig) (run : ChanRuntime) : ChanRuntime × Bool × Bool :=
  if !run.pendingChange then (run, false, false)
  else match run.latest with
    | none => ({ run with pendingChange := false }, false, false)
    | some l =>
      match run.lastReported with
      | none => (run, true, false)
      | some _ =>
        if run.sinceReport < cfg.holdOff then (run, false, false)
        else match cfg.rule with
          | .deadband =>
            if deadbandChange cfg run.lastReported l.quality l.value then (run, false, true)
            else ({ run with pendingChange := false }, false, false)
          | .every => (run, false, true)
          | .none => ({ run with pendingChange := false }, false, false)

/-- REFRESH is found (R51). -/
def refreshDue (cfg : ChanConfig) (run : ChanRuntime) : Bool :=
  cfg.heartbeat != 0 && decide (cfg.heartbeat ≤ run.sinceReport) && run.latest.isSome

/-- The duty of FORCE_REPORT: the record after it, and whether FORCED is found (R52). -/
def serveForce (run : ChanRuntime) : ChanRuntime × Bool :=
  if !run.forcePending then (run, false)
  else match run.latest with
    | none => ({ run with forcePending := false }, false)
    | some _ => (run, true)

/-- The close report (R53). -/
def State.closeReport (s : State) (c : Fin 256) (run : ChanRuntime) (l : Latest) (causes : Causes) (closing : Word) :
    Report :=
  { node := s.nodeAddress c, channel := c, number := s.channelNumber c, causes := causes,
    cls := s.chanCfg[c].changeClass, value := l.value, quality := l.quality, sweep := closing, limit := run.limit,
    aged := l.sweep != closing, gap := run.gap }

/-- The record after the duties of R49 to R52, and the causes found. -/
def closeDuties (cfg : ChanConfig) (run : ChanRuntime) : ChanRuntime × Causes :=
  let counted := { run with sinceReport := min 65535 (run.sinceReport + 1) }
  let pending := resolvePending cfg counted
  let forced := serveForce pending.1
  (forced.1, { initial := pending.2.1, change := pending.2.2, refresh := refreshDue cfg counted, forced := forced.2 })

/-- A channel's close duties, taken whole (R49 to R53); a disabled entry has none. -/
def State.channelClose (s : State) (c : Fin 256) (closing : Word) : State :=
  if !s.chanCfg[c].enabled then s
  else
    let out := closeDuties s.chanCfg[c] s.chanRun[c]
    let s1 := s.setChanRun c out.1
    match out.1.latest with
    | none => s1
    | some l => if out.2.any then s1.offer (s1.closeReport c out.1 l out.2 closing) else s1

/-! ### Node loss (R54, R55) -/

/-- The record after the notice: NO_DATA, and no run of disagreeing samples (R54). -/
def lostRun (run : ChanRuntime) : ChanRuntime :=
  { run with
    latest := run.latest.map (fun l => { l with quality := .noData })
    count := 0
    candidate := none }

/-- The node-loss report (R55). -/
def State.lossReport (s : State) (n : LossNotice) (run : ChanRuntime) : Report :=
  let causes : Causes := { quality := true, initial := run.lastReported.isNone }
  { node := n.address, channel := n.channel, number := n.channel.val - n.first, causes := causes,
    cls := causes.cls s.chanCfg[n.channel], value := (run.lastReported.map Reading.value).getD 0, quality := .noData,
    sweep := n.closing, limit := run.limit, aged := true, gap := run.gap }

/-- The notice taken for one channel entry, if it is enabled (R54, R55). -/
def State.takeLoss (s : State) (n : LossNotice) : State :=
  if !s.chanCfg[n.channel].enabled then s
  else
    let run := lostRun s.chanRun[n.channel]
    let s1 := s.setChanRun n.channel run
    if run.lastReported.map Reading.quality = some .noData then s1 else s1.offer (s1.lossReport n run)

/-- One share taken; it passes by a channel whose runtime the apply of its own close has reset (R54, R56). -/
def State.takeShare (resets : List (Fin 256)) (s : State) (n : LossNotice) : State :=
  if !n.past && decide (n.channel ∈ resets) then s else s.takeLoss n

/-- The shares that wait are taken in order, but for those of the channels in `late`, which go on waiting (R54, R73;
notes/assumptions/35). -/
def State.takeShares (s : State) (late resets : List (Fin 256)) : State :=
  (s.notices.filter (fun n => decide (n.channel ∉ late))).foldl (State.takeShare resets)
    { s with notices := s.notices.filter (fun n => decide (n.channel ∈ late)) }

/-- The first share of one channel, if one waits, is taken. -/
def State.takeShareOf (s : State) (resets : List (Fin 256)) (c : Fin 256) : State :=
  match s.notices.find? (fun n => n.channel == c) with
  | none => s
  | some n => State.takeShare resets { s with notices := s.notices.eraseP (fun n => n.channel == c) } n

/-! ### Takings (R27, R40, R54, R57) -/

/-- One waiting notice is taken (R54, R57). -/
def State.takeNotice (resets : List (Fin 256)) (s : State) : Notice → State
  | .share c => s.takeShareOf resets c
  | .drop c => s.takeDropOf c

/-- One sample of a delivery is taken, after the notices that the supply places before the sample of its channel (R40,
R57). -/
def State.takeSample (between : List (Fin 256 × Notice)) (resets : List (Fin 256)) (s : State) (d : HandedSample) : State :=
  ((between.filter (fun p => p.1 == d.channel)).foldl (fun x p => x.takeNotice resets p.2) s).judgeSample d.channel d.quality
    d.value d.sweep

/-- The first waiting delivery, if any, is taken, its samples in order (R27, R40). -/
def State.takeDelivery (between : List (Fin 256 × Notice)) (resets : List (Fin 256)) (s : State) : State :=
  match s.handed with
  | [] => s
  | ds :: rest => ds.foldl (State.takeSample between resets) { s with handed := rest }

/-- Every waiting delivery is taken, in the order of arrival (R27, R40). -/
def State.takeDeliveries (between : List (Fin 256 × Notice)) (resets : List (Fin 256)) (s : State) : State :=
  s.handed.flatten.foldl (State.takeSample between resets) { s with handed := [] }

/-- One taking of the filter. -/
def State.take (between : List (Fin 256 × Notice)) (resets : List (Fin 256)) (s : State) : FilterAct → State
  | .notice n => s.takeNotice resets n
  | .delivery => s.takeDelivery between resets

/-- A close ends with shares still waiting: those that pass their channel by are gone, the others are past their close. -/
def State.keepShares (s : State) (resets : List (Fin 256)) : State :=
  let kept := s.notices.filter (fun n => n.past || decide (n.channel ∉ resets))
  { s with notices := kept.map (fun n => { n with past := true }) }

end Sys2Proof.Machine
end

