-- ==== Sys2Proof/Machine/Intake.lean ====
section
/-! DEFINITION. Sample Intake: chapter 02 (R21 to R32). -/

namespace Sys2Proof.Machine

/-! ### A SAMPLE frame (R21 to R27) -/

/-- The class of a SAMPLE frame (R24). -/
inductive FrameClass where
  | accepted | late | stale
  deriving DecidableEq, Repr

/-- R24: the tests in the order of the table. -/
def State.classify (s : State) (number : Word) : FrameClass :=
  if s.sweep.state = .collecting then (if number = s.sweep.number then .accepted else .stale)
  else if s.sweep.lastClosed = some number then .late else .stale

/-- The enabled entry of a node address: at most one (R23). -/
def State.findNode (s : State) (node : Byte) : Option (Fin 24) :=
  (List.finRange 24).find? (fun i => s.nodeCfg[i].enabled && s.nodeCfg[i].address == node.toNat)

/-- The count of ticks at the end of reception of a frame that is taken now: kept with the frame that waits, else the
present one (R26; notes/assumptions/34). -/
def State.arrivalTick (s : State) (f : SegFrame) : Nat :=
  match s.inbox.intake with
  | a :: _ => if a.frame = f then a.tick else s.now
  | [] => s.now

/-- The frame leaves Intake's arrivals, where it stands at their head (notes/assumptions/6). -/
def State.dropArrival (s : State) (f : SegFrame) : State :=
  { s with inbox := { s.inbox with intake :=
      match s.inbox.intake with
      | a :: rest => if a.frame = f then rest else a :: rest
      | [] => [] } }

/-- The latency of a first accepted frame whose reception ended at this tick, saturating; absent when the trigger start
time is (R26); a free value where the reception ended before the trigger start time (notes/assumptions/34). -/
def State.latency (s : State) (i : Fin 24) (ended : Nat) : Option Nat :=
  s.sweep.triggerStart.map (fun t =>
    if t ≤ ended then min 65535 (ended - t) else (Config.earlyLatency s.now i).toNat)

/-- The worst latency after a capture (R26). -/
def worse (old : Option Nat) (l : Nat) : Option Nat :=
  match old with
  | none => some l
  | some w => some (max w l)

/-- The responded flag and the latencies after an accepted frame (R26). -/
def NodeRuntime.answered (r : NodeRuntime) (latency : Option Nat) : NodeRuntime :=
  if r.responded then r
  else match latency with
    | none => { r with responded := true }
    | some l => { r with responded := true, lastLatency := some l, worstLatency := worse r.worstLatency l }

/-- The node entry is brought up to date; an ABSENT node is back at once (R26). -/
def State.acceptNode (s : State) (i : Fin 24) (ended : Nat) : State :=
  let run := s.nodeRun[i].answered (s.latency i ended)
  if run.presence = .absent then
    (s.setNodeRun i { run with presence := .present, misses := 0 }).raiseNow .nodeBack (byteOf s.nodeCfg[i].address)
  else s.setNodeRun i run

/-- A sample of an accepted frame is counted: within the node's channels or beyond them (R27). -/
def State.countSample (n : NodeConfig) (s : State) (x : Sample) : State :=
  if x.number < n.count then s.count .samplesAccepted else s.count .unmapped

/-- The samples of an accepted frame that lie within the node's channels, as the filter is given them (R27). -/
def delivery (n : NodeConfig) (sweep : Word) (xs : List Sample) : List HandedSample :=
  (xs.filter (fun x => decide (x.number < n.count))).map
    (fun x => ⟨Fin.ofNat 256 (n.first + x.number), x.quality, x.value, sweep⟩)

/-- The samples of an accepted frame are counted, and those within the node's channels handed on as one delivery (R27). -/
def State.handOver (n : NodeConfig) (sweep : Word) (s : State) (xs : List Sample) : State :=
  { xs.foldl (State.countSample n) s with handed := s.handed ++ [delivery n sweep xs] }

/-- The filter takes what waits for it: what the supply puts first, and then shares of node-loss notices, drop notices and
deliveries, each now or later as the supply says (R40, R54, R57, R73; notes/assumptions/16, 30, 35). -/
def State.settle (s : State) (c : Choice) : State :=
  let s1 := ((c.takes.foldl (State.take c.between []) s).takeShares c.late []).takeDrops c.lateDrops
  if c.deliverLate then s1 else s1.takeDeliveries c.between []

/-- An accepted frame whose reception ended at this tick (R26, R27). -/
def State.acceptFrame (s : State) (i : Fin 24) (payload : List Byte) (ended : Nat) : State :=
  (State.handOver s.nodeCfg[i] (wordAt payload 0) (s.dropChoice.acceptNode i ended) (samplesOf payload)).settle s.choice

/-- Intake takes a SAMPLE frame whole, its reception ended at this tick (R21 to R27). The entry is looked up before the
frame is classified, so a frame of an address without an enabled entry is UNMAPPED in every state of the Controller, also
after a TABLES or power-on reset (the model's choice between R23 and R36; notes/assumptions/33). -/
def State.takeSampleFrame (s : State) (node : Byte) (payload : List Byte) (ended : Nat) : State :=
  let s1 := s.count .sampleFrames
  if !sampleForm payload then (s1.count (.lengthErrors .sg)).raiseNow .sampleAnomaly node
  else match s.findNode node with
    | none => (s1.count .unmapped).raiseNow .sampleAnomaly node
    | some i =>
      match s.classify (wordAt payload 0) with
      | .late => (s1.count .late).raiseNow .sampleAnomaly node
      | .stale => (s1.count .stale).raiseNow .sampleAnomaly node
      | .accepted => s1.acceptFrame i payload ended

/-- SAMPLE_FRAME: Intake takes a SAMPLE frame that SG has delivered (R21). -/
def execSampleFrame (node : Byte) (payload : List Byte) (s : State) : Host.Outcome State Fault Refusal :=
  let f : SegFrame := ⟨kindSample, node, payload⟩
  .next ((s.dropArrival f).takeSampleFrame node payload (s.arrivalTick f))

/-- Nothing waits for the filter. -/
abbrev State.filterIdle (s : State) : Prop := s.notices = [] ∧ s.drops = [] ∧ s.handed = []

/-- No frame is in transmission. -/
abbrev State.lineIdle (s : State) : Prop := s.links.tu.tx = none ∧ s.links.td.tx = none ∧ s.links.sg.tx = none

/-- A tick with no command waiting (notes/assumptions/1): every timer runs, symbols of the frames in transmission leave
(R121; notes/assumptions/20), and the filter takes what waits for it (notes/assumptions/16, 30, 35). -/
def State.idle (s : State) : State :=
  let s1 := s.advance 1
  if s.filterIdle ∧ s.lineIdle then s1 else (s1.dropChoice.transmit s.choice.symbols).settle s.choice

/-! ### Presence at a close (R29, R30, R32) -/

/-- The node-loss notice as the shares of the channels it names (R32). -/
def lossNotices (n : NodeConfig) (closing : Word) : List LossNotice :=
  (List.range n.count).map (fun k => ⟨Fin.ofNat 256 (n.first + k), n.address, n.first, closing, false⟩)

/-- The misses after a missed close (R30). -/
def NodeRuntime.missed (r : NodeRuntime) : NodeRuntime := { r with responded := false, misses := min 15 (r.misses + 1) }

/-- A close that the node missed makes it ABSENT (R30). -/
def NodeRuntime.goesAbsent (r : NodeRuntime) (required : Bool) (absentLimit : Nat) : Bool :=
  r.presence != .absent && required && decide (absentLimit ≤ r.missed.misses)

/-- A node-loss notice is sent: its shares wait for the filter (R32, R54). -/
def State.sendLoss (s : State) (n : NodeConfig) (closing : Word) : State :=
  { s with notices := s.notices ++ lossNotices n closing }

/-- The judgement of one node entry at a close, with the node-loss notice it sends (R29, R30, R32). -/
def State.judgeNode (s : State) (i : Fin 24) (closing : Word) : State :=
  let cfg := s.nodeCfg[i]
  let run := s.nodeRun[i]
  if !cfg.enabled then s
  else if run.responded then s.setNodeRun i { run with presence := .present, misses := 0, responded := false }
  else if run.presence = .absent then s.setNodeRun i run.missed
  else if run.goesAbsent cfg.required s.settings.absentLimit then
    ((s.setNodeRun i { run.missed with presence := .absent }).raise .nodeLost (byteOf cfg.address) closing).sendLoss cfg
      closing
  else s.setNodeRun i { run.missed with presence := .missing }

end Sys2Proof.Machine
end

