-- ==== Sys2Proof/Machine/Relay.lean ====
section
/-! DEFINITION. The Relay Controller: chapter 11 (R168 to R174). -/

namespace Sys2Proof.Machine

/-- A relay ends with one status, and the Executor produces its response (R168). -/
def State.endRelay (s : State) (status : Status) (results : List Byte) : State :=
  ({ s with relay := none } : State).respondTo 15 status results

/-- The pending relay enters another phase. -/
def State.setPhase (s : State) (r : PendingRelay) (phase : RelayPhase) : State :=
  { s with relay := some { r with phase := phase } }

/-- The NODE_COMMAND's transmission has completed: LISTENING, the timer starts (R170). -/
def State.relayCompleted (s : State) : State :=
  match s.relay with
  | none => s
  | some r => s.setPhase r (.listening (s.settings.relayTimeout * Config.ticksPerMs))

/-- SG leaves UP, or the command's transmission is aborted: a relay in any phase ends with LINK_DOWN (R173). -/
def State.relayLinkDown (s : State) : State :=
  match s.relay with
  | none => s
  | some _ => s.endRelay .linkDown []

/-- The Relay Controller takes a NODE_REPLY (the table of R171). -/
def State.takeReply (s : State) (node : Byte) (reply : List Byte) : State :=
  match s.relay with
  | none => s.count .strayReply
  | some r =>
    match r.phase with
    | .queued => s.count .strayReply
    | .sending => s.count .strayReply
    | .listening _ =>
      if r.node ≠ node then s.count .strayReply
      else if Config.relayBytes < reply.length then s.count (.lengthErrors .sg)
      else s.endRelay .ok (byteOf reply.length :: reply)

/-- NODE_REPLY: Intake hands the Relay Controller a NODE_REPLY that SG has delivered (R21, R171). -/
def execNodeReply (node : Byte) (reply : List Byte) (s : State) : Host.Outcome State Fault Refusal :=
  .next ((s.dropArrival ⟨kindNodeReply, node, reply⟩).takeReply node reply)

/-- RELAY_TIMER_EXPIRY: the relay timer runs out in LISTENING (R172; notes/assumptions/2, 19). -/
def execRelayTimerExpiry (s : State) : Host.Outcome State Fault Refusal :=
  .next (match s.relay with
    | none => s
    | some r =>
      match r.phase with
      | .queued => s
      | .sending => s
      | .listening remaining => ((s.advance remaining).endRelay .relayTimeout []).raiseNow .relayTimeout 0)

end Sys2Proof.Machine
end

