-- ==== Sys2Proof/Machine/Apply.lean ====
section
/-! DEFINITION. The commit apply: R165 with the blocks' own rules R35, R61, R62, R63, R89. -/

namespace Sys2Proof.Machine

/-! ### The merge (R163, R165) -/

def mergeNode (v : Vector NodeConfig 24) : StagedItem → Vector NodeConfig 24
  | .node i cfg => v.set i cfg
  | .channel _ _ => v
  | .settings _ => v

def mergeChannel (v : Vector ChanConfig 256) : StagedItem → Vector ChanConfig 256
  | .node _ _ => v
  | .channel c cfg => v.set c cfg
  | .settings _ => v

def mergeSettings (t : Settings) : StagedItem → Settings
  | .node _ _ => t
  | .channel _ _ => t
  | .settings t' => t'

/-- The active tables and settings with every staged item in place of its target's entry (R163). -/
def State.mergedNodes (s : State) : Vector NodeConfig 24 := s.mgmt.session.items.foldl mergeNode s.nodeCfg

def State.mergedChannels (s : State) : Vector ChanConfig 256 := s.mgmt.session.items.foldl mergeChannel s.chanCfg

def State.mergedSettings (s : State) : Settings := s.mgmt.session.items.foldl mergeSettings s.settings

/-! ### What the apply resets (R35, R61, R62) -/

/-- The node entries the apply changes: one of the five fields differs (R35). -/
def changedNodes (old new : Vector NodeConfig 24) : List (Fin 24) :=
  (List.finRange 24).filter (fun i => decide (old[i] ≠ new[i]))

/-- A changed node entry, enabled before or after the apply, covers the channel index there (R61 case b;
notes/assumptions/15). -/
def coveredByChange (old new : Vector NodeConfig 24) (changed : List (Fin 24)) (c : Fin 256) : Bool :=
  changed.any (fun i => (old[i].enabled && old[i].covers c.val) || (new[i].enabled && new[i].covers c.val))

/-- The channel's runtime record is reset (R61). -/
def channelReset (s : State) (changed : List (Fin 24)) (c : Fin 256) : Bool :=
  (!s.chanCfg[c].enabled && s.mergedChannels[c].enabled) || coveredByChange s.nodeCfg s.mergedNodes changed c

/-- A limit field differs (R62). -/
def limitFieldsDiffer (a b : ChanConfig) : Bool :=
  a.supervision != b.supervision || a.high != b.high || a.low != b.low || a.hysteresis != b.hysteresis ||
    a.persistence != b.persistence

/-- The limit record of a channel whose limit fields change (R62, R74). -/
def ChanRuntime.limitUnknown (r : ChanRuntime) : ChanRuntime := { r with limit := .unknown, count := 0, candidate := none }

/-- What the blocks act on: the changed node entries and the channels whose runtime is reset (R165). -/
structure ApplyPlan where
  changed : List (Fin 24) := []
  resets : List (Fin 256) := []
  deriving DecidableEq, Repr

def State.applyPlan (s : State) : ApplyPlan :=
  let changed := changedNodes s.nodeCfg s.mergedNodes
  ⟨changed, (List.finRange 256).filter (channelReset s changed)⟩

/-- The runtime records of the node entries after the apply (R35). -/
def State.appliedNodeRun (s : State) (plan : ApplyPlan) : Vector NodeRuntime 24 :=
  Vector.ofFn (fun i => if i ∈ plan.changed then {} else s.nodeRun[i])

/-- The runtime records of the channels after the apply (R61, R62, R63). -/
def State.appliedChanRun (s : State) (plan : ApplyPlan) : Vector ChanRuntime 256 :=
  Vector.ofFn (fun c =>
    if c ∈ plan.resets then {}
    else if limitFieldsDiffer s.chanCfg[c] s.mergedChannels[c] then s.chanRun[c].limitUnknown
    else s.chanRun[c])

/-! ### Trimming (R89) -/

/-- The reports a new limit removes from a class queue: the oldest, down to the limit (R89). -/
def State.excess (s : State) (limits : Quad Nat) (k : ReportClass) : List Report :=
  (s.queue k).take ((s.queue k).length - limits.get k)

/-- The trim of one class queue, its drop notices apart (R89). -/
def State.trimClass (limits : Quad Nat) (s : State) (k : ReportClass) : State :=
  let lost := s.excess limits k
  ((s.setQueue k ((s.queue k).drop lost.length)).countBy (.reportsDropped k) lost.length).freeSlots lost.length

/-- The four class queues in turn. -/
def classes : List ReportClass := [.c0, .c1, .c2, .c3]

/-- The trim of every class queue (R89). -/
def State.trim (s : State) (limits : Quad Nat) : State := classes.foldl (State.trimClass limits) s

/-- The reports the trim removes. -/
def State.trimmed (s : State) (limits : Quad Nat) : List Report := (classes.map (s.excess limits)).flatten

/-! ### The apply (R165) -/

/-- The staged items are installed in the active tables and settings, the runtime records reset as R35, R61 and R62 say, the
list emptied and the session ended (R165). -/
def State.install (s : State) (plan : ApplyPlan) : State :=
  { s with
    nodeCfg := s.mergedNodes
    chanCfg := s.mergedChannels
    settings := s.mergedSettings
    nodeRun := s.appliedNodeRun plan
    chanRun := s.appliedChanRun plan
    mgmt := { s.mgmt with session := {} } }

/-- The apply with its response: the drop notices of the trim are taken before the runtime resets for the channels in
`early`, and after them for the others, where those of the channels in `late` go on waiting for the filter (R89, R57;
notes/assumptions/16). -/
def State.applyItems (s : State) (plan : ApplyPlan) (early late : List (Fin 256)) : State :=
  let lost := (s.trimmed s.mergedSettings.limits).map Report.channel
  let s1 := s.dropNotices (lost.filter (fun c => decide (c ∈ early)))
  let s2 := ((s1.install plan).trim s.mergedSettings.limits).sendDrops late (lost.filter (fun c => decide (c ∉ early)))
  s2.respondTo 22 .ok []

end Sys2Proof.Machine
end

