-- ==== Sys2Proof/Machine/Sweep.lean ====
section
/-! DEFINITION. The Sweep Controller: chapter 01 (R2 to R17), with the sweep close as the four blocks act in it (R8, R31,
R49, R56, R63, R89, R165, R185). -/

namespace Sys2Proof.Machine

/-! ### Trigger (R3, R4, R10) -/

/-- Twice the active sweep period (R14). -/
def State.supervisionTime (s : State) : Nat := 2 * s.settings.period

/-- The trigger event; the new sweep's number is given by its cause (R3, R4). -/
def State.trigger (s : State) (number : Word) : State :=
  { s with sweep := { s.sweep with
      state := .collecting
      number := number
      window := some s.settings.window
      lastTrigger := some s.now
      triggerStart := none
      supervision := if s.settings.source = .trunk then some s.supervisionTime else s.sweep.supervision
      waiting := if s.isUp .sg then some number else none } }

/-- The time left until the period is reached; none left when the last-trigger time is absent (R10). -/
def State.periodLeft (s : State) : Nat :=
  match s.sweep.lastTrigger with
  | none => 0
  | some t => s.settings.period - (s.now - t)

/-- The period test: LOCAL source and QUIET, the period reached (R10). -/
def State.periodTest (s : State) : State :=
  if s.settings.source = .localTimer ∧ s.sweep.state = .quiet ∧ s.periodLeft = 0 then s.trigger (s.sweep.number + 1)
  else s

/-! ### Moves to STOPPED and QUIET -/

/-- The part becomes STOPPED: mark cleared, supervision idle (R7, R9, R16). -/
def State.becomeStopped (s : State) : State :=
  { s with sweep := { s.sweep with state := .stopped, oneShot := false, supervision := none } }

/-- The part becomes QUIET (R7). -/
def State.becomeQuiet (s : State) : State := { s with sweep := { s.sweep with state := .quiet } }

def State.startSupervision (s : State) : State :=
  { s with sweep := { s.sweep with supervision := some s.supervisionTime } }

def State.stopSupervision (s : State) : State := { s with sweep := { s.sweep with supervision := none } }

/-- What the Controller does when an apply changes the source, where the part is QUIET or its window-expiry close leaves it
QUIET; and, where it is QUIET, when the active period changes (R10, R11). -/
def State.settingsApplied (old : Settings) (s : State) : State :=
  let s1 :=
    if old.source = .localTimer ∧ s.settings.source = .trunk then s.startSupervision
    else if old.source = .trunk ∧ s.settings.source = .localTimer then s.stopSupervision
    else s
  if old.source ≠ s.settings.source ∨ old.period ≠ s.settings.period then s1.periodTest else s1

/-- What an apply at another close does at the Controller: a change to LOCAL makes the supervision timer idle (R11, R14). -/
def State.sourceApplied (old : Settings) (s : State) : State :=
  if old.source = .trunk ∧ s.settings.source = .localTimer then s.stopSupervision else s

/-! ### The close (R8) -/

/-- The cause of a close, with what follows it: window expiry to STOPPED or QUIET (R7), STOP_SWEEPS (R9), or a SYNC with
its number (R12). -/
inductive CloseKind where
  | expiry (oneShot : Bool)
  | stop
  | sync (number : Word)
  deriving DecidableEq, Repr

/-- A close under way: the state, and what an apply in this close has changed. -/
structure Closing where
  state : State
  plan : ApplyPlan := {}

/-- The Controller's own next move (R7, R9). -/
def State.afterClose (s : State) : CloseKind → State
  | .expiry oneShot => if oneShot then s.becomeStopped else s.becomeQuiet.periodTest
  | .stop => s.becomeStopped
  | .sync number => s.trigger number

/-- The advance of the beacon count (R185). -/
def State.advanceBeacon (s : State) : State :=
  let n := s.latch.beaconCount + 1
  if s.settings.beaconInterval = 0 then { s with latch := { s.latch with beaconCount := 0 } }
  else if s.settings.beaconInterval ≤ n then
    { s with latch := { s.latch with beaconCount := 0 }, uplink := { s.uplink with beaconPending := true } }
  else { s with latch := { s.latch with beaconCount := n } }

/-- The apply at a close, when a commit is pending (R164, R165, R11). -/
def Closing.apply (x : Closing) (k : CloseKind) (early late : List (Fin 256)) : Closing :=
  if x.state.mgmt.session.state = .commitPending then
    let plan := x.state.applyPlan
    let s := x.state.applyItems plan early late
    { plan := plan
      state := match k with
        | .expiry false => s.settingsApplied x.state.settings
        | .expiry true => s.sourceApplied x.state.settings
        | .stop => s.sourceApplied x.state.settings
        | .sync _ => s.sourceApplied x.state.settings }
  else x

/-- The judgement of a node entry; an entry this close's apply has changed is not judged (R29, R31). -/
def Closing.judge (x : Closing) (i : Fin 24) (closing : Word) : Closing :=
  if i ∈ x.plan.changed then x else { x with state := x.state.judgeNode i closing }

/-- One act of a close, under this supply of choices. A delivery is taken whole, before or after each of the other acts
(R40, R74; notes/assumptions/30). -/
def Closing.act (k : CloseKind) (closing : Word) (supply : Choice) (x : Closing) : CloseAct → Closing
  | .judge i => x.judge i closing
  | .take a => { x with state := x.state.take supply.between x.plan.resets a }
  | .shares => { x with state := x.state.takeShares supply.late x.plan.resets }
  | .drops => { x with state := x.state.takeDrops supply.lateDrops }
  | .duties c => { x with state := x.state.channelClose c closing }
  | .deliveries => { x with state := x.state.takeDeliveries supply.between x.plan.resets }
  | .apply => x.apply k supply.dropFirst supply.lateDrops
  | .beacon => { x with state := x.state.advanceBeacon }
  | .proceed => { x with state := x.state.afterClose k }

/-- The acts of every close, in the default order (notes/assumptions/4). -/
def defaultActs : List CloseAct :=
  (List.finRange 24).map .judge ++ [.shares, .drops] ++ (List.finRange 256).map .duties ++
    [.deliveries, .apply, .beacon, .proceed]

/-- A taking of the filter may come again in one close; every other act comes once. -/
def CloseAct.again : CloseAct → Bool
  | .take _ => true
  | .judge _ => false
  | .shares => false
  | .drops => false
  | .duties _ => false
  | .deliveries => false
  | .apply => false
  | .beacon => false
  | .proceed => false

/-- Acts in this order, each that comes once at its last place. -/
def onceEach : List CloseAct → List CloseAct
  | [] => []
  | a :: rest => if !a.again && decide (a ∈ rest) then onceEach rest else a :: onceEach rest

/-- The order of a close: the acts chosen first, then the others. -/
def closeOrder (prefer : List CloseAct) : List CloseAct :=
  onceEach prefer ++ defaultActs.filter (fun a => decide (a ∉ prefer))

/-- The close's own first steps: window timer stopped, last closed sweep recorded, waiting TRIGGER discarded (R8, R6). -/
def State.endCollection (s : State) : State :=
  { s with sweep := { s.sweep with window := none, lastClosed := some s.sweep.number, waiting := none } }

/-- A sweep close, taken with what follows it (R7, R8, R9). The order of the acts is the one the supply gives; shares of
node-loss notices and drop notices that the supply puts off wait past the close (R57, R73; notes/assumptions/16, 35). -/
def State.sweepClose (s : State) (k : CloseKind) : State :=
  let c := s.choice
  let x := (closeOrder c.acts).foldl (Closing.act k s.sweep.number c) { state := s.dropChoice.endCollection }
  (x.state.takeShares c.late x.plan.resets).keepShares x.plan.resets

/-! ### The commands -/

/-- A SYNC taken by the Controller (R12, R13). -/
def State.takeSync (s : State) (number : Word) : State :=
  if s.settings.source = .localTimer then s
  else
    let tested := if number = s.sweep.number + 1 then s else s.raiseNow .syncGap 0
    match s.sweep.state with
    | .stopped => s
    | .quiet => tested.trigger number
    | .collecting => tested.sweepClose (.sync number)

/-- SYNC_SUPERVISION_EXPIRY (R14; notes/assumptions/2). -/
def execSyncSupervisionExpiry (s : State) : Host.Outcome State Fault Refusal :=
  .next (match s.sweep.supervision with
    | none => s
    | some remaining => ((s.advance remaining).raiseNow .syncGap 0).startSupervision)

/-- PERIOD_REACHED: in LOCAL source and QUIET, time passes until the period is reached, and the next sweep is triggered
(R10; notes/assumptions/2). -/
def execPeriodReached (s : State) : Host.Outcome State Fault Refusal :=
  .next (if s.settings.source = .localTimer ∧ s.sweep.state = .quiet then
      (s.advance s.periodLeft).trigger (s.sweep.number + 1)
    else s)

/-- WINDOW_EXPIRY: the window timer runs out in COLLECTING (R7; notes/assumptions/2). -/
def execWindowExpiry (s : State) : Host.Outcome State Fault Refusal :=
  .next (if s.sweep.state = .collecting then
      match s.sweep.window with
      | none => s
      | some remaining => (s.advance remaining).sweepClose (.expiry s.sweep.oneShot)
    else s)

/-- A TRIGGER frame (R5, R134). -/
def triggerFrame (number : Word) : SegFrame := ⟨kindTrigger, 63, be16 number.toNat⟩

/-- A NODE_COMMAND frame (R169, R134). -/
def commandFrame (r : PendingRelay) : SegFrame := ⟨kindNodeCommand, r.node, r.command⟩

/-- The arbiter starts the waiting TRIGGER, else the waiting NODE_COMMAND (R5, R170). -/
def State.arbiter (s : State) : State :=
  match s.sweep.waiting with
  | some number =>
    { s.startTx .sg (triggerFrame number).bytes .sweepController with
      sweep := { s.sweep with waiting := none, triggerStart := some s.now } }
  | none =>
    match s.relay with
    | none => s
    | some r =>
      match r.phase with
      | .queued =>
        { s.startTx .sg (commandFrame r).bytes .relayController with relay := some { r with phase := .sending } }
      | .sending => s
      | .listening _ => s

/-- SG_ARBITER_START: SG is UP and its transmitter idle (R5). -/
def execSgArbiterStart (s : State) : Host.Outcome State Fault Refusal :=
  .next (if s.canSend .sg then s.arbiter else s)

/-! ### Requests that act on the sweep (R15 to R17) -/

/-- START_SWEEPS at the Controller (R15). -/
def State.startSweeps (s : State) : State × Status :=
  if s.sweep.state = .stopped then
    if s.settings.source = .localTimer then (s.trigger (s.sweep.number + 1), .ok)
    else (s.becomeQuiet.startSupervision, .ok)
  else (s, .notAllowed)

/-- STOP_SWEEPS at the Controller (R16). -/
def State.stopSweeps (s : State) : State :=
  match s.sweep.state with
  | .stopped => s
  | .quiet => s.becomeStopped
  | .collecting => s.sweepClose .stop

/-- TRIGGER_ONCE at the Controller (R17). -/
def State.triggerOnce (s : State) : State × Status :=
  if s.sweep.state = .stopped ∧ s.settings.source = .localTimer then
    let s1 := s.trigger (s.sweep.number + 1)
    ({ s1 with sweep := { s1.sweep with oneShot := true } }, .ok)
  else (s, .notAllowed)

/-- A COMMIT applied at once, in STOPPED or QUIET (R164, R165, R10, R11). -/
def State.applyNow (s : State) : State :=
  let s1 := s.dropChoice.applyItems s.applyPlan s.choice.dropFirst s.choice.lateDrops
  if s.sweep.state = .quiet then s1.settingsApplied s.settings else s1

end Sys2Proof.Machine
end

