-- ==== Sys2Proof/Machine/TrunkDispatch.lean ====
section
/-! DEFINITION. The Trunk Dispatcher: chapter 09 (R135 to R146). -/

namespace Sys2Proof.Machine

/-! ### Routing of frames from TU (R136, R141) -/

/-- A REQUEST or ACK is routed at once: to this part, to the parts below, or both (the table of R136). -/
def State.routeFrame (s : State) (f : TrunkFrame) : State :=
  let mine := f.dest.toNat == s.trunk.own && s.trunk.own != 0
  if f.kind = kindRequest then
    if mine then { s with inbox := { s.inbox with executor := s.inbox.executor ++ [⟨false, f.payload⟩] } }
    else if f.dest = 31 then
      ({ s with inbox := { s.inbox with executor := s.inbox.executor ++ [⟨true, f.payload⟩] } } : State).forwardOffer f
    else s.forwardOffer f
  else if mine then { s with inbox := { s.inbox with confirm := s.inbox.confirm ++ [f.payload] } }
  else s.forwardOffer f

/-- The frame is a SYNC or ENUMERATE, which has a command of its own. -/
def TrunkFrame.isStep (f : TrunkFrame) : Bool := f.kind == kindSync || f.kind == kindEnumerate

/-- The Dispatcher takes the REQUEST and ACK frames at the head of its arrivals, in their order, up to the next frame with a
command of its own (R136). -/
def routeAll (s : State) : List TrunkFrame → State
  | [] => { s with inbox := { s.inbox with tu := [] } }
  | f :: rest =>
    if f.isStep then { s with inbox := { s.inbox with tu := f :: rest } }
    else routeAll (s.routeFrame f) rest

/-- The Dispatcher's arrivals from TU are worked off as far as `routeAll` goes. -/
def State.drain (s : State) : State := routeAll s s.inbox.tu

/-- TU delivers a good frame (R129, R136). -/
def State.arriveTU (s : State) (f : TrunkFrame) : State :=
  ({ s with inbox := { s.inbox with tu := s.inbox.tu ++ [f] } } : State).drain

/-- A SYNC or ENUMERATE is taken: it leaves the arrivals, its action and its forwarding are done in the order the supply
gives, and what arrived behind it is routed (R136; notes/assumptions/18). -/
def State.takeStep (s : State) (f : TrunkFrame) (forward : Option TrunkFrame) (act : State → State) : State :=
  let first := s.choice.forwardFirst
  let s1 : State := { s.dropChoice with inbox := { s.inbox with tu := dropHead f s.inbox.tu } }
  let send (x : State) : State := match forward with
    | none => x
    | some g => x.forwardOffer g
  (if first then act (send s1) else send (act s1)).drain

/-! ### ENUMERATE (R137 to R140) -/

/-- An ENUMERATE frame (R132). -/
def enumerateFrame (h : TrunkHeader) (flag next : Byte) : TrunkFrame :=
  ⟨kindEnumerate, h.flags, h.dest, h.src, [flag, next]⟩

/-- The own address is set, and an ANNOUNCE queued (R140). -/
def State.assign (s : State) (a : Nat) : State :=
  ({ s with trunk := { s.trunk with own := a } } : State).offerMq .announce

/-- The own address becomes 0 (R137). -/
def State.unassign (s : State) : State := { s with trunk := { s.trunk with own := 0 } }

/-- A malformed ENUMERATE: a next address of 0 or above 31 (R138). -/
def badNext (next : Byte) : Bool := next == 0 || decide (31 < next.toNat)

/-- ENUMERATE_RESTART (R137, R138). -/
def execEnumerateRestart (h : TrunkHeader) (flag next : Byte) (s : State) : Host.Outcome State Fault Refusal :=
  let f := enumerateFrame h flag next
  .next (if badNext next then s.takeStep f none (fun x => x.count (.lengthErrors .tu))
    else if next = 31 then s.takeStep f (some f) State.unassign
    else s.takeStep f (some (enumerateFrame h flag (next + 1))) (fun x => x.assign next.toNat))

/-- ENUMERATE_CLEAR (R138). -/
def execEnumerateClear (h : TrunkHeader) (next : Byte) (s : State) : Host.Outcome State Fault Refusal :=
  let f := enumerateFrame h 0 next
  .next (if badNext next then s.takeStep f none (fun x => x.count (.lengthErrors .tu))
    else if s.trunk.own = 0 ∧ next ≠ 31 then
      s.takeStep f (some (enumerateFrame h 0 (next + 1))) (fun x => x.assign next.toNat)
    else s.takeStep f (some f) id)

/-! ### SYNC (R12, R136) -/

/-- A SYNC frame (R132). -/
def syncFrame (h : TrunkHeader) (number : Word) : TrunkFrame := ⟨kindSync, h.flags, h.dest, h.src, be16 number.toNat⟩

/-- SYNC: taken by the Sweep Controller and forwarded whatever the Controller does with it (R12, R136). -/
def execSync (h : TrunkHeader) (number : Word) (s : State) : Host.Outcome State Fault Refusal :=
  let f := syncFrame h number
  .next (s.takeStep f (some f) (fun x => x.takeSync number))

/-! ### Frames from TD (R145) -/

/-- A transit queue is full: the frame is discarded, counted and raised (R145). -/
def State.dropTransit (s : State) : State := (s.count .transitDrop).raiseNow .transitDrop 0

/-- TD delivers a good frame: it is placed by its URGENT flag (R145). -/
def State.arriveTD (s : State) (f : TrunkFrame) : State :=
  if urgentBit f.flags then
    if s.trunk.tqU.length < Config.tqUSlots then { s with trunk := { s.trunk with tqU := s.trunk.tqU ++ [f] } }
    else s.dropTransit
  else if s.trunk.tqN.length < Config.tqNSlots then { s with trunk := { s.trunk with tqN := s.trunk.tqN ++ [f] } }
  else s.dropTransit

/-! ### DFQ (R143, R144) -/

/-- DFQ_SEND: the head of DFQ is handed to TD, where TD is UP and its transmitter idle (R143). -/
def execDfqSend (s : State) : Host.Outcome State Fault Refusal :=
  .next (match s.trunk.dfq with
    | [] => s
    | f :: rest =>
      if s.canSend .td then ({ s with trunk := { s.trunk with dfq := rest } } : State).startTx .td f.bytes .dispatcher
      else s)

/-- TD leaves UP: DFQ is emptied, each frame counted (R144). -/
def State.emptyDfq (s : State) : State :=
  ({ s with trunk := { s.trunk with dfq := [] } } : State).countBy .forwardDrop s.trunk.dfq.length

end Sys2Proof.Machine
end

