-- ==== Sys2Proof/Machine/Reset.lean ====
section
/-! DEFINITION. The resets: the table of R167, and each block's own reset rule (R18, R36, R64, R91, R106, R119, R122, R135,
R147, R174, R175, R184). -/

namespace Sys2Proof.Machine

/-- After a part reset the end of a transmission under way is told to no owner (R122). -/
def LinkPort.orphan (lp : LinkPort) : LinkPort := { lp with tx := lp.tx.map (fun t => { t with owner := .nobody }) }

/-- A reset of scope RUNTIME: tables, settings, notify set, counters, own address and link records are kept; everything
else takes its power-on value (R167). -/
def State.runtimeReset (s : State) : State :=
  { State.reset with
    now := s.now
    nodeCfg := s.nodeCfg
    chanCfg := s.chanCfg
    settings := s.settings
    links := ⟨s.links.tu.orphan, s.links.td.orphan, s.links.sg.orphan⟩
    trunk := { own := s.trunk.own }
    latch := { notify := s.latch.notify }
    bank := s.bank
    inbox := s.inbox
    choices := s.choices
    pending := s.pending }

/-- A reset of scope TABLES: own address and link records are kept; everything else takes its power-on value (R167). -/
def State.tablesReset (s : State) : State :=
  { State.reset with
    now := s.now
    links := ⟨s.links.tu.orphan, s.links.td.orphan, s.links.sg.orphan⟩
    trunk := { own := s.trunk.own }
    inbox := s.inbox
    choices := s.choices
    pending := s.pending }

/-- A part reset of the given scope is taken (R167). -/
def State.takeReset (s : State) : Scope → State
  | .runtime => s.runtimeReset
  | .tables => s.tablesReset

/-- A reset that is pending is taken (R167). -/
def State.takePendingReset (s : State) : State :=
  match s.mgmt.resetPending with
  | some scope => s.takeReset scope
  | none => s

/-- Power-on and the reset pin return the whole part to its first state (R167); the commands that wait and the supply of
choices are the model's own and stay (notes/assumptions/22). -/
def State.powerOn (s : State) : State := { State.reset with choices := s.choices, pending := s.pending }

/-- POWER_ON (R167). -/
def execPowerOn (s : State) : Host.Outcome State Fault Refusal := .next s.powerOn

/-- RESET_PIN: the same effect as power-on (R167, 00 section 1.3). -/
def execResetPin (s : State) : Host.Outcome State Fault Refusal := .next s.powerOn

end Sys2Proof.Machine
end

