-- ==== Sys2Proof/Machine/Uplink.lean ====
section
/-! DEFINITION. The Uplink Scheduler: chapter 06 (R92 to R106) and the beacon (R186). -/

namespace Sys2Proof.Machine

/-! ### Frames the part composes upward -/

/-- Destination 0 and the own address at packing as source (R131, R139). -/
def State.compose (s : State) (kind flags : Byte) (payload : List Byte) : TrunkFrame :=
  ⟨kind, flags, 0, byteOf s.trunk.own, payload⟩

/-- The BEACON payload, 20 bytes (R133, R186). -/
def State.beaconPayload (s : State) : List Byte :=
  be16 s.sweep.number.toNat ++
    [s.sweep.state.code, s.links.tu.state.code, s.links.td.state.code, s.links.sg.state.code] ++
    be16 (latchedSet s.latch).toNat ++ be16 (s.queue .c0).length ++ be16 (s.queue .c1).length ++
    be16 (s.queue .c2).length ++ be16 (s.queue .c3).length ++ be16 s.store.free ++
    [byteOf s.conf.entries.length, s.mgmt.session.state.code]

/-- The frame is recorded as the frame in flight and handed to the TU transmitter (R93). -/
def State.sendUp (s : State) (flight : Flight) (f : TrunkFrame) : State :=
  ({ s with uplink := { s.uplink with flight := some flight } } : State).startTx .tu f.bytes .scheduler

/-! ### The round robin (R100) -/

/-- The members after one, in cyclic order, ending with it (R100). -/
def Member.cycle : Member → List Member
  | .cq1 => [.cq2, .cq3, .tqN, .cq1]
  | .cq2 => [.cq3, .tqN, .cq1, .cq2]
  | .cq3 => [.tqN, .cq1, .cq2, .cq3]
  | .tqN => [.cq1, .cq2, .cq3, .tqN]

/-- The class queue of a member, none for TQ-N. -/
def Member.queueClass : Member → Option ReportClass
  | .cq1 => some .c1
  | .cq2 => some .c2
  | .cq3 => some .c3
  | .tqN => none

/-- A member is not empty. -/
def State.memberWaits (s : State) (m : Member) : Bool :=
  match m.queueClass with
  | some k => !(s.queue k).isEmpty
  | none => !s.trunk.tqN.isEmpty

/-- A member's weight in the active settings (R100). -/
def Settings.weight (t : Settings) : Member → Nat
  | .cq1 => t.w1
  | .cq2 => t.w2
  | .cq3 => t.w3
  | .tqN => t.wt

/-- The turn after a tier 6 choice, its member the one that sends; none when all four are empty (R100). -/
def State.nextTurn (s : State) : Option Turn :=
  let t := s.uplink.turn
  if s.memberWaits t.member ∧ t.count < s.settings.weight t.member then some ⟨t.member, t.count + 1⟩
  else (t.member.cycle.find? s.memberWaits).map (fun m => ⟨m, 1⟩)

/-! ### The takes of the six tiers; each is none where its tier is not eligible (R94) -/

/-- Tier 1: the entry that became DUE earliest (R95, R114). -/
def State.tier1 (s : State) : Option State :=
  match s.conf.due.head?.bind s.entry with
  | none => none
  | some e =>
    let s1 := s.takeDue e
    some (s1.sendUp (.urgent e.seq true) (s1.compose kindReport flagUrgentRetransmit (reportPayload [e.resend.report])))

/-- Tier 2: the head of TQ-U, sent unchanged (R96). -/
def State.tier2 (s : State) : Option State :=
  match s.trunk.tqU with
  | [] => none
  | f :: rest => some (({ s with trunk := { s.trunk with tqU := rest } } : State).sendUp (.transit true) f)

/-- Tier 3: the head of CQ0 becomes an outstanding entry (R97, R85, R109). -/
def State.tier3 (s : State) : Option State :=
  match s.queue .c0 with
  | [] => none
  | r :: rest =>
    if s.conf.entries.length < Config.outstandingSlots then
      let q := s.nextNumber
      let s1 := (s.setQueue .c0 rest).addEntry r
      some (s1.sendUp (.urgent q false)
        (s1.compose kindReport flagUrgent (reportPayload [{ r with seq := q, attempt := 1 }])))
    else none

/-- Tier 4: the head of MQ, composed with no flags (R98). -/
def State.tier4 (s : State) : Option State :=
  match s.mgmt.items with
  | [] => none
  | i :: rest =>
    let s1 : State := { s with mgmt := { s.mgmt with items := rest } }
    some (s1.sendUp (.item i) (s1.compose i.kindAndPayload.1 0 i.kindAndPayload.2))

/-- Tier 5: the pending beacon, with the values at this moment (R99, R186). -/
def State.tier5 (s : State) : Option State :=
  if s.uplink.beaconPending then
    some (({ s with uplink := { s.uplink with beaconPending := false } } : State).sendUp .beacon
      (s.compose kindBeacon 0 s.beaconPayload))
  else none

/-- The take of a member whose turn it is (R84, R96, R102). -/
def State.takeMember (s : State) (m : Member) : State :=
  match m.queueClass with
  | some k =>
    let taken := (s.queue k).take s.settings.packLimit
    let s1 := s.setQueue k ((s.queue k).drop s.settings.packLimit)
    s1.sendUp (.reports m taken) (s1.compose kindReport 0 (reportPayload taken))
  | none =>
    match s.trunk.tqN with
    | [] => s
    | f :: rest => ({ s with trunk := { s.trunk with tqN := rest } } : State).sendUp (.transit false) f

/-- Tier 6: the round robin (R100). -/
def State.tier6 (s : State) : Option State :=
  s.nextTurn.map (fun t => ({ s with uplink := { s.uplink with turn := t } } : State).takeMember t.member)

/-- The first eligible tier's take; nothing where every tier is empty (R94). -/
def State.serveTiers (s : State) : State :=
  ([State.tier1, State.tier2, State.tier3, State.tier4, State.tier5, State.tier6].findSome? (fun tier => tier s)).getD s

/-- A choice, made where TU is UP, its transmitter idle and no frame in flight (R93, R105). -/
def State.uplinkChoice (s : State) : State :=
  if s.canSend .tu && s.uplink.flight.isNone then s.serveTiers else s

/-- UPLINK_CHOICE (R93). -/
def execUplinkChoice (s : State) : Host.Outcome State Fault Refusal := .next s.uplinkChoice

/-! ### The end of a transmission (R103, R104) -/

/-- The item is the response OK to the RESET_PART request (R166). -/
def MqItem.answersReset : MqItem → Bool
  | .response _ code status _ => code == 23 && status == .ok
  | .event _ _ _ => false
  | .announce => false

/-- The Executor is told of the end of an item: a RESET_PART response's end takes the reset (R103, R104, R167). -/
def State.itemEnded (s : State) (i : MqItem) : State := if i.answersReset then s.takePendingReset else s

def State.clearFlight (s : State) : State := { s with uplink := { s.uplink with flight := none } }

/-- The owner of a frame's contents is told of its completion (the table of R103). -/
def State.tellCompleted (s : State) : Flight → State
  | .reports _ rs => s.freeSlots rs.length
  | .urgent q _ => s.urgentCompleted q
  | .transit _ => s
  | .item i => s.itemEnded i
  | .beacon => s

/-- The owner of a frame's contents is told of its abort (the table of R104). NOTICE_LOST of an aborted RESET_PART response
is counted before the reset that the abort takes, so that a TABLES reset leaves it 0 (the model's choice, R104 and R167
state no order; notes/assumptions/36). The drop notices of the channels in `late` wait for the filter (R57). -/
def State.tellAborted (s : State) (late : List (Fin 256)) : Flight → State
  | .reports _ rs => ((s.freeSlots rs.length).countBy .txAborted rs.length).sendDrops late (rs.map Report.channel)
  | .urgent q _ => s.urgentAborted q
  | .transit _ => s.count .transitDrop
  | .item i => (s.count .noticeLost).itemEnded i
  | .beacon => s

/-- The Scheduler is told that its transmission has completed; where `chooseFirst`, the next choice is taken before the
owner is told (R103, R106; notes/assumptions/29). -/
def State.uplinkCompleted (s : State) (chooseFirst : Bool) : State :=
  match s.uplink.flight with
  | none => s
  | some f =>
    if chooseFirst then s.clearFlight.uplinkChoice.tellCompleted f else s.clearFlight.tellCompleted f

/-- The Scheduler is told that its transmission was aborted (R104). -/
def State.uplinkAborted (s : State) (late : List (Fin 256)) : State :=
  match s.uplink.flight with
  | none => s
  | some f => s.clearFlight.tellAborted late f

end Sys2Proof.Machine
end

