-- ==== Sys2Proof/Machine/Links.lean ====
section
/-! DEFINITION. The link ports: chapter 08 (R121 to R130), with what the blocks behind a port do when they are told. -/

namespace Sys2Proof.Machine

/-! ### The end of a transmission (R126, R127) -/

/-- The owner of a transmission is told that it is complete (R126). -/
def State.tellOwnerCompleted (s : State) (chooseFirst : Bool) : Owner → State
  | .scheduler => s.uplinkCompleted chooseFirst
  | .dispatcher => s
  | .sweepController => s
  | .relayController => s.relayCompleted
  | .nobody => s

/-- The owner of a transmission is told that it was aborted (R127, R104, R143, R6, R173). -/
def State.tellOwnerAborted (s : State) (late : List (Fin 256)) : Owner → State
  | .scheduler => s.uplinkAborted late
  | .dispatcher => s.count .forwardDrop
  | .sweepController => s
  | .relayController => s.relayLinkDown
  | .nobody => s

/-- The supply of choices is used at a completion on TU only, where the next uplink choice may come first (R103). -/
def State.complete (s : State) (p : Port) (t : Transmission) : State :=
  let s1 := (s.setLink p { s.link p with tx := none }).count (.framesOut p)
  if t.owner = .scheduler then s1.dropChoice.tellOwnerCompleted s.choice.chooseFirst .scheduler
  else s1.tellOwnerCompleted false t.owner

/-- TRANSMISSION_COMPLETE: the second IDLE of the gap leaves the port (R126). -/
def execTransmissionComplete (p : Port) (s : State) : Host.Outcome State Fault Refusal :=
  .next (match (s.link p).tx with
    | none => s
    | some t => s.complete p t)

/-! ### Losing the link (R124, R125, R127) -/

/-- The blocks behind a port are told that it has left UP (the table of R125); a pending part reset is taken where the
RESET_PART response still waits in MQ (R167). -/
def State.tellNotUp (s : State) : Port → State
  | .tu => if s.mgmt.items.any MqItem.answersReset then s.takePendingReset else s
  | .td => s.emptyDfq
  | .sg => ({ s with sweep := { s.sweep with waiting := none } } : State).relayLinkDown

/-- The end of the transmission, if any, and then the change of link state are told. The END had left where the symbols sent
say so, and also where the supply does, symbols leaving between ticks too (R127; notes/assumptions/5). The supply also gives
whether a pending reset whose response still waits in MQ comes before the abort (R125, R167; notes/assumptions/29). -/
def State.tellLoss (s : State) (p : Port) (tx : Option Transmission) (c : Choice) : State :=
  match tx with
  | none => s.tellNotUp p
  | some t =>
    if c.endLeft || t.endGone then ((s.count (.framesOut p)).tellOwnerCompleted false t.owner).tellNotUp p
    else if c.resetFirst then (s.tellNotUp p).tellOwnerAborted c.lateDrops t.owner
    else (s.tellOwnerAborted c.lateDrops t.owner).tellNotUp p

/-- The port counts the loss and raises it (R124). -/
def State.noteLoss (s : State) (p : Port) : State := (s.count (.linkLosses p)).raiseNow .linkLoss (Port.code p)

/-- The link record in DOWN after a loss: no frame in reception or transmission (R124, R125). -/
def LinkPort.lost (_ : LinkPort) : LinkPort := {}

/-- The port loses its link (R124, R125). -/
def State.linkLoss (s : State) (p : Port) : State :=
  let lp := s.link p
  let down := s.setLink p lp.lost
  match lp.state with
  | .down => s
  | .aligning => down
  | .up =>
    let s1 := down.dropChoice
    if s.choice.tellFirst then (s1.tellLoss p lp.tx s.choice).noteLoss p
    else (s1.noteLoss p).tellLoss p lp.tx s.choice

/-- LINK_SILENCE_LOSS: ticks pass until ten have passed with no valid symbol in ALIGNING or UP (R124;
notes/assumptions/2). -/
def execLinkSilenceLoss (p : Port) (s : State) : Host.Outcome State Fault Refusal :=
  .next (match (s.link p).silence with
    | none => s
    | some t => (s.advance (Config.silenceTicks - t)).linkLoss p)

/-- LINK_NOISE_LOSS: a 32nd code error within 100 ticks in ALIGNING or UP (R124; notes/assumptions/2). -/
def execLinkNoiseLoss (p : Port) (s : State) : Host.Outcome State Fault Refusal := .next (s.linkLoss p)

/-! ### Reception (R128 to R130) -/

/-- A good frame is delivered inward (R129). -/
def State.deliver (s : State) (bytes : List Byte) : Port → State
  | .tu => s.arriveTU (readTrunk bytes)
  | .td => s.arriveTD (readTrunk bytes)
  | .sg => { s with inbox := { s.inbox with intake := s.inbox.intake ++ [⟨readSeg bytes, s.now⟩] } }

/-- A closed frame is judged (R129). -/
def State.judgeFrame (s : State) (p : Port) (rx : Reception) : State :=
  match failedCheck p rx with
  | some c => s.count c
  | none => (s.count (.framesIn p)).deliver rx.bytes p

/-- A DATA byte joins the frame in reception, or marks it oversize (R128). -/
def Reception.add (rx : Reception) (p : Port) (b : Byte) : Reception :=
  if rx.bytes.length < maxFrame p then { rx with bytes := rx.bytes ++ [b] } else { rx with oversize := true }

/-- A valid symbol received in UP (the table of R128). -/
def State.receiveUp (s : State) (p : Port) (sym : ValidSymbol) : State :=
  let lp := { s.link p with silence := some 0 }
  match lp.rx, sym with
  | none, .idle => s.setLink p lp
  | none, .startFrame => s.setLink p { lp with rx := some {} }
  | none, .endFrame => s.setLink p lp
  | none, .data _ => s.setLink p lp
  | some _, .idle => (s.setLink p { lp with rx := none }).count (.lengthErrors p)
  | some _, .startFrame => (s.setLink p { lp with rx := some {} }).count (.lengthErrors p)
  | some rx, .endFrame => (s.setLink p { lp with rx := none }).judgeFrame p rx
  | some rx, .data b => s.setLink p { lp with rx := some (rx.add p b) }

/-- The idle run after a valid symbol in ALIGNING, or after the first one in DOWN with a run of 0 (R123). -/
def idleAfter (run : Nat) (sym : ValidSymbol) : Nat := if sym = .idle then run + 1 else 0

/-- A valid symbol received in any link state (R123, R128). -/
def State.receive (s : State) (p : Port) (sym : ValidSymbol) : State :=
  let lp := s.link p
  match lp.state with
  | .down =>
    s.setLink p { lp with state := .aligning, silence := some 0, errors := [], idleRun := idleAfter 0 sym }
  | .aligning =>
    if idleAfter lp.idleRun sym = Config.alignRun then
      s.setLink p { lp with state := .up, silence := some 0, idleRun := 0 }
    else s.setLink p { lp with silence := some 0, idleRun := idleAfter lp.idleRun sym }
  | .up => s.receiveUp p sym

/-- A code error (R123, R124, R128). -/
def State.codeError (s : State) (p : Port) : State :=
  let lp := s.link p
  if lp.state = .down then s
  else if Config.noiseErrors ≤ (recentErrors s.now lp.errors).length + 1 then s.linkLoss p
  else
    s.setLink p { lp with
      errors := s.now :: recentErrors s.now lp.errors
      idleRun := 0
      rx := lp.rx.map (fun rx => { rx with spoilt := true }) }

/-- LINK_ALIGNING: the first valid symbol in DOWN (R123). -/
def execLinkAligning (p : Port) (sym : ValidSymbol) (s : State) : Host.Outcome State Fault Refusal :=
  .next (if (s.link p).state = .down then s.receive p sym else s)

/-- LINK_UP: the idle run of a port in ALIGNING reaches 64 (R123; notes/assumptions/2). -/
def execLinkUp (p : Port) (s : State) : Host.Outcome State Fault Refusal :=
  .next (if (s.link p).state = .aligning then
      s.setLink p { s.link p with state := .up, silence := some 0, idleRun := 0 }
    else s)

/-- FRAME_TRUNCATED: an IDLE or START arrives while a frame is in reception (R128). -/
def execFrameTruncated (p : Port) (restart : Bool) (s : State) : Host.Outcome State Fault Refusal :=
  .next (if s.isUp p && (s.link p).rx.isSome then s.receive p (if restart then .startFrame else .idle) else s)

/-- FRAME_RECEIVED: an END symbol (R128, R129; notes/assumptions/27). -/
def execFrameReceived (p : Port) (s : State) : Host.Outcome State Fault Refusal := .next (s.receive p .endFrame)

/-- IDLE_SYMBOL (R123, R128). -/
def execIdleSymbol (p : Port) (s : State) : Host.Outcome State Fault Refusal := .next (s.receive p .idle)

/-- START_SYMBOL (R123, R128). -/
def execStartSymbol (p : Port) (s : State) : Host.Outcome State Fault Refusal := .next (s.receive p .startFrame)

/-- DATA_SYMBOL (R123, R128). -/
def execDataSymbol (p : Port) (b : Byte) (s : State) : Host.Outcome State Fault Refusal := .next (s.receive p (.data b))

/-- CODE_ERROR (R123, R124, R128). -/
def execCodeError (p : Port) (s : State) : Host.Outcome State Fault Refusal := .next (s.codeError p)

end Sys2Proof.Machine
end

