-- ==== Sys2Proof/Machine/Requests.lean ====
section
/-! DEFINITION. The Management Executor's handling of requests, and the reading and acting requests: chapter 10 (R149 to
R156) with R15 to R17, R34, R59, R60, R88, R169, R180, R181, R183. -/

namespace Sys2Proof.Machine

/-! ### Handling of a request (R149 to R152) -/

/-- What a request's own rule answers: a status with its result fields, or nothing yet (R150, R164, R168). -/
inductive Answer where
  | done (status : Status) (results : List Byte)
  | deferred
  deriving DecidableEq, Repr

/-- OK without result fields. -/
def okAnswer : Answer := .done .ok []

/-- A refusal: no result fields (R150). -/
def refusal (status : Status) : Answer := .done status []

/-- An accepted request, its slot reserved: the checks of R151 in order, then the request's own rule. -/
def State.answerRequest (s : State) (code tag : Byte) (formOk : Bool) (body : State → State × Answer) : State :=
  if s.mgmt.resetPending.isSome then s.respond tag code .busy []
  else if !formOk then s.respond tag code .badFormat []
  else match body s with
    | (s1, .done status results) => s1.respond tag code status results
    | (s1, .deferred) => s1

/-- A request finds no free slot of MQ (R149). -/
def State.dropRequest (s : State) : State := (s.count .requestDropped).raiseNow .requestDrop 0

/-- An addressed request: admitted where MQ has a free slot, else discarded (R149). -/
def State.addressed (s : State) (code tag : Byte) (formOk : Bool) (body : State → State × Answer) : State :=
  if s.mqFree = 0 then s.dropRequest else (s.reserve tag code).answerRequest code tag formOk body

/-- A refusal that says a field is out of range (R152). -/
def Answer.outOfRange : Answer → Bool
  | .done .badValue _ => true
  | .done .badIndex _ => true
  | _ => false

/-- A broadcast request: executed if permitted, well formed and in range, in an assigned part with no reset pending; else
ignored and counted (R152). -/
def State.broadcast (s : State) (permitted formOk : Bool) (body : State → State × Answer) : State :=
  if permitted && formOk && s.trunk.own != 0 && s.mgmt.resetPending.isNone && !(body s).2.outOfRange then (body s).1
  else s.count .broadcastIgnored

/-- A REQUEST leaves the hand-over list, where it stands at its head (notes/assumptions/6). -/
def State.takeHanded (s : State) (broadcast : Bool) (payload : List Byte) : State :=
  { s with inbox := { s.inbox with executor := dropHead ⟨broadcast, payload⟩ s.inbox.executor } }

/-- The Executor takes a REQUEST of a known code (R149 to R152). -/
def State.runRequest (s : State) (code : Byte) (r : Request) (permitted formOk : Bool) (body : State → State × Answer) :
    State :=
  let s1 := s.takeHanded r.broadcast (r.tag :: code :: r.fields)
  if r.broadcast then s1.broadcast permitted formOk body else s1.addressed code r.tag formOk body

/-- The length check of R151 for a code with `n` field bytes (R156). -/
def hasFields (r : Request) (n : Nat) : Bool := r.fields.length == n

/-! ### Reading requests (R153, R154) -/

/-- Answers that change nothing. -/
def reading (results : State → Answer) (s : State) : State × Answer := (s, results s)

/-- GET_IDENTITY (R153). -/
def execGetIdentity (r : Request) (s : State) : Host.Outcome State Fault Refusal :=
  .next (s.runRequest 1 r false (hasFields r 0) (reading (fun _ => .done .ok identityBytes)))

/-- READ_SETTINGS (R153). -/
def execReadSettings (r : Request) (s : State) : Host.Outcome State Fault Refusal :=
  .next (s.runRequest 2 r false (hasFields r 0) (reading (fun x => .done .ok (settingsBytes x.settings))))

/-- READ_NODE: an index outside the table, then the clear-worst flag, then the values (R34; notes/assumptions/14). -/
def readNode (fields : List Byte) (s : State) : State × Answer :=
  if h : (byteAt fields 0).toNat < 24 then
    let i : Fin 24 := ⟨(byteAt fields 0).toNat, h⟩
    match parseBool (byteAt fields 1) with
    | none => (s, refusal .badValue)
    | some clear =>
      (if clear then s.setNodeRun i { s.nodeRun[i] with worstLatency := none } else s,
        .done .ok (nodeBytes s.nodeCfg[i] ++ nodeRuntimeBytes s.nodeRun[i]))
  else (s, refusal .badIndex)

def execReadNode (r : Request) (s : State) : Host.Outcome State Fault Refusal :=
  .next (s.runRequest 3 r false (hasFields r 2) (readNode r.fields))

/-- READ_CHANNEL (R60, R76). -/
def readChannel (fields : List Byte) (s : State) : Answer :=
  if h : (wordAt fields 0).toNat < 256 then
    let c : Fin 256 := ⟨(wordAt fields 0).toNat, h⟩
    .done .ok (channelBytes s.chanCfg[c] ++ channelRuntimeBytes s.chanRun[c])
  else refusal .badIndex

def execReadChannel (r : Request) (s : State) : Host.Outcome State Fault Refusal :=
  .next (s.runRequest 4 r false (hasFields r 2) (reading (readChannel r.fields)))

/-- The values of READ_QUEUES, all of one moment (R154). -/
def queueBytes (s : State) : List Byte :=
  be16 (s.queue .c0).length ++ be16 (s.queue .c1).length ++ be16 (s.queue .c2).length ++ be16 (s.queue .c3).length ++
    [byteOf s.trunk.tqU.length, byteOf s.trunk.tqN.length, byteOf s.trunk.dfq.length] ++ be16 s.store.free ++
    [byteOf s.conf.entries.length, s.mgmt.session.state.code, byteOf s.mgmt.session.items.length]

/-- READ_QUEUES (R154, R90, R118, R135). -/
def execReadQueues (r : Request) (s : State) : Host.Outcome State Fault Refusal :=
  .next (s.runRequest 5 r false (hasFields r 0) (reading (fun x => .done .ok (queueBytes x))))

/-- The counters from place `first`, `count` of them, 4 bytes each (R183). -/
def State.groupBytes (s : State) (first count : Nat) : List Byte :=
  (((s.bank.toList.drop first).take count).map be32).flatten

/-- The counters of a group become 0 (R183). -/
def State.clearGroup (s : State) (first count : Nat) : State :=
  { s with bank := Vector.ofFn (fun i => if first ≤ i.val ∧ i.val < first + count then 0 else s.bank[i]) }

/-- READ_COUNTERS (R183). -/
def readCounters (fields : List Byte) (s : State) : State × Answer :=
  match counterGroup (byteAt fields 0), parseBool (byteAt fields 1) with
  | some (first, count), some clear =>
    (if clear then s.clearGroup first count else s, .done .ok (s.groupBytes first count))
  | _, _ => (s, refusal .badValue)

def execReadCounters (r : Request) (s : State) : Host.Outcome State Fault Refusal :=
  .next (s.runRequest 6 r false (hasFields r 2) (readCounters r.fields))

/-- The result of READ_EVENTS: the latched set, each kind's detail and sweep number, the notify set (R181, R156). -/
def eventBytes (s : State) : List Byte :=
  be16 (latchedSet s.latch).toNat ++ (s.latch.latched.toList.map occurrenceBytes).flatten ++ be16 s.latch.notify.toNat

/-- READ_EVENTS (R181). -/
def execReadEvents (r : Request) (s : State) : Host.Outcome State Fault Refusal :=
  .next (s.runRequest 7 r false (hasFields r 0) (reading (fun x => .done .ok (eventBytes x))))

/-! ### Acting requests (R155) -/

/-- The named kinds leave the latched set (R180). -/
def State.unlatch (s : State) (set : Word) : State :=
  { s with latch := { s.latch with
      latched := Vector.ofFn (fun i => if set.getLsbD (i.val + 1) then none else s.latch.latched[i]) } }

/-- CLEAR_EVENTS at the latch (R180). -/
def clearEvents (fields : List Byte) (s : State) : State × Answer :=
  let set := wordAt fields 0
  if !kindsDefined set then (s, refusal .badValue)
  else
    let s1 := s.unlatch set
    (if names set .storeEmpty && s.latch.storeEmpty then s1.raiseNow .storeEmpty 0 else s1, okAnswer)

def execClearEvents (r : Request) (s : State) : Host.Outcome State Fault Refusal :=
  .next (s.runRequest 8 r true (hasFields r 2) (clearEvents r.fields))

/-- SET_NOTIFY at the latch (R181). -/
def setNotify (fields : List Byte) (s : State) : State × Answer :=
  let set := wordAt fields 0
  if !kindsDefined set then (s, refusal .badValue)
  else ({ s with latch := { s.latch with notify := set } }, okAnswer)

def execSetNotify (r : Request) (s : State) : Host.Outcome State Fault Refusal :=
  .next (s.runRequest 9 r false (hasFields r 2) (setNotify r.fields))

/-- START_SWEEPS (R15). -/
def execStartSweeps (r : Request) (s : State) : Host.Outcome State Fault Refusal :=
  .next (s.runRequest 10 r true (hasFields r 0) (fun x => (x.startSweeps.1, .done x.startSweeps.2 [])))

/-- STOP_SWEEPS (R16). -/
def execStopSweeps (r : Request) (s : State) : Host.Outcome State Fault Refusal :=
  .next (s.runRequest 11 r true (hasFields r 0) (fun x => (x.stopSweeps, okAnswer)))

/-- TRIGGER_ONCE (R17). -/
def execTriggerOnce (r : Request) (s : State) : Host.Outcome State Fault Refusal :=
  .next (s.runRequest 12 r false (hasFields r 0) (fun x => (x.triggerOnce.1, .done x.triggerOnce.2 [])))

/-- The enabled channels of a range (R59). -/
def State.enabledIn (s : State) (first count : Nat) : List (Fin 256) :=
  (List.finRange 256).filter (fun c => s.chanCfg[c].enabled && decide (first ≤ c.val) && decide (c.val < first + count))

/-- Force pending is set on channels (R59). -/
def State.markForced (s : State) (cs : List (Fin 256)) : State :=
  cs.foldl (fun x c => x.setChanRun c { x.chanRun[c] with forcePending := true }) s

/-- FORCE_REPORT at the filter (R59). -/
def forceReport (fields : List Byte) (s : State) : State × Answer :=
  let first := (wordAt fields 0).toNat
  let count := (wordAt fields 2).toNat
  if count = 0 then (s, refusal .badValue)
  else if 255 < first + count - 1 then (s, refusal .badIndex)
  else (s.markForced (s.enabledIn first count), .done .ok (be16 (s.enabledIn first count).length))

def execForceReport (r : Request) (s : State) : Host.Outcome State Fault Refusal :=
  .next (s.runRequest 13 r true (hasFields r 4) (forceReport r.fields))

/-- The discard of a class queue, with its drop notices (R88). -/
def State.flush (s : State) (k : ReportClass) : State :=
  let q := s.queue k
  (((s.dropChoice.setQueue k []).countBy (.reportsDropped k) q.length).freeSlots q.length).sendDrops s.choice.lateDrops
    (q.map Report.channel)

/-- FLUSH_CLASS at the store (R88). -/
def flushClass (fields : List Byte) (s : State) : State × Answer :=
  match parseClass (byteAt fields 0) with
  | none => (s, refusal .badValue)
  | some k => (s.flush k, .done .ok (be16 (s.queue k).length))

def execFlushClass (r : Request) (s : State) : Host.Outcome State Fault Refusal :=
  .next (s.runRequest 14 r false (hasFields r 1) (flushClass r.fields))

/-- The length check of SEGMENT_RELAY (R169). -/
def relayForm (fields : List Byte) : Bool :=
  decide (2 ≤ fields.length) && fields.length == 2 + (byteAt fields 1).toNat

/-- SEGMENT_RELAY at the Relay Controller: its checks in order, then the command waits for the arbiter (R169). -/
def segmentRelay (fields : List Byte) (s : State) : State × Answer :=
  if !within 1 Config.relayBytes (byteAt fields 1).toNat then (s, refusal .badValue)
  else if !within 1 62 (byteAt fields 0).toNat then (s, refusal .badValue)
  else if s.relay.isSome then (s, refusal .busy)
  else if !s.isUp .sg then (s, refusal .linkDown)
  else ({ s with relay := some ⟨byteAt fields 0, fields.drop 2, .queued⟩ }, .deferred)

def execSegmentRelay (r : Request) (s : State) : Host.Outcome State Fault Refusal :=
  .next (s.runRequest 15 r false (relayForm r.fields) (segmentRelay r.fields))

/-- RESET_PART: the response OK at once, the reset pending; taken at once where TU is not UP (R166, R167). -/
def resetPart (tag : Byte) (fields : List Byte) (s : State) : State × Answer :=
  match parseScope (byteAt fields 0) with
  | none => (s, refusal .badValue)
  | some scope =>
    let s1 := s.respond tag 23 .ok []
    let s2 : State := { s1 with mgmt := { s1.mgmt with resetPending := some scope } }
    (if s.isUp .tu then s2 else s2.takeReset scope, .deferred)

def execResetPart (r : Request) (s : State) : Host.Outcome State Fault Refusal :=
  .next (s.runRequest 23 r false (hasFields r 1) (resetPart r.tag r.fields))

/-! ### Codes of no request (R149, R151, R152) -/

/-- A code of R156: 1 to 23. -/
def knownCode (code : Byte) : Bool := within 1 23 code.toNat

/-- UNKNOWN_REQUEST: a REQUEST too short for tag and code, or of an unknown code; one of a known code has its own command
(R149, R151, R152; notes/assumptions/3). -/
def State.unknownRequest (s : State) (broadcast : Bool) (payload : List Byte) : State :=
  match payload with
  | tag :: code :: _ =>
    if knownCode code then s
    else if broadcast then (s.takeHanded true payload).count .broadcastIgnored
    else (s.takeHanded false payload).addressed code tag true (fun x => (x, refusal .unknownRequest))
  | _ => (s.takeHanded broadcast payload).count (.lengthErrors .tu)

def execUnknownRequest (broadcast : Bool) (payload : List Byte) (s : State) : Host.Outcome State Fault Refusal :=
  .next (s.unknownRequest broadcast payload)

end Sys2Proof.Machine
end

