-- ==== Sys2Proof/Machine/Session.lean ====
section
/-! DEFINITION. The staging session: sections 10.6 and 10.7 (R158 to R164). -/

namespace Sys2Proof.Machine

def State.setSession (s : State) (x : Session) : State := { s with mgmt := { s.mgmt with session := x } }

/-- The session idle timeout in ticks (R160). -/
def State.idleTime (s : State) : Nat := s.settings.idleTimeout * Config.ticksPerIdleUnit

/-- The idle timer restarts with the timeout now in force (R160). -/
def State.restartIdle (s : State) : State := s.setSession { s.mgmt.session with idle := some s.idleTime }

/-- The session ends: list empty, state NONE, token absent, timer idle (R160, R162). -/
def State.endSession (s : State) : State := s.setSession {}

/-- SESSION_OPEN (R158). -/
def sessionOpen (fields : List Byte) (s : State) : State × Answer :=
  let token := wordAt fields 0
  match s.mgmt.session.state with
  | .none => (s.setSession ⟨.opened, some token, [], some s.idleTime⟩, okAnswer)
  | .opened => if s.mgmt.session.token = some token then (s.restartIdle, okAnswer) else (s, refusal .sessionHeld)
  | .commitPending => (s, refusal .sessionHeld)

def execSessionOpen (r : Request) (s : State) : Host.Outcome State Fault Refusal :=
  .next (s.runRequest 16 r false (hasFields r 2) (sessionOpen r.fields))

/-- The checks of R159 before the request's own rule; in OPEN the idle timer restarts (R160). -/
def inSession (token : Word) (whilePending : Bool) (body : State → State × Answer) (s : State) : State × Answer :=
  match s.mgmt.session.state with
  | .none => (s, refusal .noSession)
  | .opened => if s.mgmt.session.token = some token then body s.restartIdle else (s, refusal .wrongSession)
  | .commitPending =>
    if s.mgmt.session.token ≠ some token then (s, refusal .wrongSession)
    else if whilePending then body s
    else (s, refusal .busy)

/-! ### Staging (R161) -/

/-- Two items name one target. -/
def StagedItem.sameTarget (a b : StagedItem) : Bool := a.targetBytes == b.targetBytes

/-- A valid item is placed (R161). -/
def stageItem (item : StagedItem) (s : State) : State × Answer :=
  let items := s.mgmt.session.items
  match items.findIdx? item.sameTarget with
  | some pos =>
    (s.setSession { s.mgmt.session with items := items.set pos item }, .done .ok [byteOf pos, byteOf items.length])
  | none =>
    if items.length < Config.stagingItems then
      (s.setSession { s.mgmt.session with items := items ++ [item] },
        .done .ok [byteOf items.length, byteOf (items.length + 1)])
    else (s, refusal .stageFull)

/-- STAGE_NODE: the index, then the record (R161). -/
def stageNode (fields : List Byte) (s : State) : State × Answer :=
  if h : (byteAt fields 2).toNat < 24 then
    match parseNode (fields.drop 3) with
    | none => (s, refusal .badValue)
    | some cfg => stageItem (.node ⟨(byteAt fields 2).toNat, h⟩ cfg) s
  else (s, refusal .badIndex)

def execStageNode (r : Request) (s : State) : Host.Outcome State Fault Refusal :=
  .next (s.runRequest 17 r false (hasFields r 8) (inSession (wordAt r.fields 0) false (stageNode r.fields)))

/-- STAGE_CHANNEL: the index, then the record (R161). -/
def stageChannel (fields : List Byte) (s : State) : State × Answer :=
  if h : (wordAt fields 2).toNat < 256 then
    match parseChannel (fields.drop 4) with
    | none => (s, refusal .badValue)
    | some cfg => stageItem (.channel ⟨(wordAt fields 2).toNat, h⟩ cfg) s
  else (s, refusal .badIndex)

def execStageChannel (r : Request) (s : State) : Host.Outcome State Fault Refusal :=
  .next (s.runRequest 18 r false (hasFields r 21) (inSession (wordAt r.fields 0) false (stageChannel r.fields)))

/-- STAGE_SETTINGS (R161). -/
def stageSettings (fields : List Byte) (s : State) : State × Answer :=
  match parseSettings (fields.drop 2) with
  | none => (s, refusal .badValue)
  | some t => stageItem (.settings t) s

def execStageSettings (r : Request) (s : State) : Host.Outcome State Fault Refusal :=
  .next (s.runRequest 19 r false (hasFields r 28) (inSession (wordAt r.fields 0) false (stageSettings r.fields)))

/-- READ_STAGED: the count and the targets, and the record at the position; position 32 means none (R162;
notes/assumptions/28). -/
def readStaged (fields : List Byte) (s : State) : State × Answer :=
  let items := s.mgmt.session.items
  let pos := (byteAt fields 2).toNat
  let summary := byteOf items.length :: (items.map StagedItem.targetBytes).flatten
  match items[pos]? with
  | some item => (s, .done .ok (summary ++ item.recordBytes))
  | none => if pos = Config.stagingItems then (s, .done .ok summary) else (s, refusal .badIndex)

def execReadStaged (r : Request) (s : State) : Host.Outcome State Fault Refusal :=
  .next (s.runRequest 20 r false (hasFields r 3) (inSession (wordAt r.fields 0) true (readStaged r.fields)))

/-- SESSION_DISCARD (R162). -/
def sessionDiscard (s : State) : State × Answer := (s.endSession, okAnswer)

def execSessionDiscard (r : Request) (s : State) : Host.Outcome State Fault Refusal :=
  .next (s.runRequest 21 r false (hasFields r 2) (inSession (wordAt r.fields 0) false sessionDiscard))

/-! ### COMMIT (R163, R164) -/

/-- Two entries enabled in the merge hold one node address (R163). -/
def NodeConfig.sharesAddress (a b : NodeConfig) : Bool := a.enabled && b.enabled && a.address == b.address

/-- The channel index ranges of two entries enabled in the merge share an index (R163). -/
def NodeConfig.overlaps (a b : NodeConfig) : Bool :=
  a.enabled && b.enabled && decide (a.first < b.first + b.count) && decide (b.first < a.first + a.count)

/-- A merged node entry is in violation with another one. -/
def clashes (nodes : Vector NodeConfig 24) (i : Fin 24) (test : NodeConfig → NodeConfig → Bool) : Bool :=
  (List.finRange 24).any (fun j => j != i && test nodes[i] nodes[j])

/-- LIMIT_ORDER (R163). -/
def ChanConfig.limitOrderBroken (c : ChanConfig) : Bool :=
  decide (c.high.toInt ≤ c.low.toInt) || decide (c.high.toInt - c.low.toInt < (c.hysteresis : Int))

/-- The reason of the first condition in the table of R163 that an item breaks: 0 DUPLICATE_ADDRESS, 1 RANGE_OVERLAP,
2 LIMIT_ORDER, 3 WINDOW_PERIOD (R156). -/
def violation (nodes : Vector NodeConfig 24) : StagedItem → Option Byte
  | .node i _ =>
    if clashes nodes i NodeConfig.sharesAddress then some 0
    else if clashes nodes i NodeConfig.overlaps then some 1
    else none
  | .channel _ cfg => if cfg.limitOrderBroken then some 2 else none
  | .settings t => if t.period ≤ t.window then some 3 else none

/-- The result fields of COMMIT_REJECTED: reason, target, position of the first item in violation (R163, R156). -/
def rejection (nodes : Vector NodeConfig 24) : Nat → List StagedItem → Option (List Byte)
  | _, [] => none
  | pos, item :: rest =>
    match violation nodes item with
    | some reason => some (reason :: item.targetBytes ++ [byteOf pos])
    | none => rejection nodes (pos + 1) rest

/-- COMMIT, taken in OPEN with the session's token (R163, R164). -/
def commitSession (s : State) : State × Answer :=
  match rejection s.mergedNodes 0 s.mgmt.session.items with
  | some results => (s, .done .commitRejected results)
  | none =>
    if s.sweep.state = .collecting then
      (s.setSession { s.mgmt.session with state := .commitPending, idle := none }, .deferred)
    else (s.applyNow, .deferred)

def execCommit (r : Request) (s : State) : Host.Outcome State Fault Refusal :=
  .next (s.runRequest 22 r false (hasFields r 2) (inSession (wordAt r.fields 0) false commitSession))

/-! ### The idle timer (R160) -/

/-- SESSION_IDLE_EXPIRY: the idle timer runs out in OPEN (R160; notes/assumptions/2). -/
def execSessionIdleExpiry (s : State) : Host.Outcome State Fault Refusal :=
  .next (match s.mgmt.session.idle with
    | none => s
    | some remaining => ((s.advance remaining).endSession).raiseNow .sessionExpired 0)

end Sys2Proof.Machine
end

