-- ==== Sys2Proof/Machine/Dispatch.lean ====
section
/-! DEFINITION. The meaning of each command, one arm per row of spec/opcode_table.json. -/

namespace Sys2Proof.Machine

/-- The effect of a command on everything but the queue. -/
def exec (i : Instr) (s : State) : Host.Outcome State Fault Refusal :=
  match i with
  | .powerOn => Sys2Proof.Machine.execPowerOn s
  | .resetPin => Sys2Proof.Machine.execResetPin s
  | .linkAligning p sym => Sys2Proof.Machine.execLinkAligning p sym s
  | .linkUp p => Sys2Proof.Machine.execLinkUp p s
  | .linkSilenceLoss p => Sys2Proof.Machine.execLinkSilenceLoss p s
  | .linkNoiseLoss p => Sys2Proof.Machine.execLinkNoiseLoss p s
  | .frameTruncated p restart => Sys2Proof.Machine.execFrameTruncated p restart s
  | .frameReceived p => Sys2Proof.Machine.execFrameReceived p s
  | .transmissionComplete p => Sys2Proof.Machine.execTransmissionComplete p s
  | .dfqSend => Sys2Proof.Machine.execDfqSend s
  | .enumerateRestart h flag next => Sys2Proof.Machine.execEnumerateRestart h flag next s
  | .enumerateClear h next => Sys2Proof.Machine.execEnumerateClear h next s
  | .sync h number => Sys2Proof.Machine.execSync h number s
  | .syncSupervisionExpiry => Sys2Proof.Machine.execSyncSupervisionExpiry s
  | .periodReached => Sys2Proof.Machine.execPeriodReached s
  | .windowExpiry => Sys2Proof.Machine.execWindowExpiry s
  | .sgArbiterStart => Sys2Proof.Machine.execSgArbiterStart s
  | .sampleFrame node payload => Sys2Proof.Machine.execSampleFrame node payload s
  | .uplinkChoice => Sys2Proof.Machine.execUplinkChoice s
  | .retransmissionExpiry seq => Sys2Proof.Machine.execRetransmissionExpiry seq s
  | .ack payload => Sys2Proof.Machine.execAck payload s
  | .nodeReply node reply => Sys2Proof.Machine.execNodeReply node reply s
  | .relayTimerExpiry => Sys2Proof.Machine.execRelayTimerExpiry s
  | .sessionIdleExpiry => Sys2Proof.Machine.execSessionIdleExpiry s
  | .getIdentity r => Sys2Proof.Machine.execGetIdentity r s
  | .readSettings r => Sys2Proof.Machine.execReadSettings r s
  | .readNode r => Sys2Proof.Machine.execReadNode r s
  | .readChannel r => Sys2Proof.Machine.execReadChannel r s
  | .readQueues r => Sys2Proof.Machine.execReadQueues r s
  | .readCounters r => Sys2Proof.Machine.execReadCounters r s
  | .readEvents r => Sys2Proof.Machine.execReadEvents r s
  | .clearEvents r => Sys2Proof.Machine.execClearEvents r s
  | .setNotify r => Sys2Proof.Machine.execSetNotify r s
  | .startSweeps r => Sys2Proof.Machine.execStartSweeps r s
  | .stopSweeps r => Sys2Proof.Machine.execStopSweeps r s
  | .triggerOnce r => Sys2Proof.Machine.execTriggerOnce r s
  | .forceReport r => Sys2Proof.Machine.execForceReport r s
  | .flushClass r => Sys2Proof.Machine.execFlushClass r s
  | .segmentRelay r => Sys2Proof.Machine.execSegmentRelay r s
  | .sessionOpen r => Sys2Proof.Machine.execSessionOpen r s
  | .stageNode r => Sys2Proof.Machine.execStageNode r s
  | .stageChannel r => Sys2Proof.Machine.execStageChannel r s
  | .stageSettings r => Sys2Proof.Machine.execStageSettings r s
  | .readStaged r => Sys2Proof.Machine.execReadStaged r s
  | .sessionDiscard r => Sys2Proof.Machine.execSessionDiscard r s
  | .commit r => Sys2Proof.Machine.execCommit r s
  | .resetPart r => Sys2Proof.Machine.execResetPart r s
  | .idleSymbol p => Sys2Proof.Machine.execIdleSymbol p s
  | .codeError p => Sys2Proof.Machine.execCodeError p s
  | .startSymbol p => Sys2Proof.Machine.execStartSymbol p s
  | .dataSymbol p b => Sys2Proof.Machine.execDataSymbol p b s
  | .unknownRequest broadcast payload => Sys2Proof.Machine.execUnknownRequest broadcast payload s

end Sys2Proof.Machine
end

