-- ==== Sys2Proof/WellFormed.lean ====
section
/-! DEFINITION. Which commands the ports and the Dispatcher can hand inward (R129, R130, R132): a check on the operands
alone. `exec` answers for every command; the check says which ones the part can meet. -/

namespace Sys2Proof

/-- Trunk destination and source bytes are at most 31 (R130). -/
def TrunkHeader.ok (h : TrunkHeader) : Bool := h.dest.toNat ≤ 31 && h.src.toNat ≤ 31

/-- A REQUEST payload is at most 96 bytes, two of them the tag and the code (R133). -/
def Request.ok (r : Request) : Bool := r.fields.length ≤ 94

/-- The operands a port or the Dispatcher can deliver. -/
def Instr.wellFormed : Instr → Bool
  | .powerOn => true
  | .resetPin => true
  | .linkAligning _ _ => true
  | .linkUp _ => true
  | .linkSilenceLoss _ => true
  | .linkNoiseLoss _ => true
  | .frameTruncated _ _ => true
  | .frameReceived _ => true
  | .transmissionComplete _ => true
  | .dfqSend => true
  | .enumerateRestart h flag _ => h.ok && flag != 0
  | .enumerateClear h _ => h.ok
  | .sync h _ => h.ok
  | .syncSupervisionExpiry => true
  | .periodReached => true
  | .windowExpiry => true
  | .sgArbiterStart => true
  | .sampleFrame node payload => node.toNat ≤ 63 && payload.length ≤ 64
  | .uplinkChoice => true
  | .retransmissionExpiry _ => true
  | .ack payload => payload.length ≤ 96
  | .nodeReply node reply => node.toNat ≤ 63 && reply.length ≤ 64
  | .relayTimerExpiry => true
  | .sessionIdleExpiry => true
  | .getIdentity r => r.ok
  | .readSettings r => r.ok
  | .readNode r => r.ok
  | .readChannel r => r.ok
  | .readQueues r => r.ok
  | .readCounters r => r.ok
  | .readEvents r => r.ok
  | .clearEvents r => r.ok
  | .setNotify r => r.ok
  | .startSweeps r => r.ok
  | .stopSweeps r => r.ok
  | .triggerOnce r => r.ok
  | .forceReport r => r.ok
  | .flushClass r => r.ok
  | .segmentRelay r => r.ok
  | .sessionOpen r => r.ok
  | .stageNode r => r.ok
  | .stageChannel r => r.ok
  | .stageSettings r => r.ok
  | .readStaged r => r.ok
  | .sessionDiscard r => r.ok
  | .commit r => r.ok
  | .resetPart r => r.ok
  | .idleSymbol _ => true
  | .codeError _ => true
  | .startSymbol _ => true
  | .dataSymbol _ _ => true
  | .unknownRequest _ payload =>
      payload.length ≤ 96 &&
        match payload with
        | _ :: code :: _ => code.toNat == 0 || 23 < code.toNat
        | _ => true

end Sys2Proof
end

