-- ==== Sys2Proof/Safety.lean ====
section
/-! DEFINITION. The laws of the part as predicates on a state, and the words statements are written in. -/

namespace Sys2Proof.Machine

/-! ### The slot law (R78) and the store's other laws (R79, R83) -/

/-- Reports of classes 1 to 3 in the frame in flight on TU (R78). -/
def flightReports : Option Flight → Nat
  | some (.reports _ rs) => rs.length
  | _ => 0

/-- Reports in the four class queues. -/
def Quad.total (q : Quad (List Report)) : Nat := q.q0.length + q.q1.length + q.q2.length + q.q3.length

/-- The places of R78, added. -/
def State.slots (s : State) : Nat :=
  s.store.free + s.store.cq.total + flightReports s.uplink.flight + s.conf.entries.length

/-- The law of R78: the four places hold 384 slots. -/
abbrev SlotLaw (s : State) : Prop := s.slots = Config.storeSlots

/-- Every class queue's occupancy is at most its active limit (R79). -/
def QueuesWithinLimits (s : State) : Prop := ∀ k, (s.queue k).length ≤ s.settings.limits.get k

/-- The latch's copy of the store's level condition: true exactly while no slot is free (R83, R178). -/
abbrev StoreEmptyTrue (s : State) : Prop := s.latch.storeEmpty = true ↔ s.store.free = 0

/-! ### The outstanding list (R107) -/

/-- At most 16 entries, no two with one sequence number; the DUE order lists the DUE entries, each once; the entry on the
line is the SENDING one, and an urgent frame in flight has its entry; a mark is set in SENDING only (R107). -/
def OutstandingLaw (s : State) : Prop :=
  s.conf.entries.length ≤ Config.outstandingSlots ∧
  (s.conf.entries.map Entry.seq).Nodup ∧
  s.conf.due.Nodup ∧
  (∀ q, q ∈ s.conf.due ↔ ∃ e ∈ s.conf.entries, e.seq = q ∧ e.state = .due) ∧
  (∀ e ∈ s.conf.entries, e.state = .sending ↔ ∃ again, s.uplink.flight = some (.urgent e.seq again)) ∧
  (∀ q again, s.uplink.flight = some (.urgent q again) → ∃ e ∈ s.conf.entries, e.seq = q) ∧
  (∀ e ∈ s.conf.entries, e.acked = true → e.state = .sending)

/-! ### MQ, the trunk queues and the address (R148, R135) -/

/-- Items and reserved slots together fill at most the 8 slots (R148). -/
abbrev MqLaw (s : State) : Prop := s.mgmt.items.length + s.mgmt.reserved.length ≤ Config.mqSlots

/-- Capacities of DFQ, TQ-U and TQ-N, and the range of the own address (R135). -/
abbrev TrunkLaw (s : State) : Prop :=
  s.trunk.own ≤ 30 ∧ s.trunk.dfq.length ≤ Config.dfqSlots ∧ s.trunk.tqU.length ≤ Config.tqUSlots ∧
    s.trunk.tqN.length ≤ Config.tqNSlots

/-- The reserved slots of MQ: one for SEGMENT_RELAY exactly while a relay is pending, one for COMMIT exactly while a commit
is pending, and no other (R150, R164, R168). -/
def ReservationLaw (s : State) : Prop :=
  (s.mgmt.reserved.filter (fun r => r.code == 15)).length = (if s.relay.isSome then 1 else 0) ∧
  (s.mgmt.reserved.filter (fun r => r.code == 22)).length = (if s.mgmt.session.state = .commitPending then 1 else 0) ∧
  ∀ r ∈ s.mgmt.reserved, r.code = 15 ∨ r.code = 22

/-! ### Runtime records (R20, R39, R65) -/

/-- A limit record: a run of disagreeing samples is tracked with its candidate or not at all; UNKNOWN tracks none, and the
candidate is a state other than the present one (R65, R68, R69). -/
def LimitRecordOk (r : ChanRuntime) : Prop :=
  (r.candidate = none ↔ r.count = 0) ∧ (r.limit = .unknown → r.candidate = none) ∧ r.candidate ≠ some r.limit ∧
    r.candidate ≠ some .unknown

/-- Ranges of the runtime records: since-report of R39 and the limit record of R65. -/
def ChannelLaw (s : State) : Prop :=
  ∀ c : Fin 256, LimitRecordOk s.chanRun[c] ∧ s.chanRun[c].sinceReport ≤ 65535

/-- The persistence count between events: at most one below the channel's active persistence, and so within 0 to 7 (R39,
R69). -/
def PersistenceLaw (s : State) : Prop :=
  ∀ c : Fin 256, s.chanRun[c].count < s.chanCfg[c].persistence ∧ s.chanRun[c].count ≤ 7

/-- Ranges of a node's runtime record (R20). -/
def NodeLaw (s : State) : Prop :=
  ∀ i : Fin 24, s.nodeRun[i].misses ≤ 15 ∧ (∀ l ∈ s.nodeRun[i].lastLatency, l ≤ 65535) ∧
    (∀ l ∈ s.nodeRun[i].worstLatency, l ≤ 65535)

/-! ### Links (R122 to R128) -/

/-- A link record: no frame off UP, the idle run in ALIGNING only and below 64, silence measured off DOWN only, at most 31
code errors held and none in DOWN, a frame in reception within the port's largest frame, and a frame in transmission with a
symbol still to send (R121 to R124, R126, R128). -/
def LinkOk (p : Port) (lp : LinkPort) : Prop :=
  (lp.state ≠ .up → lp.rx = none ∧ lp.tx = none) ∧
  (lp.state ≠ .aligning → lp.idleRun = 0) ∧ lp.idleRun < Config.alignRun ∧
  (lp.state = .down ↔ lp.silence = none) ∧
  (lp.state = .down → lp.errors = []) ∧ lp.errors.length < Config.noiseErrors ∧
  (∀ rx ∈ lp.rx, rx.bytes.length ≤ maxFrame p) ∧ (∀ t ∈ lp.tx, t.sent < t.symbols.length)

/-- Every port's link record is in order. -/
def LinkLaw (s : State) : Prop := ∀ p, LinkOk p (s.link p)

/-- The owner of the transmission under way on a port. -/
def State.owner (s : State) (p : Port) : Option Owner := (s.link p).tx.map Transmission.owner

/-- The frame in flight is the Scheduler's transmission on TU, a relay is SENDING exactly while its command is on SG, and
each port sends for its own users (R92, R126, R168). -/
def TransmissionLaw (s : State) : Prop :=
  (s.uplink.flight.isSome = true ↔ s.owner .tu = some .scheduler) ∧
  ((s.relay.map PendingRelay.phase) = some .sending ↔ s.owner .sg = some .relayController) ∧
  (∀ o ∈ s.owner .tu, o = .scheduler ∨ o = .nobody) ∧
  (∀ o ∈ s.owner .td, o = .dispatcher ∨ o = .nobody) ∧
  (∀ o ∈ s.owner .sg, o = .sweepController ∨ o = .relayController ∨ o = .nobody)

/-! ### Sweep and session (R1, R7, R14, R147, R160, R164) -/

/-- The window timer runs and a TRIGGER waits in COLLECTING only; supervision runs in TRUNK source off STOPPED only; the
one-shot mark stands in a LOCAL sweep only (R3, R6, R7, R14, R17). -/
def SweepLaw (s : State) : Prop :=
  (s.sweep.state = .collecting ↔ s.sweep.window.isSome = true) ∧
  (s.sweep.waiting.isSome = true → s.sweep.state = .collecting) ∧
  (s.sweep.supervision.isSome = true → s.settings.source = .trunk ∧ s.sweep.state ≠ .stopped) ∧
  (s.sweep.oneShot = true → s.sweep.state = .collecting ∧ s.settings.source = .localTimer)

/-- A session without items when NONE, with a token otherwise, its idle timer running in OPEN only; at most 32 items, one
per target; a commit pending in COLLECTING only (R147, R160, R161, R164). -/
def SessionLaw (s : State) : Prop :=
  (s.mgmt.session.state = .none → s.mgmt.session.items = [] ∧ s.mgmt.session.token = none) ∧
  (s.mgmt.session.state ≠ .none → s.mgmt.session.token.isSome = true) ∧
  (s.mgmt.session.state = .opened ↔ s.mgmt.session.idle.isSome = true) ∧
  s.mgmt.session.items.length ≤ Config.stagingItems ∧
  (s.mgmt.session.items.map StagedItem.targetBytes).Nodup ∧
  (s.mgmt.session.state = .commitPending → s.sweep.state = .collecting)

/-! ### The tables (R19, R38, R157, R163, R164) -/

/-- A staged item's record is within the ranges checked at staging (R161). -/
def StagedItem.inRange : StagedItem → Bool
  | .node _ n => n.inRange
  | .channel _ c => c.inRange
  | .settings t => t.inRange

/-- The active tables: every record in range, enabled addresses distinct, enabled ranges separate, limits in order, the
window less than the period (R163, R164). -/
def TablesOk (s : State) : Prop :=
  (∀ i : Fin 24, s.nodeCfg[i].inRange = true) ∧
  (∀ i j : Fin 24, i ≠ j → s.nodeCfg[i].sharesAddress s.nodeCfg[j] = false) ∧
  (∀ i j : Fin 24, i ≠ j → s.nodeCfg[i].overlaps s.nodeCfg[j] = false) ∧
  (∀ c : Fin 256, s.chanCfg[c].inRange = true ∧ s.chanCfg[c].limitOrderBroken = false) ∧
  s.settings.inRange = true ∧ s.settings.window < s.settings.period

/-- The tables are in order, staged records are in range, and a pending commit has passed validation (R161, R163, R164). -/
def TablesLaw (s : State) : Prop :=
  TablesOk s ∧ (∀ item ∈ s.mgmt.session.items, item.inRange = true) ∧
    (s.mgmt.session.items.map StagedItem.targetBytes).Nodup ∧
    (s.mgmt.session.state = .none → s.mgmt.session.items = []) ∧
    (s.mgmt.session.state = .commitPending → rejection s.mergedNodes 0 s.mgmt.session.items = none)

/-! ### Words for statements -/

/-- A law that every step keeps. -/
def KeptByStep (law : State → Prop) : Prop := ∀ s t, law s → step s = .next t → law t

/-- A command that closes the sweep in progress: WINDOW_EXPIRY (R7), STOP_SWEEPS, addressed and admitted or broadcast and
permitted (R16, R152), SYNC in TRUNK source (R12). -/
def ClosesSweep (c : Instr) (s : State) : Prop :=
  s.sweep.state = .collecting ∧
  ((c = .windowExpiry ∧ s.sweep.window.isSome = true) ∨
    (∃ r, c = .stopSweeps r ∧ r.fields = [] ∧ s.mgmt.resetPending = none ∧
      ((r.broadcast = false ∧ s.mgmt.items.length + s.mgmt.reserved.length < Config.mqSlots) ∨
        (r.broadcast = true ∧ s.trunk.own ≠ 0))) ∨
    (∃ h n, c = .sync h n ∧ s.settings.source = .trunk))

/-- The supply of choices that the close of this command uses: a SYNC has one of its own before it. -/
def closeSupply (c : Instr) (s : State) : Choice :=
  match c with
  | .sync _ _ => s.dropChoice.choice
  | _ => s.choice

/-- A close of the sweep in progress makes this node ABSENT (R30). -/
def State.losesNode (s : State) (i : Fin 24) : Prop :=
  s.nodeCfg[i].enabled = true ∧ s.nodeCfg[i].required = true ∧ s.nodeRun[i].responded = false ∧
    s.nodeRun[i].presence ≠ .absent ∧ s.settings.absentLimit ≤ min 15 (s.nodeRun[i].misses + 1)

/-- The apply of the staged items resets the runtime record of this channel (R61; notes/assumptions/15). -/
def State.resetsChannel (s : State) (c : Fin 256) : Prop :=
  (s.chanCfg[c].enabled = false ∧ s.mergedChannels[c].enabled = true) ∨
    ∃ i : Fin 24, s.nodeCfg[i] ≠ s.mergedNodes[i] ∧
      ((s.nodeCfg[i].enabled = true ∧ s.nodeCfg[i].covers c.val = true) ∨
        (s.mergedNodes[i].enabled = true ∧ s.mergedNodes[i].covers c.val = true))

/-- The number of reports that the staged limits remove from a class queue (R89). -/
def State.excessOf (s : State) (k : ReportClass) : Nat := (s.queue k).length - s.mergedSettings.limits.get k

/-- A report of this channel is among those that the staged limits remove, the oldest of each queue (R89). -/
def State.trims (s : State) (c : Fin 256) : Prop := ∃ k, ∃ r ∈ (s.queue k).take (s.excessOf k), r.channel = c

/-- From `s` to `t` an apply has trimmed the class queues to the staged limits: each report removed is counted, its slot is
free, its channel's gap flag is set, and CLASS_DROP is not raised (R89, R57). The notices of the channels in `early` come
before the resets of the apply, which clear the flag, and those of the other channels after them, but for the channels in
`late`, whose notices wait for the filter (notes/assumptions/16). -/
def TrimmedBy (s t : State) (early late : List (Fin 256)) : Prop :=
  (∀ k, t.queue k = (s.queue k).drop (s.excessOf k) ∧
    t.counter (.reportsDropped k) = min 4294967295 (s.counter (.reportsDropped k) + s.excessOf k)) ∧
  (∃ n, n = s.excessOf .c0 + s.excessOf .c1 + s.excessOf .c2 + s.excessOf .c3 ∧ t.store.free = s.store.free + n ∧
    t.latch.storeEmpty = if n = 0 then s.latch.storeEmpty else false) ∧
  t.latch.latched[EventKind.classDrop.index] = s.latch.latched[EventKind.classDrop.index] ∧
  ∀ c : Fin 256,
    (¬ s.resetsChannel c →
      (t.chanRun[c].gap = true ↔ s.chanRun[c].gap = true ∨ (s.trims c ∧ (c ∈ early ∨ c ∉ late)))) ∧
    (s.resetsChannel c → (t.chanRun[c].gap = true ↔ s.trims c ∧ c ∉ early ∧ c ∉ late)) ∧
    (c ∉ early → c ∈ late → s.trims c → c ∈ t.drops)

/-- The request code and the REQUEST of a command that is one of the 23 requests (R156). -/
def requestOf : Instr → Option (Byte × Request)
  | .getIdentity r => some (1, r)
  | .readSettings r => some (2, r)
  | .readNode r => some (3, r)
  | .readChannel r => some (4, r)
  | .readQueues r => some (5, r)
  | .readCounters r => some (6, r)
  | .readEvents r => some (7, r)
  | .clearEvents r => some (8, r)
  | .setNotify r => some (9, r)
  | .startSweeps r => some (10, r)
  | .stopSweeps r => some (11, r)
  | .triggerOnce r => some (12, r)
  | .forceReport r => some (13, r)
  | .flushClass r => some (14, r)
  | .segmentRelay r => some (15, r)
  | .sessionOpen r => some (16, r)
  | .stageNode r => some (17, r)
  | .stageChannel r => some (18, r)
  | .stageSettings r => some (19, r)
  | .readStaged r => some (20, r)
  | .sessionDiscard r => some (21, r)
  | .commit r => some (22, r)
  | .resetPart r => some (23, r)
  | _ => none

/-- The number of field bytes of a code of fixed length (R156). -/
def fieldBytes : Nat → Option Nat
  | 3 => some 2
  | 4 => some 2
  | 6 => some 2
  | 8 => some 2
  | 9 => some 2
  | 13 => some 4
  | 14 => some 1
  | 16 => some 2
  | 17 => some 8
  | 18 => some 21
  | 19 => some 28
  | 20 => some 3
  | 21 => some 2
  | 22 => some 2
  | 23 => some 1
  | 15 => none
  | _ => some 0

/-- The fields do not have the length of the code (R151 check 3, R169). -/
def badLength (code : Byte) (fields : List Byte) : Prop :=
  match fieldBytes code.toNat with
  | some n => fields.length ≠ n
  | none => fields.length < 2 ∨ fields.length ≠ 2 + (byteAt fields 1).toNat

/-- An addressed request that is admitted, with no part reset pending (R149, R151 check 1). -/
abbrev State.admits (s : State) (r : Request) : Prop :=
  r.broadcast = false ∧ s.mgmt.items.length + s.mgmt.reserved.length < Config.mqSlots ∧ s.mgmt.resetPending = none

/-- The state after the hand-over of a request of this code has been taken (R149). -/
def State.tookRequest (s : State) (code : Byte) (r : Request) : State := s.takeHanded r.broadcast (r.tag :: code :: r.fields)

/-- A response at the tail of MQ. -/
def State.answered (s : State) (r : Request) (code : Byte) (status : Status) (results : List Byte) : State :=
  s.pushMq (.response r.tag code status results)

/-- A session request that reaches its own rule in OPEN, its token named by the first two field bytes (R159). -/
abbrev State.holdsSession (s : State) (r : Request) : Prop :=
  s.mgmt.session.state = .opened ∧ s.mgmt.session.token = some (wordAt r.fields 0)

end Sys2Proof.Machine
end

