-- ==== Sys2Proof/Certificates/Slice0/Obligations.lean ====
section
/-! DEFINITION. The statements for the provers. In each, `exec c s = .next t` says that the command completes, and an
equation for `t` says what it changes and that it leaves everything else as it was. -/

open Sys2Proof Sys2Proof.Machine

/-! ### The step, reset values, resets -/

/-- A step runs the command at the front of the queue on the state with the queue's rest. On an empty queue one tick passes
(the model's choice, notes/assumptions/1): every running timer falls by one, and the remaining times of WAITING entries do
so while TU is UP only (R113); of a frame in transmission as many symbols leave as the supply of choices says, up to the line
rate and short of the last one, which leaves at TRANSMISSION_COMPLETE (the model's choice, notes/assumptions/20; R121, R126);
where deliveries, shares of node-loss notices or drop notices wait for the filter, it takes them at that tick as the supply
says (the model's choice, notes/assumptions/16, 30 and 35; R40, R54, R57, R73). -/
def Obligations.StepRunsFrontCommandOrTick : Prop :=
  (∀ (c : Instr) (rest : List Instr) (s : State),
    step { s with pending := c :: rest } = exec c { s with pending := rest }) ∧
  (∀ s : State, s.pending = [] → ∃ ticked : State, ticked = { s with
      now := s.now + 1
      sweep := { s.sweep with
        window := s.sweep.window.map (· - 1)
        supervision := s.sweep.supervision.map (· - 1) }
      conf := if s.links.tu.state = .up then { s.conf with entries := s.conf.entries.map (fun e =>
          match e.state with
          | .waiting r => { e with state := .waiting (r - 1) }
          | .sending => e
          | .due => e) } else s.conf
      links := ⟨s.links.tu.elapse (s.now + 1) 1, s.links.td.elapse (s.now + 1) 1, s.links.sg.elapse (s.now + 1) 1⟩
      mgmt := { s.mgmt with session := { s.mgmt.session with idle := s.mgmt.session.idle.map (· - 1) } }
      relay := s.relay.map (fun r =>
        match r.phase with
        | .listening n => { r with phase := .listening (n - 1) }
        | .queued => r
        | .sending => r) } ∧
    ∃ calm : Prop, calm = (s.notices = [] ∧ s.drops = [] ∧ s.handed = [] ∧ ∀ p, (s.link p).tx = none) ∧
    (calm → step s = .next ticked) ∧
    (¬ calm → ∃ sent told : State,
      sent = { ticked with choices := s.choices.tail, links := sent.links } ∧
      (∀ p, sent.link p = { ticked.link p with tx := (s.link p).tx.map (fun t => { t with
        sent := min (t.bytes.length + 3) (t.sent + min (if p = .sg then 16 else 125) (s.choice.symbols.get p)) }) }) ∧
      told = ((s.choice.takes.foldl (State.take s.choice.between []) sent).takeShares
        s.choice.late []).takeDrops s.choice.lateDrops ∧
      (s.choice.deliverLate = true → step s = .next told) ∧
      (s.choice.deliverLate = false → step s = .next (told.takeDeliveries s.choice.between []))))

/-- The values after reset that the spec gives (R1, R19, R20, R38, R39, R78, R92, R107, R122, R135, R147, R157, R168,
R175, R184, R185). POWER_ON and RESET_PIN return every part of the state to them (R167); the queue of waiting commands and
the supply of choices are the model's own and stay (notes/assumptions/22). -/
def Obligations.ResetValuesAndPowerOn : Prop :=
  State.reset.sweep = ⟨.stopped, 0, none, false, none, none, none, none, none⟩ ∧
  (∀ i : Fin 24, State.reset.nodeCfg[i] = ⟨false, 0, 0, 1, true⟩ ∧
    State.reset.nodeRun[i] = ⟨.unknown, 0, false, none, none⟩) ∧
  (∀ c : Fin 256, State.reset.chanCfg[c] = ⟨false, .deadband, 0, 0, 0, .c2, false, 32767, -32768, 0, 1, .c1⟩ ∧
    State.reset.chanRun[c] = ⟨none, none, 0, false, false, false, .unknown, 0, none⟩) ∧
  State.reset.settings = ⟨1000, 800, .localTimer, 3, ⟨64, 128, 96, 96⟩, ⟨.keepNew, .keepOld, .keepOld, .keepOld⟩, 8, 4, 2,
    4, 4, 20, 3, 10, 50, 100⟩ ∧
  State.reset.store = ⟨384, ⟨[], [], [], []⟩⟩ ∧
  State.reset.uplink = ⟨none, ⟨.cq1, 0⟩, false⟩ ∧
  State.reset.conf = ⟨[], [], 0⟩ ∧
  (∀ p, State.reset.link p = ⟨.down, 0, none, [], none, none⟩) ∧
  State.reset.trunk = ⟨0, [], [], []⟩ ∧
  State.reset.mgmt = ⟨[], [], ⟨.none, none, [], none⟩, none⟩ ∧
  State.reset.relay = none ∧
  (∀ k : EventKind, State.reset.latch.latched[k.index] = none) ∧
  State.reset.latch.notify = 0 ∧ State.reset.latch.storeEmpty = false ∧ State.reset.latch.beaconCount = 0 ∧
  (∀ c : Counter, State.reset.counter c = 0) ∧
  (∀ s : State,
    exec .powerOn s = .next { State.reset with choices := s.choices, pending := s.pending } ∧
    exec .resetPin s = .next { State.reset with choices := s.choices, pending := s.pending })

/-- The laws that the statements below say every step keeps hold after reset. -/
def Obligations.LawsAtReset : Prop :=
  SlotLaw State.reset ∧ QueuesWithinLimits State.reset ∧ StoreEmptyTrue State.reset ∧ OutstandingLaw State.reset ∧
  MqLaw State.reset ∧ ReservationLaw State.reset ∧ TrunkLaw State.reset ∧ ChannelLaw State.reset ∧
  PersistenceLaw State.reset ∧ NodeLaw State.reset ∧ LinkLaw State.reset ∧
  TransmissionLaw State.reset ∧ SweepLaw State.reset ∧ SessionLaw State.reset ∧ TablesLaw State.reset

/-- RESET_PART (R166, R167): OK and the reset pending while TU is UP; at once where TU is not UP, by the columns of
R167; a scope byte above 1 is refused with BAD_VALUE. R167 does not name the frames waiting for their blocks or the count of
ticks: that both stay is the model's choice (notes/assumptions/23 and 22), as is that samples, shares of notices and drop
notices not yet taken by the filter go with the runtime records (notes/assumptions/16, 30 and 35). -/
def Obligations.ResetPartRequest : Prop :=
  ∀ (r : Request) (b : Byte) (s : State), s.admits r → r.fields = [b] →
    (b = 0 ∨ b = 1 → s.isUp .tu = true →
      exec (.resetPart r) s = .next { (s.tookRequest 23 r).answered r 23 .ok [] with
        mgmt := { s.mgmt with
          items := s.mgmt.items ++ [.response r.tag 23 .ok []]
          resetPending := some (if b = 0 then .runtime else .tables) } }) ∧
    (b = 0 → s.isUp .tu = false →
      exec (.resetPart r) s = .next { State.reset with
        now := s.now
        nodeCfg := s.nodeCfg
        chanCfg := s.chanCfg
        settings := s.settings
        links := ⟨s.links.tu.orphan, s.links.td.orphan, s.links.sg.orphan⟩
        trunk := { own := s.trunk.own }
        latch := { notify := s.latch.notify }
        bank := s.bank
        inbox := (s.tookRequest 23 r).inbox
        choices := s.choices
        pending := s.pending }) ∧
    (b = 1 → s.isUp .tu = false →
      exec (.resetPart r) s = .next { State.reset with
        now := s.now
        links := ⟨s.links.tu.orphan, s.links.td.orphan, s.links.sg.orphan⟩
        trunk := { own := s.trunk.own }
        inbox := (s.tookRequest 23 r).inbox
        choices := s.choices
        pending := s.pending }) ∧
    (1 < b.toNat → exec (.resetPart r) s = .next ((s.tookRequest 23 r).answered r 23 .badValue []))

/-! ### Counters and events -/

/-- An increment adds one to its counter, which stays at 4294967295 once there, and to no other (R182).

An occurrence of a kind that is not latched latches it with its detail and sweep number, and where the kind is in the
notify set its notice joins the tail of MQ or, with no free slot, is lost and counted; an occurrence of a latched kind
changes nothing (R177). -/
def Obligations.CountersAndEvents : Prop :=
  (∀ (s : State) (c d : Counter),
     (s.count c).counter d = if d = c then min 4294967295 (s.counter c + 1) else s.counter d) ∧
  (∀ (s : State) (k : EventKind) (detail : Byte) (sweep : Word),
     (∀ o, s.latch.latched[k.index] = some o → s.raise k detail sweep = s) ∧
     (s.latch.latched[k.index] = none →
       ∃ t : State, t = { s with latch := { s.latch with latched := s.latch.latched.set k.index (some ⟨detail, sweep⟩) } } ∧
       (names s.latch.notify k = false → s.raise k detail sweep = t) ∧
       (names s.latch.notify k = true → s.mgmt.items.length + s.mgmt.reserved.length < 8 →
         s.raise k detail sweep = { t with mgmt := { s.mgmt with items := s.mgmt.items ++ [.event k sweep detail] } }) ∧
       (names s.latch.notify k = true → 8 ≤ s.mgmt.items.length + s.mgmt.reserved.length →
         s.raise k detail sweep = t.count .noticeLost)))

/-! ### Link ports -/

/-- Alignment (R123): the first valid symbol in DOWN, symbols in ALIGNING, the 64th IDLE in a row. An END is a valid
symbol other than IDLE there, so FRAME_RECEIVED acts as one (notes/assumptions/27); that LINK_UP answers UP from any idle
run is the model's choice, the command standing for the run's end (notes/assumptions/2). -/
def Obligations.LinkAlignment : Prop :=
  ∀ (p : Port) (s : State),
    ((s.link p).state = .down →
      (∀ sym, exec (.linkAligning p sym) s = .next (s.setLink p { s.link p with
        state := .aligning, silence := some 0, errors := [], idleRun := if sym = .idle then 1 else 0 })) ∧
      exec (.idleSymbol p) s = exec (.linkAligning p .idle) s ∧
      exec (.startSymbol p) s = exec (.linkAligning p .startFrame) s ∧
      (∀ b, exec (.dataSymbol p b) s = exec (.linkAligning p (.data b)) s) ∧
      exec (.frameReceived p) s = exec (.linkAligning p .endFrame) s ∧
      exec (.codeError p) s = .next s) ∧
    ((s.link p).state = .aligning →
      ((s.link p).idleRun < 63 → exec (.idleSymbol p) s = .next (s.setLink p { s.link p with
        silence := some 0, idleRun := (s.link p).idleRun + 1 })) ∧
      ((s.link p).idleRun = 63 → exec (.idleSymbol p) s = .next (s.setLink p { s.link p with
        state := .up, silence := some 0, idleRun := 0 })) ∧
      exec (.startSymbol p) s = .next (s.setLink p { s.link p with silence := some 0, idleRun := 0 }) ∧
      (∀ b, exec (.dataSymbol p b) s = .next (s.setLink p { s.link p with silence := some 0, idleRun := 0 })) ∧
      exec (.frameReceived p) s = .next (s.setLink p { s.link p with silence := some 0, idleRun := 0 }) ∧
      exec (.linkUp p) s = .next (s.setLink p { s.link p with state := .up, silence := some 0, idleRun := 0 }))

/-- Symbols in UP other than END (the table of R128). -/
def Obligations.ReceptionInUp : Prop :=
  ∀ (p : Port) (s : State), (s.link p).state = .up →
    ((s.link p).rx = none →
      exec (.idleSymbol p) s = .next (s.setLink p { s.link p with silence := some 0 }) ∧
      exec (.startSymbol p) s = .next (s.setLink p { s.link p with silence := some 0, rx := some ⟨[], false, false⟩ }) ∧
      ∀ b, exec (.dataSymbol p b) s = .next (s.setLink p { s.link p with silence := some 0 })) ∧
    (∀ rx, (s.link p).rx = some rx →
      exec (.idleSymbol p) s =
        .next ((s.setLink p { s.link p with silence := some 0, rx := none }).count (.lengthErrors p)) ∧
      exec (.frameTruncated p false) s = exec (.idleSymbol p) s ∧
      exec (.startSymbol p) s = .next
        ((s.setLink p { s.link p with silence := some 0, rx := some ⟨[], false, false⟩ }).count (.lengthErrors p)) ∧
      exec (.frameTruncated p true) s = exec (.startSymbol p) s ∧
      ∀ b, exec (.dataSymbol p b) s = .next (s.setLink p { s.link p with
        silence := some 0
        rx := some (if rx.bytes.length < (if p = .sg then 67 else 103) then { rx with bytes := rx.bytes ++ [b] }
          else { rx with oversize := true }) }))

/-- END in UP (R128 to R132, R145): no frame in reception, nothing; a frame is put to the five checks in their order, its
size, its CRC, its stated length, its kind, direction and addresses, and the payload of a SYNC or ENUMERATE, and is counted
by the first that it fails; a good frame is counted in FRAMES_IN and delivered: from SG to Intake, where it waits with the
tick of its end of reception for its own command (the model's choice, notes/assumptions/6 and 34); from TD to the transit
queue its URGENT flag names or, where that is full, discarded, counted and raised. The CRC starts at FFFFh and takes each
byte in 8 shifts by 1021h (R131). -/
def Obligations.FrameJudged : Prop :=
  (∃ shift : Word → Word, shift = (fun c => if c.msb then (c <<< 1) ^^^ 0x1021 else c <<< 1) ∧ crc16 [] = 0xFFFF ∧
    ∀ (bs : List Byte) (b : Byte), crc16 (bs ++ [b]) = shift^[8] (crc16 bs ^^^ (b.zeroExtend 16 <<< 8))) ∧
  (∀ (p : Port) (rx : Reception),
    ∃ (n header stated : Nat) (size crc length astray payload : Prop),
      n = rx.bytes.length ∧ header = (if p = .sg then 3 else 5) ∧ stated = (rx.bytes.getD (header - 1) 0).toNat ∧
      size = (rx.oversize = true ∨ n < header + 2) ∧
      crc = (rx.spoilt = true ∨ rx.bytes.getD (n - 2) 0 ++ rx.bytes.getD (n - 1) 0 ≠ crc16 (rx.bytes.take (n - 2))) ∧
      length = (stated + header + 2 ≠ n) ∧
      astray = (rx.bytes.getD 0 0 ∉ (match p with
          | .tu => [0x11, 0x12, 0x13, 0x14]
          | .td => [0x01, 0x02, 0x03, 0x04, 0x05]
          | .sg => [0x31, 0x32] : List Byte) ∨
        if p = .sg then 63 < (rx.bytes.getD 1 0).toNat
        else 31 < (rx.bytes.getD 2 0).toNat ∨ 31 < (rx.bytes.getD 3 0).toNat) ∧
      payload = ((rx.bytes.getD 0 0 = 0x13 ∨ rx.bytes.getD 0 0 = 0x14) ∧ stated ≠ 2) ∧
      (size → failedCheck p rx = some (.lengthErrors p)) ∧
      (¬ size → crc → failedCheck p rx = some (.crcErrors p)) ∧
      (¬ size → ¬ crc → length → failedCheck p rx = some (.lengthErrors p)) ∧
      (¬ size → ¬ crc → ¬ length → astray → failedCheck p rx = some .misdirected) ∧
      (¬ size → ¬ crc → ¬ length → ¬ astray → payload → failedCheck p rx = some (.lengthErrors p)) ∧
      (¬ size → ¬ crc → ¬ length → ¬ astray → ¬ payload → failedCheck p rx = none)) ∧
  ∀ (p : Port) (s : State), (s.link p).state = .up →
    ((s.link p).rx = none → exec (.frameReceived p) s = .next (s.setLink p { s.link p with silence := some 0 })) ∧
    ∀ rx, (s.link p).rx = some rx →
      ∃ s0 : State, s0 = s.setLink p { s.link p with silence := some 0, rx := none } ∧
      (rx.oversize = true → exec (.frameReceived p) s = .next (s0.count (.lengthErrors p))) ∧
      (rx.oversize = false → (if p = .sg then 5 else 7) ≤ rx.bytes.length → rx.spoilt = true →
        exec (.frameReceived p) s = .next (s0.count (.crcErrors p))) ∧
      (∀ c, failedCheck p rx = some c → exec (.frameReceived p) s = .next (s0.count c)) ∧
      (failedCheck p rx = none → p = .sg → exec (.frameReceived p) s =
        .next { s0.count (.framesIn .sg) with inbox := { s.inbox with intake := s.inbox.intake ++ [⟨readSeg rx.bytes, s.now⟩] } }) ∧
      (failedCheck p rx = none → p = .td → ∀ f, f = readTrunk rx.bytes →
        (f.flags.getLsbD 0 = true → s.trunk.tqU.length < 16 → exec (.frameReceived p) s =
          .next { s0.count (.framesIn .td) with trunk := { s.trunk with tqU := s.trunk.tqU ++ [f] } }) ∧
        (f.flags.getLsbD 0 = false → s.trunk.tqN.length < 32 → exec (.frameReceived p) s =
          .next { s0.count (.framesIn .td) with trunk := { s.trunk with tqN := s.trunk.tqN ++ [f] } }) ∧
        ((if f.flags.getLsbD 0 then 16 ≤ s.trunk.tqU.length else 32 ≤ s.trunk.tqN.length) →
          exec (.frameReceived p) s =
            .next (((s0.count (.framesIn .td)).count .transitDrop).raiseNow .transitDrop 0)))

/-- A good frame from TU (the table of R136, R141, R142), with nothing waiting before it: own REQUESTs and ACKs to
their blocks, broadcast REQUESTs to the Executor and onward, others onward. SYNC and ENUMERATE wait for their commands, and
a frame that finds one waiting joins behind it (the model's choice, notes/assumptions/6); a broadcast is handed over before
it is executed (notes/assumptions/24). A frame sent onward joins DFQ, or is counted and raised where TD is not UP or DFQ is
full. -/
def Obligations.TrunkRouting : Prop :=
  (∀ (s : State) (rx : Reception) (f : TrunkFrame), (s.link .tu).state = .up → (s.link .tu).rx = some rx →
    failedCheck .tu rx = none → s.inbox.tu = [] → f = readTrunk rx.bytes →
    ∃ s0 : State, s0 = (s.setLink .tu { s.link .tu with silence := some 0, rx := none }).count (.framesIn .tu) ∧
    (f.kind = 0x11 → f.dest.toNat = s.trunk.own → s.trunk.own ≠ 0 → exec (.frameReceived .tu) s =
      .next { s0 with inbox := { s.inbox with executor := s.inbox.executor ++ [⟨false, f.payload⟩] } }) ∧
    (f.kind = 0x11 → f.dest = 31 → s.trunk.own ≤ 30 → exec (.frameReceived .tu) s =
      .next (({ s0 with inbox := { s.inbox with executor := s.inbox.executor ++ [⟨true, f.payload⟩] } } :
        State).forwardOffer f)) ∧
    (f.kind = 0x11 → f.dest.toNat ≠ s.trunk.own ∨ s.trunk.own = 0 → f.dest ≠ 31 →
      exec (.frameReceived .tu) s = .next (s0.forwardOffer f)) ∧
    (f.kind = 0x12 → f.dest.toNat = s.trunk.own → s.trunk.own ≠ 0 → exec (.frameReceived .tu) s =
      .next { s0 with inbox := { s.inbox with confirm := s.inbox.confirm ++ [f.payload] } }) ∧
    (f.kind = 0x12 → f.dest.toNat ≠ s.trunk.own ∨ s.trunk.own = 0 →
      exec (.frameReceived .tu) s = .next (s0.forwardOffer f)) ∧
    (f.kind = 0x13 ∨ f.kind = 0x14 →
      exec (.frameReceived .tu) s = .next { s0 with inbox := { s.inbox with tu := [f] } })) ∧
  (∀ (s : State) (rx : Reception) (g : TrunkFrame) (rest : List TrunkFrame), (s.link .tu).state = .up →
    (s.link .tu).rx = some rx → failedCheck .tu rx = none → s.inbox.tu = g :: rest → g.kind = 0x13 ∨ g.kind = 0x14 →
    exec (.frameReceived .tu) s =
      .next { (s.setLink .tu { s.link .tu with silence := some 0, rx := none }).count (.framesIn .tu) with
        inbox := { s.inbox with tu := g :: rest ++ [readTrunk rx.bytes] } }) ∧
  (∀ (s : State) (f : TrunkFrame),
    (s.isUp .td = true → s.trunk.dfq.length < 16 →
      s.forwardOffer f = { s with trunk := { s.trunk with dfq := s.trunk.dfq ++ [f] } }) ∧
    (s.isUp .td = false ∨ 16 ≤ s.trunk.dfq.length →
      s.forwardOffer f = (s.count .forwardDrop).raiseNow .forwardDrop 0))

/-- Code errors (R123, R124, R128): one that leaves fewer than 32 within the span is recorded, ends an idle run and
spoils a frame in reception; the 32nd loses the link as a loss by noise does. The span takes in a code error exactly 100
ticks old (the model's choice, notes/assumptions/10). A loss in ALIGNING empties the link record and counts and raises
nothing; a loss by silence is that of the tenth tick, to which the clock moves (the model's choice, notes/assumptions/2). -/
def Obligations.CodeErrorsAndLossInAligning : Prop :=
  ∀ (p : Port) (s : State), (s.link p).state ≠ .down →
    (((s.link p).errors.filter (fun t => s.now - t ≤ 100)).length < 31 →
      exec (.codeError p) s = .next (s.setLink p { s.link p with
        errors := s.now :: (s.link p).errors.filter (fun t => s.now - t ≤ 100)
        idleRun := 0
        rx := (s.link p).rx.map (fun rx => { rx with spoilt := true }) })) ∧
    (31 ≤ ((s.link p).errors.filter (fun t => s.now - t ≤ 100)).length →
      exec (.codeError p) s = exec (.linkNoiseLoss p) s) ∧
    ((s.link p).state = .aligning →
      exec (.linkNoiseLoss p) s = .next (s.setLink p ⟨.down, 0, none, [], none, none⟩)) ∧
    (∀ n, (s.link p).silence = some n →
      exec (.linkSilenceLoss p) s = exec (.linkNoiseLoss p) (s.advance (10 - n)) ∧
      ((s.link p).state = .aligning → exec (.linkSilenceLoss p) s =
        .next ((s.advance (10 - n)).setLink p ⟨.down, 0, none, [], none, none⟩)))

/-- A loss in UP (R124, R125, R144, R6, R168, R173), no part reset pending (that case is stated apart): the port is DOWN with
nothing on its line, its transmitter sending IDLE (R121), LINK_LOSSES rises and LINK_LOSS is latched; TD: DFQ is emptied,
each frame counted, with the one on the line if its END had not left, by the symbols sent or, between ticks, by the supply of
choices (the model's choice, notes/assumptions/5); SG: a waiting
TRIGGER is gone, and a relay in any phase has ended with LINK_DOWN in the slot reserved for it, which is all that MQ gains
beside the notice of the loss; TU: the frame in flight is none. Other links, the tables, the clock, the channels' reported
values and the transit queues stay. LINK_NOISE_LOSS is the loss itself, whatever the error history holds (the model's
choice, notes/assumptions/2). -/
def Obligations.LinkLossInUp : Prop :=
  ∀ (p : Port) (s : State), TransmissionLaw s → (s.link p).state = .up → s.mgmt.resetPending = none →
    ∃ t, exec (.linkNoiseLoss p) s = .next t ∧
      t.link p = ⟨.down, 0, none, [], none, none⟩ ∧ (t.link p).sends = .idle ∧ (∀ q, q ≠ p → t.link q = s.link q) ∧
      t.counter (.linkLosses p) = min 4294967295 (s.counter (.linkLosses p) + 1) ∧
      t.latch.latched[EventKind.linkLoss.index] =
        some ((s.latch.latched[EventKind.linkLoss.index]).getD ⟨Port.code p, s.sweep.number⟩) ∧
      (p = .td → t.trunk = { s.trunk with dfq := [] } ∧
        t.counter .forwardDrop = min 4294967295 (s.counter .forwardDrop + s.trunk.dfq.length +
          (if s.choice.endLeft = false ∧ (s.link .td).tx.any (fun t =>
              decide (t.owner = .dispatcher ∧ t.sent < t.bytes.length + 2)) = true then 1 else 0)) ∧
        t.sweep = s.sweep ∧ t.relay = s.relay ∧ t.store = s.store ∧ t.conf = s.conf ∧ t.uplink = s.uplink) ∧
      (p = .sg → t.sweep = { s.sweep with waiting := none } ∧ t.relay = none ∧ t.trunk = s.trunk ∧ t.store = s.store ∧
        t.conf = s.conf ∧ t.uplink = s.uplink ∧
        ∃ before after : List MqItem, (∀ i ∈ before ++ after, ∃ w d, i = .event .linkLoss w d) ∧
          (s.relay = none → t.mgmt = { s.mgmt with items := s.mgmt.items ++ (before ++ after) }) ∧
          (∀ r tag, s.relay = some r → s.mgmt.reserved.find? (fun x => x.code == 15) = some ⟨tag, 15⟩ →
            t.mgmt = { s.mgmt with
              reserved := s.mgmt.reserved.erase ⟨tag, 15⟩
              items := s.mgmt.items ++ (before ++ .response tag 15 .linkDown [] :: after) })) ∧
      (p = .tu → t.trunk = s.trunk ∧ t.sweep = s.sweep ∧ t.relay = s.relay ∧
        ((s.link .tu).tx.map Transmission.owner = some .scheduler → t.uplink = { s.uplink with flight := none })) ∧
      t.now = s.now ∧ t.nodeCfg = s.nodeCfg ∧ t.nodeRun = s.nodeRun ∧ t.chanCfg = s.chanCfg ∧ t.settings = s.settings ∧
      (∀ c : Fin 256, t.chanRun[c] = { s.chanRun[c] with gap := t.chanRun[c].gap }) ∧
      t.inbox = s.inbox ∧ t.pending = s.pending

/-- The end of a transmission (R126, R103, R110, R167, R170): FRAMES_OUT rises, the transmitter is idle, the owner acts;
the next uplink choice comes first where the supply says so (R103, notes/assumptions/29). -/
def Obligations.TransmissionCompleted : Prop :=
  ∀ (p : Port) (s : State) (tx : Transmission), (s.link p).tx = some tx →
    ∃ s0 : State, s0 = (s.setLink p { s.link p with tx := none }).count (.framesOut p) ∧
    (tx.owner = .dispatcher ∨ tx.owner = .sweepController ∨ tx.owner = .nobody →
      exec (.transmissionComplete p) s = .next s0) ∧
    (∀ r, tx.owner = .relayController → s.relay = some r → exec (.transmissionComplete p) s =
      .next { s0 with relay := some { r with phase := .listening (100 * s.settings.relayTimeout) } }) ∧
    (∀ f, tx.owner = .scheduler → s.uplink.flight = some f →
      ∃ s1 : State, s1 = { s0 with choices := s.choices.tail, uplink := { s.uplink with flight := none } } ∧
      (s.choice.chooseFirst = true →
        exec (.transmissionComplete p) s = .next (s1.uplinkChoice.tellCompleted f)) ∧
      (s.choice.chooseFirst = false →
        (∀ m rs, f = .reports m rs → rs ≠ [] → exec (.transmissionComplete p) s = .next { s1 with
          store := { s.store with free := s.store.free + rs.length }
          latch := { s.latch with storeEmpty := false } }) ∧
        (∀ q again, f = .urgent q again → exec (.transmissionComplete p) s = .next (s1.urgentCompleted q)) ∧
        (f = .beacon ∨ f = .transit true ∨ f = .transit false → exec (.transmissionComplete p) s = .next s1) ∧
        (∀ k sw d, f = .item (.event k sw d) → exec (.transmissionComplete p) s = .next s1) ∧
        (f = .item .announce → exec (.transmissionComplete p) s = .next s1) ∧
        (∀ tag code st rs, f = .item (.response tag code st rs) →
          code ≠ 23 ∨ st ≠ .ok ∨ s.mgmt.resetPending = none →
          exec (.transmissionComplete p) s = .next s1) ∧
        (∀ tag rs scope, f = .item (.response tag 23 .ok rs) → s.mgmt.resetPending = some scope →
          exec (.transmissionComplete p) s = .next (s1.takeReset scope))))

/-- What the loss of TU does to the frame in flight whose END has not left (the table of R104, R86, R111, R127), at any of its
symbols before that, no reset pending (that case is stated apart) and the loss told after the port's own count and event
(orders that the supply of choices gives, notes/assumptions/5, 17); the filter takes the drop notices at once or later as
the supply says (notes/assumptions/16). -/
def Obligations.UplinkAbort : Prop :=
  ∀ (s : State) (bytes : List Byte) (sent : Nat) (f : Flight), (s.link .tu).state = .up →
    (s.link .tu).tx = some ⟨bytes, .scheduler, sent⟩ → sent < bytes.length + 2 → s.uplink.flight = some f →
    s.mgmt.resetPending = none → s.choice.endLeft = false → s.choice.tellFirst = false →
    ∃ s0 : State, s0 = { (({ s with links := s.links.set .tu {}, choices := s.choices.tail } : State).count
        (.linkLosses .tu)).raiseNow .linkLoss 0 with uplink := { s.uplink with flight := none } } ∧
    (∀ m rs, f = .reports m rs → exec (.linkNoiseLoss .tu) s =
      .next (((s0.freeSlots rs.length).countBy .txAborted rs.length).sendDrops s.choice.lateDrops
        (rs.map Report.channel))) ∧
    (∀ q again, f = .urgent q again → exec (.linkNoiseLoss .tu) s = .next (s0.urgentAborted q)) ∧
    (f = .transit true ∨ f = .transit false → exec (.linkNoiseLoss .tu) s = .next (s0.count .transitDrop)) ∧
    (∀ i, f = .item i → exec (.linkNoiseLoss .tu) s = .next (s0.count .noticeLost)) ∧
    (f = .beacon → exec (.linkNoiseLoss .tu) s = .next s0)

/-- A pending part reset at the loss of TU (R167, its first three cases; R103, R104, R125 to R127, R150): taken where the
RESET_PART response still waits in MQ, and at the end of its transmission: complete, FRAMES_OUT counted once, or aborted,
NOTICE_LOST counted once and before the reset (that order is the model's choice, notes/assumptions/36). After it the part
stands as the column of R167 says, with the counters kept by RUNTIME as the end of the frame in transmission has left them:
complete, or aborted, with what its owner counts (R103, R104, R110, R111), or, where the reset comes first, told to no
owner. Its END had left where the symbols sent say so, or between ticks where the supply of choices does, which also says
whether the reset comes first, and whether the loss is counted and raised before or after (notes/assumptions/5, 29 and 17;
what stays of the clock and of frames not yet taken: 22 and 23).
-/
def Obligations.PendingResetAtLoss : Prop :=
  ∀ (s : State) (scope : Scope), TransmissionLaw s → (s.link .tu).state = .up → s.mgmt.resetPending = some scope →
    ∃ taken : Vector Nat 43 → State, taken = (fun bank => { State.reset with
        now := s.now
        nodeCfg := if scope = .runtime then s.nodeCfg else State.reset.nodeCfg
        chanCfg := if scope = .runtime then s.chanCfg else State.reset.chanCfg
        settings := if scope = .runtime then s.settings else State.reset.settings
        links := ⟨{}, s.links.td.orphan, s.links.sg.orphan⟩
        trunk := { own := s.trunk.own }
        latch := if scope = .runtime then { notify := s.latch.notify } else {}
        bank := if scope = .runtime then bank else State.reset.bank
        inbox := s.inbox
        choices := s.choices.tail
        pending := s.pending }) ∧
    ∃ noted : State → State, noted = (fun x => (x.count (.linkLosses .tu)).raise .linkLoss 0 x.sweep.number) ∧
    ∃ lost : State, lost = { s with links := s.links.set .tu {}, choices := s.choices.tail } ∧
    ∃ acked : Byte → State → State, acked = (fun q x =>
        if (s.conf.entries.find? (fun e => e.seq == q)).map Entry.acked = some true then x.count .urgentAcked else x) ∧
    ∃ gone : Bool, gone = (s.choice.endLeft || (s.link .tu).tx.any (fun t => decide (t.bytes.length + 2 ≤ t.sent))) ∧
    ∃ ended : State → State, ended = (fun x =>
        if (s.link .tu).tx = none then x
        else if gone then
          match s.uplink.flight with
          | some (.urgent q _) => acked q (x.count (.framesOut .tu))
          | _ => x.count (.framesOut .tu)
        else if s.choice.resetFirst then x
        else
          match s.uplink.flight with
          | some (.reports _ rs) => x.countBy .txAborted rs.length
          | some (.urgent q _) => acked q x
          | some (.transit _) => x.count .transitDrop
          | some (.item _) => x.count .noticeLost
          | some .beacon => x
          | none => x) ∧
    (∀ tag rs, MqItem.response tag 23 .ok rs ∈ s.mgmt.items →
      exec (.linkNoiseLoss .tu) s = .next (if s.choice.tellFirst then noted (taken (ended lost).bank)
        else taken (ended (noted lost)).bank)) ∧
    (∀ tx tag rs, (s.link .tu).tx = some tx → s.uplink.flight = some (.item (.response tag 23 .ok rs)) →
      (∀ tag' rs', MqItem.response tag' 23 .ok rs' ∉ s.mgmt.items) →
      ∃ c, c = (if gone then Counter.framesOut .tu else Counter.noticeLost) ∧
        exec (.linkNoiseLoss .tu) s = .next (if s.choice.tellFirst then noted (taken (lost.count c).bank)
          else taken ((noted lost).count c).bank))

/-! ### Trunk Dispatcher -/

/-- DFQ_SEND (R143): where TD is UP and its transmitter idle, the head of DFQ goes on the line with its CRC.

SG_ARBITER_START with SG UP and its transmitter idle (R5, R170, R134): the waiting TRIGGER first, its start time
recorded; else the waiting NODE_COMMAND, its relay then SENDING; else nothing.

What a transmitter sends (R121, R126): of a frame, START, its bytes as DATA symbols in order, END and two IDLE symbols of
gap, the next to leave after those that have left; with no frame in transmission, IDLE, whatever the link state. Symbols
leave one after another, the last of them at TRANSMISSION_COMPLETE; that the number which leaves in a tick is supplied is
the model's choice (notes/assumptions/20). -/
def Obligations.DfqSendAndArbiterStart : Prop :=
  (∀ lp : LinkPort, lp.tx = none → lp.sends = .idle) ∧
  (∀ (lp : LinkPort) (tx : Transmission), lp.tx = some tx →
     (tx.sent = 0 → lp.sends = .startFrame) ∧
     (∀ i b, tx.bytes[i]? = some b → tx.sent = i + 1 → lp.sends = .data b) ∧
     (tx.sent = tx.bytes.length + 1 → lp.sends = .endFrame) ∧
     (tx.sent = tx.bytes.length + 2 ∨ tx.sent = tx.bytes.length + 3 → lp.sends = .idle) ∧
     tx.symbols.length = tx.bytes.length + 4 ∧
     ∀ n, (tx.send n).bytes = tx.bytes ∧ (tx.send n).owner = tx.owner ∧
       (tx.send n).sent = min (tx.bytes.length + 3) (tx.sent + n)) ∧
  (∀ (s : State) (f : TrunkFrame) (rest : List TrunkFrame), s.trunk.dfq = f :: rest → (s.link .td).state = .up →
     (s.link .td).tx = none →
     exec .dfqSend s = .next { s with
       trunk := { s.trunk with dfq := rest }
       links := s.links.set .td { s.link .td with tx := some ⟨f.body ++ be16 (crc16 f.body).toNat, .dispatcher, 0⟩ } }) ∧
  (∀ s : State, (s.link .sg).state = .up → (s.link .sg).tx = none →
     (∀ n, s.sweep.waiting = some n → exec .sgArbiterStart s = .next { s with
       sweep := { s.sweep with waiting := none, triggerStart := some s.now }
       links := s.links.set .sg { s.link .sg with
         tx := some ⟨withCrc ([0x21, 63, 2] ++ be16 n.toNat), .sweepController, 0⟩ } }) ∧
     (∀ r, s.sweep.waiting = none → s.relay = some r → r.phase = .queued → exec .sgArbiterStart s = .next { s with
       relay := some { r with phase := .sending }
       links := s.links.set .sg { s.link .sg with
         tx := some ⟨withCrc ([0x22, r.node, BitVec.ofNat 8 r.command.length] ++ r.command), .relayController, 0⟩ } }) ∧
     (s.sweep.waiting = none → (∀ r, s.relay = some r → r.phase ≠ .queued) → exec .sgArbiterStart s = .next s))

/-- ENUMERATE with the restart flag set (R137): next address 1 to 30 is taken, announced and passed on plus one; 31
unassigns and passes unchanged; 0 or above 31 is malformed, counted and dropped. With the flag clear (R138): an unassigned
part takes 1 to 30, announces and passes it on plus one; else the frame passes unchanged; 0 or above 31 is malformed. The
frame is the only arrival waiting (hand-over: notes/assumptions/6; order of action and forwarding: notes/assumptions/18). -/
def Obligations.Enumerate : Prop :=
  (∀ (h : TrunkHeader) (flag next : Byte) (s : State), s.inbox.tu = [⟨0x14, h.flags, h.dest, h.src, [flag, next]⟩] →
     ∃ s0 : State, s0 = { s with choices := s.choices.tail, inbox := { s.inbox with tu := [] } } ∧
     (1 ≤ next.toNat → next.toNat ≤ 30 →
       ∃ s1 : State, s1 = (if s.mgmt.items.length + s.mgmt.reserved.length < 8 then
           { s0 with
             trunk := { s.trunk with own := next.toNat }
             mgmt := { s.mgmt with items := s.mgmt.items ++ [.announce] } }
         else ({ s0 with trunk := { s.trunk with own := next.toNat } } : State).count .noticeLost) ∧
       (s.isUp .td = true → s.trunk.dfq.length < 16 → exec (.enumerateRestart h flag next) s = .next { s1 with
         trunk := { s1.trunk with
           dfq := s.trunk.dfq ++ [⟨0x14, h.flags, h.dest, h.src, [flag, BitVec.ofNat 8 (next.toNat + 1)]⟩] } }) ∧
       (s.isUp .td = false ∨ 16 ≤ s.trunk.dfq.length → s.choice.forwardFirst = false →
         exec (.enumerateRestart h flag next) s = .next ((s1.count .forwardDrop).raiseNow .forwardDrop 0)) ∧
       ∃ t, exec (.enumerateRestart h flag next) s = .next t ∧ t.trunk.own = next.toNat) ∧
     (next.toNat = 31 →
       (s.isUp .td = true → s.trunk.dfq.length < 16 → exec (.enumerateRestart h flag next) s = .next { s0 with
         trunk := { s.trunk with
           own := 0
           dfq := s.trunk.dfq ++ [⟨0x14, h.flags, h.dest, h.src, [flag, next]⟩] } }) ∧
       (s.isUp .td = false ∨ 16 ≤ s.trunk.dfq.length → exec (.enumerateRestart h flag next) s =
         .next ((({ s0 with trunk := { s.trunk with own := 0 } } : State).count .forwardDrop).raiseNow .forwardDrop 0))) ∧
     (next.toNat = 0 ∨ 31 < next.toNat →
       exec (.enumerateRestart h flag next) s = .next (s0.count (.lengthErrors .tu)))) ∧
  (∀ (h : TrunkHeader) (next : Byte) (s : State), s.inbox.tu = [⟨0x14, h.flags, h.dest, h.src, [0, next]⟩] →
     ∃ s0 : State, s0 = { s with choices := s.choices.tail, inbox := { s.inbox with tu := [] } } ∧
     (s.trunk.own = 0 → 1 ≤ next.toNat → next.toNat ≤ 30 →
       s.mgmt.items.length + s.mgmt.reserved.length < 8 → s.isUp .td = true → s.trunk.dfq.length < 16 →
       exec (.enumerateClear h next) s = .next { s0 with
         trunk := { s.trunk with
           own := next.toNat
           dfq := s.trunk.dfq ++ [⟨0x14, h.flags, h.dest, h.src, [0, BitVec.ofNat 8 (next.toNat + 1)]⟩] }
         mgmt := { s.mgmt with items := s.mgmt.items ++ [.announce] } }) ∧
     (s.trunk.own = 0 → 1 ≤ next.toNat → next.toNat ≤ 30 →
       ∃ t, exec (.enumerateClear h next) s = .next t ∧ t.trunk.own = next.toNat) ∧
     (1 ≤ next.toNat → next.toNat ≤ 31 → s.trunk.own ≠ 0 ∨ next.toNat = 31 →
       (s.isUp .td = true → s.trunk.dfq.length < 16 → exec (.enumerateClear h next) s = .next { s0 with
         trunk := { s.trunk with dfq := s.trunk.dfq ++ [⟨0x14, h.flags, h.dest, h.src, [0, next]⟩] } }) ∧
       (s.isUp .td = false ∨ 16 ≤ s.trunk.dfq.length → exec (.enumerateClear h next) s =
         .next ((s0.count .forwardDrop).raiseNow .forwardDrop 0))) ∧
     (next.toNat = 0 ∨ 31 < next.toNat →
       exec (.enumerateClear h next) s = .next (s0.count (.lengthErrors .tu))))

/-! ### Sweep Controller -/

/-- SYNC (R12, R13, R136), the frame the only arrival waiting (notes/assumptions/6) and TD ready to forward it: it is
forwarded unchanged in every case; in LOCAL source or STOPPED nothing else happens; in TRUNK source and QUIET it triggers a
sweep of its number, raising SYNC_GAP first where that is not the successor of the current number.

SYNC in TRUNK source while COLLECTING with no commit pending (R9, R12, R13): the sweep under way closes with its own
number, the next is triggered with the SYNC's, and a number that is not the successor latches SYNC_GAP, in every order of
the close. -/
def Obligations.SyncTakenOrForcesClose : Prop :=
  (∀ (h : TrunkHeader) (n : Word) (s : State), s.inbox.tu = [⟨0x13, h.flags, h.dest, h.src, be16 n.toNat⟩] →
     s.isUp .td = true → s.trunk.dfq.length < 16 →
     ∃ s0 : State, s0 = { s with
         choices := s.choices.tail
         inbox := { s.inbox with tu := [] }
         trunk := { s.trunk with dfq := s.trunk.dfq ++ [⟨0x13, h.flags, h.dest, h.src, be16 n.toNat⟩] } } ∧
     (s.settings.source = .localTimer ∨ s.sweep.state = .stopped → exec (.sync h n) s = .next s0) ∧
     (s.settings.source = .trunk → s.sweep.state = .quiet →
       ∃ sw : Sweep, sw = { s.sweep with
           state := .collecting
           number := n
           window := some s.settings.window
           lastTrigger := some s.now
           triggerStart := none
           supervision := some (2 * s.settings.period)
           waiting := if s.isUp .sg then some n else none } ∧
       (n = s.sweep.number + 1 → exec (.sync h n) s = .next { s0 with sweep := sw }) ∧
       (n ≠ s.sweep.number + 1 →
         exec (.sync h n) s = .next { s0.raise .syncGap 0 s.sweep.number with sweep := sw }))) ∧
  (∀ (h : TrunkHeader) (n : Word) (s : State), s.settings.source = .trunk → s.sweep.state = .collecting →
     s.mgmt.session.state ≠ .commitPending →
     ∃ t, exec (.sync h n) s = .next t ∧
       t.sweep = { s.sweep with
         state := .collecting
         number := n
         lastClosed := some s.sweep.number
         window := some s.settings.window
         lastTrigger := some s.now
         triggerStart := none
         supervision := some (2 * s.settings.period)
         waiting := if s.isUp .sg then some n else none } ∧
       (n ≠ s.sweep.number + 1 → (t.latch.latched[EventKind.syncGap.index]).isSome = true) ∧
       t.settings = s.settings ∧ t.nodeCfg = s.nodeCfg ∧ t.chanCfg = s.chanCfg ∧ t.now = s.now ∧ t.links = s.links ∧
       t.conf = s.conf ∧ t.relay = s.relay ∧ t.mgmt.session = s.mgmt.session ∧ t.trunk.own = s.trunk.own ∧
       t.trunk.tqU = s.trunk.tqU ∧ t.trunk.tqN = s.trunk.tqN ∧ t.uplink.flight = s.uplink.flight ∧
       t.uplink.turn = s.uplink.turn)

/-- SYNC_SUPERVISION_EXPIRY (R14) and PERIOD_REACHED (R10, R3, R4): the clock stands at the timer's end (the model's
choice, notes/assumptions/2); the first raises
SYNC_GAP and restarts with twice the period; the second triggers the sweep after the current number. -/
def Obligations.SweepTimers : Prop :=
  (∀ (s : State) (n : Nat), s.sweep.supervision = some n →
    exec .syncSupervisionExpiry s = .next { (s.advance n).raise .syncGap 0 s.sweep.number with
      sweep := { (s.advance n).sweep with supervision := some (2 * s.settings.period) } }) ∧
  (∀ (s : State) (t0 : Nat), s.settings.source = .localTimer → s.sweep.state = .quiet → s.sweep.lastTrigger = some t0 →
    ∃ s1, s1 = s.advance (s.settings.period - (s.now - t0)) ∧
    exec .periodReached s = .next { s1 with sweep := { s1.sweep with
      state := .collecting
      number := s.sweep.number + 1
      window := some s.settings.window
      lastTrigger := some s1.now
      triggerStart := none
      waiting := if s.isUp .sg then some (s.sweep.number + 1) else none } }) ∧
  (∀ s : State, s.settings.source = .localTimer → s.sweep.state = .quiet → s.sweep.lastTrigger = none →
    ∃ t, exec .periodReached s = .next t ∧ t.sweep.state = .collecting ∧ t.sweep.number = s.sweep.number + 1 ∧
      t.now = s.now)

/-- WINDOW_EXPIRY with no commit pending (R7, R8, R10), in every order of the close, the clock at the timer's end (the
model's choice, notes/assumptions/2): the closing number is recorded, timer and waiting TRIGGER are gone, and the part
is STOPPED after a one-shot sweep and else QUIET, or sweeps on at once where in LOCAL source the period is already
reached. -/
def Obligations.WindowExpiry : Prop :=
  ∀ (s : State) (w : Nat), s.sweep.state = .collecting → s.sweep.window = some w →
    s.mgmt.session.state ≠ .commitPending →
    ∃ t, exec .windowExpiry s = .next t ∧
      t.now = s.now + w ∧ t.sweep.lastClosed = some s.sweep.number ∧
      t.settings = s.settings ∧ t.nodeCfg = s.nodeCfg ∧ t.chanCfg = s.chanCfg ∧
      t.links = (s.advance w).links ∧ t.conf = (s.advance w).conf ∧ t.relay = (s.advance w).relay ∧
      t.mgmt.session = (s.advance w).mgmt.session ∧ t.trunk = s.trunk ∧ t.uplink.flight = s.uplink.flight ∧
      t.uplink.turn = s.uplink.turn ∧ t.inbox = s.inbox ∧ t.pending = s.pending ∧
      (s.sweep.oneShot = true → t.sweep.state = .stopped ∧ t.sweep.oneShot = false ∧ t.sweep.supervision = none) ∧
      (s.sweep.oneShot = true ∨ s.settings.source = .trunk ∨
          (∃ t0, s.sweep.lastTrigger = some t0 ∧ s.now + w - t0 < s.settings.period) →
        t.sweep.number = s.sweep.number ∧ t.sweep.window = none ∧ t.sweep.waiting = none ∧
        t.sweep.lastTrigger = s.sweep.lastTrigger ∧ t.sweep.triggerStart = s.sweep.triggerStart ∧
        (s.sweep.oneShot = false → t.sweep.state = .quiet ∧
          t.sweep.supervision = s.sweep.supervision.map (· - w))) ∧
      (s.sweep.oneShot = false → s.settings.source = .localTimer →
          (∀ t0, s.sweep.lastTrigger = some t0 → s.settings.period ≤ s.now + w - t0) →
        t.sweep.state = .collecting ∧ t.sweep.number = s.sweep.number + 1 ∧
        t.sweep.window = some s.settings.window ∧ t.sweep.lastTrigger = some (s.now + w))

/-- A sweep close with no commit pending, by WINDOW_EXPIRY, STOP_SWEEPS or SYNC (R7, R9, R12, R16), in every order of its
acts. The judgement of every node (R29, R30): a node that answered is PRESENT with no misses; one that did not has one miss
more, at most 15, and is ABSENT if it was, or if it is required and the misses reach the absent limit, else MISSING;
latencies and disabled entries stay. The beacon count (R185) rises by one and returns to 0 with the flag set at the
interval; an interval of 0 keeps it at 0. That WINDOW_EXPIRY stands at the timer's end is the model's choice
(notes/assumptions/2). -/
def Obligations.CloseJudgesNodesAndCountsBeacon : Prop :=
  ∀ (c : Instr) (s : State), ClosesSweep c s → s.mgmt.session.state ≠ .commitPending →
    ∃ t, exec c s = .next t ∧
      (∀ i : Fin 24,
        (s.nodeCfg[i].enabled = false → t.nodeRun[i] = s.nodeRun[i]) ∧
        (s.nodeCfg[i].enabled = true → s.nodeRun[i].responded = true → t.nodeRun[i] = { s.nodeRun[i] with
          presence := .present, misses := 0, responded := false }) ∧
        (s.nodeCfg[i].enabled = true → s.nodeRun[i].responded = false → t.nodeRun[i] = { s.nodeRun[i] with
          misses := min 15 (s.nodeRun[i].misses + 1)
          presence :=
            if s.nodeRun[i].presence = .absent then .absent
            else if s.nodeCfg[i].required = true ∧ s.settings.absentLimit ≤ min 15 (s.nodeRun[i].misses + 1) then .absent
            else .missing }) ∧
        (s.losesNode i → (t.latch.latched[EventKind.nodeLost.index]).isSome = true)) ∧
      (s.settings.beaconInterval = 0 →
        t.latch.beaconCount = 0 ∧ t.uplink.beaconPending = s.uplink.beaconPending) ∧
      (s.settings.beaconInterval ≠ 0 → s.latch.beaconCount + 1 < s.settings.beaconInterval →
        t.latch.beaconCount = s.latch.beaconCount + 1 ∧ t.uplink.beaconPending = s.uplink.beaconPending) ∧
      (s.settings.beaconInterval ≠ 0 → s.settings.beaconInterval ≤ s.latch.beaconCount + 1 →
        t.latch.beaconCount = 0 ∧ t.uplink.beaconPending = true)

/-- A sweep close with no commit pending reaches every channel (R49, R54, R56, R73). Its acts are taken each once, but for
single takings of the filter, in the order the supply of choices gives (notes/assumptions/4), and the default order is
judgements, shares of node-loss notices, drop notices, close duties, deliveries, apply, beacon count and the Controller's own
move. By WINDOW_EXPIRY, STOP_SWEEPS or SYNC and in every order: a
disabled channel keeps its record up to its gap flag; an enabled one with nothing to report counts the close; a channel of a
node that this close makes ABSENT has NO_DATA as latest quality, or, where the filter takes the share later, a share that
waits past the close (the model's choice, notes/assumptions/35). -/
def Obligations.CloseReachesChannels : Prop :=
  (∀ prefer : List CloseAct,
    (∀ a, (closeOrder prefer).count (.take a) = prefer.count (.take a)) ∧
    (∀ a, (∀ b, a ≠ .take b) → (closeOrder prefer).count a = 1) ∧
    ((∀ a, (∀ b, a ≠ .take b) → prefer.count a ≤ 1) →
      ∃ others, closeOrder prefer = prefer ++ others ∧ others.Sublist defaultActs)) ∧
  (∀ (s : State) (w : Nat), s.sweep.state = .collecting → s.sweep.window = some w →
    s.mgmt.session.state ≠ .commitPending → s.choice = {} →
    ∃ ended judged told served : State,
      ended = { s.advance w with
        choices := s.choices.tail
        sweep := { (s.advance w).sweep with window := none, lastClosed := some s.sweep.number, waiting := none } } ∧
      judged = (List.finRange 24).foldl (fun x i => x.judgeNode i s.sweep.number) ended ∧
      told = judged.notices.foldl (fun x n => x.takeLoss n) { judged with notices := [] } ∧
      served = (List.finRange 256).foldl (fun x c => x.channelClose c s.sweep.number) (told.takeDrops []) ∧
      exec .windowExpiry s =
        .next ((served.takeDeliveries [] []).advanceBeacon.afterClose (.expiry s.sweep.oneShot))) ∧
  (∀ (c : Instr) (s : State) (i : Fin 256), ClosesSweep c s → s.mgmt.session.state ≠ .commitPending → TablesOk s →
    ∃ t, exec c s = .next t ∧
      (s.chanCfg[i].enabled = false → t.chanRun[i] = { s.chanRun[i] with gap := t.chanRun[i].gap }) ∧
      ((∀ ds ∈ s.handed, ∀ d ∈ ds, d.channel ≠ i) → s.chanCfg[i].enabled = true →
        ((∀ n ∈ s.notices, n.channel ≠ i) → (∀ j : Fin 24, s.nodeCfg[j].covers i.val = true → ¬ s.losesNode j) →
          s.chanRun[i].pendingChange = false → s.chanRun[i].forcePending = false →
          s.chanCfg[i].heartbeat = 0 ∨ min 65535 (s.chanRun[i].sinceReport + 1) < s.chanCfg[i].heartbeat ∨
            s.chanRun[i].latest = none →
          t.chanRun[i] = { s.chanRun[i] with
            sinceReport := min 65535 (s.chanRun[i].sinceReport + 1), gap := t.chanRun[i].gap }) ∧
        (∀ j : Fin 24, s.losesNode j → s.nodeCfg[j].covers i.val = true →
          (i ∉ (closeSupply c s).late →
            t.chanRun[i].latest = s.chanRun[i].latest.map (fun l => { l with quality := .noData })) ∧
          ∃ waits : Prop, waits = (∃ n ∈ t.notices, n.channel = i ∧ n.address = s.nodeCfg[j].address ∧
            n.first = s.nodeCfg[j].first ∧ n.closing = s.sweep.number ∧ n.past = true) ∧
          (i ∈ (closeSupply c s).late →
            waits ∨ t.chanRun[i].latest = s.chanRun[i].latest.map (fun l => { l with quality := .noData })) ∧
          (i ∈ (closeSupply c s).late → CloseAct.take (.notice (.share i)) ∉ (closeSupply c s).acts →
            (∀ p ∈ (closeSupply c s).between, p.2 ≠ .share i) → waits))))

/-- A sweep close with a commit pending, by WINDOW_EXPIRY, STOP_SWEEPS or SYNC, in every order of its acts (R164 second
route, R165, R11, R31, R35, R61 to R63, R89): the merged tables and settings are active, the session is over, the response OK
is in MQ; a changed node entry is reset and not judged, an unchanged one that answered is PRESENT; every class queue stands
within its new limit; a channel that R61 resets, its case (b) in the reading of notes/assumptions/15, which is the model's
choice, holds reset values but for its gap flag and one close counted at most; one whose limit fields change has no limit
state. A source changed to LOCAL leaves the supervision timer idle; changed to TRUNK
at a window expiry that is no one-shot's, it runs with twice the new period. The order of the acts is that of
notes/assumptions/4, and of drop notices and resets that of notes/assumptions/16; that a window expiry stands at the timer's
end is the model's choice (notes/assumptions/2).

Of the trim (R89, R57), each report removed is counted in REPORTS_DROPPED, its slot is free and its channel's gap flag set, or
its drop notice goes on waiting for the filter where the supply puts it off: by the apply as an act of any close, on the part
as that act finds it; by a close as a whole in every order, where no channel is enabled that could offer a report, and where
a notice put off is taken by a later act of the close or waits past it; and by a window expiry in the default order, on the
part as the judgements, notices, close duties and samples have left it. -/
def Obligations.ApplyAtClose : Prop :=
  (∀ (k : CloseKind) (closing : Word) (supply : Choice) (x : Closing), x.state.mgmt.session.state = .commitPending →
    TrimmedBy x.state (Closing.act k closing supply x .apply).state supply.dropFirst supply.lateDrops ∧
    ∀ c, c ∈ (Closing.act k closing supply x .apply).state.drops ↔
      c ∈ x.state.drops ∨ (x.state.trims c ∧ c ∉ supply.dropFirst ∧ c ∈ supply.lateDrops)) ∧
  (∀ (s : State) (w : Nat), s.sweep.state = .collecting → s.sweep.window = some w →
    s.mgmt.session.state = .commitPending → s.choice = {} →
    ∃ ended judged told served t : State,
      ended = { s.advance w with
        choices := s.choices.tail
        sweep := { (s.advance w).sweep with window := none, lastClosed := some s.sweep.number, waiting := none } } ∧
      judged = (List.finRange 24).foldl (fun x i => x.judgeNode i s.sweep.number) ended ∧
      told = judged.notices.foldl (fun x n => x.takeLoss n) { judged with notices := [] } ∧
      served = (List.finRange 256).foldl (fun x c => x.channelClose c s.sweep.number) (told.takeDrops []) ∧
      exec .windowExpiry s = .next t ∧ TrimmedBy (served.takeDeliveries [] []) t [] []) ∧
  ∀ (c : Instr) (s : State), ClosesSweep c s → s.mgmt.session.state = .commitPending →
    ∃ t, exec c s = .next t ∧
      t.nodeCfg = s.mergedNodes ∧ t.chanCfg = s.mergedChannels ∧ t.settings = s.mergedSettings ∧
      t.mgmt.session = ⟨.none, none, [], none⟩ ∧
      (∀ tag, s.mgmt.reserved.find? (fun x => x.code == 22) = some ⟨tag, 22⟩ →
        MqItem.response tag 22 .ok [] ∈ t.mgmt.items ∧ t.mgmt.reserved = s.mgmt.reserved.erase ⟨tag, 22⟩) ∧
      (∀ i : Fin 24,
        (s.nodeCfg[i] ≠ s.mergedNodes[i] → t.nodeRun[i] = ⟨.unknown, 0, false, none, none⟩) ∧
        (s.nodeCfg[i] = s.mergedNodes[i] → s.nodeCfg[i].enabled = false → t.nodeRun[i] = s.nodeRun[i]) ∧
        (s.nodeCfg[i] = s.mergedNodes[i] → s.nodeCfg[i].enabled = true → s.nodeRun[i].responded = true →
          t.nodeRun[i] = { s.nodeRun[i] with presence := .present, misses := 0, responded := false })) ∧
      (∀ k, (t.queue k).length ≤ s.mergedSettings.limits.get k) ∧
      (s.handed = [] → s.notices = [] → s.drops = [] →
        (∀ i : Fin 256, s.chanCfg[i].enabled = false ∧ s.mergedChannels[i].enabled = false) →
        ∃ waiting : List (Fin 256), (∀ i ∈ waiting, i ∈ (closeSupply c s).lateDrops) ∧
          (∀ i ∈ (closeSupply c s).lateDrops, CloseAct.take (.notice (.drop i)) ∉ (closeSupply c s).acts → i ∈ waiting) ∧
          TrimmedBy s t (closeSupply c s).dropFirst waiting) ∧
      (∀ i : Fin 256, (∀ ds ∈ s.handed, ∀ d ∈ ds, d.channel ≠ i) → (∀ n ∈ s.notices, n.channel ≠ i) →
        (s.resetsChannel i → t.chanRun[i] = ⟨none, none, t.chanRun[i].sinceReport, false, false, t.chanRun[i].gap, .unknown,
            0, none⟩ ∧ t.chanRun[i].sinceReport ≤ 1 ∧
          (s.mergedChannels[i].enabled = false → t.chanRun[i].sinceReport = 0)) ∧
        (¬ s.resetsChannel i → limitFieldsDiffer s.chanCfg[i] s.mergedChannels[i] = true →
          t.chanRun[i].limit = .unknown ∧ t.chanRun[i].count = 0 ∧ t.chanRun[i].candidate = none)) ∧
      (s.settings.source = .trunk → s.mergedSettings.source = .localTimer → t.sweep.supervision = none) ∧
      (c = .windowExpiry → s.sweep.oneShot = false → s.settings.source = .localTimer →
        s.mergedSettings.source = .trunk → t.sweep.supervision = some (2 * s.mergedSettings.period)) ∧
      (∀ h n, c = .sync h n → t.sweep.state = .collecting ∧ t.sweep.number = n) ∧
      (∀ r, c = .stopSweeps r → t.sweep.state = .stopped)

/-- START_SWEEPS (R15): from STOPPED, a trigger of the next number in LOCAL source, QUIET with supervision in TRUNK
source; NOT_ALLOWED otherwise; it has no fields. -/
def Obligations.StartSweeps : Prop :=
  ∀ (r : Request) (s : State), s.admits r →
    (r.fields = [] → s.sweep.state = .stopped → s.settings.source = .localTimer →
      exec (.startSweeps r) s = .next { (s.tookRequest 10 r).answered r 10 .ok [] with sweep := { s.sweep with
        state := .collecting
        number := s.sweep.number + 1
        window := some s.settings.window
        lastTrigger := some s.now
        triggerStart := none
        waiting := if s.isUp .sg then some (s.sweep.number + 1) else none } }) ∧
    (r.fields = [] → s.sweep.state = .stopped → s.settings.source = .trunk →
      exec (.startSweeps r) s = .next { (s.tookRequest 10 r).answered r 10 .ok [] with sweep := { s.sweep with
        state := .quiet, supervision := some (2 * s.settings.period) } }) ∧
    (r.fields = [] → s.sweep.state ≠ .stopped →
      exec (.startSweeps r) s = .next ((s.tookRequest 10 r).answered r 10 .notAllowed [])) ∧
    (r.fields ≠ [] → exec (.startSweeps r) s = .next ((s.tookRequest 10 r).answered r 10 .badFormat []))

/-- TRIGGER_ONCE (R17) and STOP_SWEEPS (R16): the first triggers one sweep from STOPPED in LOCAL source with the one-shot
mark, and is refused elsewhere; the second leaves the part STOPPED from every state, with a close of the sweep in progress
first, and answers OK. -/
def Obligations.TriggerOnceAndStopSweeps : Prop :=
  ∀ (r : Request) (s : State), s.admits r → r.fields = [] →
    (s.sweep.state = .stopped → s.settings.source = .localTimer →
      exec (.triggerOnce r) s = .next { (s.tookRequest 12 r).answered r 12 .ok [] with sweep := { s.sweep with
        state := .collecting
        number := s.sweep.number + 1
        oneShot := true
        window := some s.settings.window
        lastTrigger := some s.now
        triggerStart := none
        waiting := if s.isUp .sg then some (s.sweep.number + 1) else none } }) ∧
    (s.sweep.state ≠ .stopped ∨ s.settings.source = .trunk →
      exec (.triggerOnce r) s = .next ((s.tookRequest 12 r).answered r 12 .notAllowed [])) ∧
    (s.sweep.state = .stopped → exec (.stopSweeps r) s = .next ((s.tookRequest 11 r).answered r 11 .ok [])) ∧
    (s.sweep.state = .quiet → exec (.stopSweeps r) s = .next { (s.tookRequest 11 r).answered r 11 .ok [] with
      sweep := { s.sweep with state := .stopped, oneShot := false, supervision := none } }) ∧
    (s.sweep.state = .collecting → ∃ t, exec (.stopSweeps r) s = .next t ∧
      t.sweep = { s.sweep with
        state := .stopped
        lastClosed := some s.sweep.number
        oneShot := false
        window := none
        supervision := none
        waiting := none } ∧
      t.mgmt.session.state ≠ .commitPending ∧ t.mgmt.items.getLast? = some (.response r.tag 11 .ok []))

/-! ### Sample Intake, Exception Filter, Report Store -/

/-- A SAMPLE frame that is not accepted (R21, R22, R23, R25): counted in SAMPLE_FRAMES and by its reason, SAMPLE_ANOMALY
raised, nothing else touched. The address is looked up before the frame is classified, also where no entry is enabled (the
model's choice between R23 and R36, notes/assumptions/33). -/
def Obligations.SampleFrameDiscarded : Prop :=
  ∀ (node : Byte) (payload : List Byte) (tick : Nat) (s : State), s.inbox.intake = [⟨⟨0x31, node, payload⟩, tick⟩] →
    ∃ s0 : State, s0 = ({ s with inbox := { s.inbox with intake := [] } } : State).count .sampleFrames ∧
    ((payload.getD 2 0).toNat = 0 ∨ 16 < (payload.getD 2 0).toNat ∨ payload.length ≠ 3 + 3 * (payload.getD 2 0).toNat →
      exec (.sampleFrame node payload) s =
        .next ((s0.count (.lengthErrors .sg)).raise .sampleAnomaly node s.sweep.number)) ∧
    (1 ≤ (payload.getD 2 0).toNat → (payload.getD 2 0).toNat ≤ 16 →
      payload.length = 3 + 3 * (payload.getD 2 0).toNat →
      ((∀ i : Fin 24, s.nodeCfg[i].enabled = true → s.nodeCfg[i].address ≠ node.toNat) →
        exec (.sampleFrame node payload) s =
          .next ((s0.count .unmapped).raise .sampleAnomaly node s.sweep.number)) ∧
      (∀ i : Fin 24, s.nodeCfg[i].enabled = true → s.nodeCfg[i].address = node.toNat →
        (s.sweep.state ≠ .collecting → s.sweep.lastClosed = some (wordAt payload 0) →
          exec (.sampleFrame node payload) s =
            .next ((s0.count .late).raise .sampleAnomaly node s.sweep.number)) ∧
        ((s.sweep.state = .collecting ∧ wordAt payload 0 ≠ s.sweep.number) ∨
          (s.sweep.state ≠ .collecting ∧ s.sweep.lastClosed ≠ some (wordAt payload 0)) →
          exec (.sampleFrame node payload) s =
            .next ((s0.count .stale).raise .sampleAnomaly node s.sweep.number))))

/-- An accepted SAMPLE frame of the one enabled entry with its address, at the head of Intake's arrivals (R24, R26, R27,
R40): the entry's record after it, with the latency up to the tick of its end of reception, or some latency where that tick
came before the trigger start time (a free value, notes/assumptions/34); an ABSENT node is PRESENT again and NODE_BACK
latched; its samples are counted, those beyond the node's channels in UNMAPPED and the others in SAMPLES_ACCEPTED, a counter
with nothing to add staying as it is, and the latter are handed to the filter in frame order as one delivery, behind those
still waiting, and the filter takes what the supply of choices puts first, then shares of node-loss notices, drop notices and
deliveries, each now or later as it says (notes/assumptions/16, 30, 35); other entries, the sweep, the tables and the links
stay. -/
def Obligations.SampleFrameAccepted : Prop :=
  ∀ (node : Byte) (payload : List Byte) (tick : Nat) (rest : List Arrival) (i : Fin 24) (s : State),
    s.inbox.intake = ⟨⟨0x31, node, payload⟩, tick⟩ :: rest →
    1 ≤ (payload.getD 2 0).toNat → (payload.getD 2 0).toNat ≤ 16 → payload.length = 3 + 3 * (payload.getD 2 0).toNat →
    s.nodeCfg[i].enabled = true → s.nodeCfg[i].address = node.toNat →
    (∀ j : Fin 24, j ≠ i → s.nodeCfg[j].enabled = true → s.nodeCfg[j].address ≠ node.toNat) →
    s.sweep.state = .collecting → wordAt payload 0 = s.sweep.number →
    ∃ t, exec (.sampleFrame node payload) s = .next t ∧
      t.nodeRun[i].responded = true ∧
      (s.nodeRun[i].responded = false → ∀ t0, s.sweep.triggerStart = some t0 → ∃ latency,
        (t0 ≤ tick → latency = min 65535 (tick - t0)) ∧ latency ≤ 65535 ∧
        t.nodeRun[i].lastLatency = some latency ∧
        t.nodeRun[i].worstLatency = some (max latency (s.nodeRun[i].worstLatency.getD 0))) ∧
      (s.nodeRun[i].responded = true ∨ s.sweep.triggerStart = none →
        t.nodeRun[i].lastLatency = s.nodeRun[i].lastLatency ∧ t.nodeRun[i].worstLatency = s.nodeRun[i].worstLatency) ∧
      (s.nodeRun[i].presence = .absent → t.nodeRun[i].presence = .present ∧ t.nodeRun[i].misses = 0 ∧
        (t.latch.latched[EventKind.nodeBack.index]).isSome = true) ∧
      (s.nodeRun[i].presence ≠ .absent →
        t.nodeRun[i].presence = s.nodeRun[i].presence ∧ t.nodeRun[i].misses = s.nodeRun[i].misses) ∧
      (∀ j, j ≠ i → t.nodeRun[j] = s.nodeRun[j]) ∧
      (∃ samples : List Sample, samples = (samplesOf payload).filter (fun x => decide (x.number < s.nodeCfg[i].count)) ∧
        (t.counter .samplesAccepted = if samples = [] then s.counter .samplesAccepted
          else min 4294967295 (s.counter .samplesAccepted + samples.length)) ∧
        (t.counter .unmapped = if samples.length = (payload.getD 2 0).toNat then s.counter .unmapped
          else min 4294967295 (s.counter .unmapped + ((payload.getD 2 0).toNat - samples.length))) ∧
        ∃ given : State,
          given.handed = s.handed ++ [samples.map (fun x =>
            ⟨Fin.ofNat 256 (s.nodeCfg[i].first + x.number), x.quality, x.value, s.sweep.number⟩)] ∧
          given.notices = s.notices ∧ given.drops = s.drops ∧ given.chanRun = s.chanRun ∧ given.chanCfg = s.chanCfg ∧ given.nodeCfg = s.nodeCfg ∧
          given.store = s.store ∧ given.settings = s.settings ∧ given.sweep = s.sweep ∧ given.now = s.now ∧
          (s.nodeRun[i].presence ≠ .absent → given.latch = s.latch ∧ given.mgmt = s.mgmt) ∧
          ∃ told : State, told = ((s.choice.takes.foldl (State.take s.choice.between []) given).takeShares s.choice.late
            []).takeDrops s.choice.lateDrops ∧
          (s.choice.deliverLate = true → t = told) ∧
          (s.choice.deliverLate = false → t = told.takeDeliveries s.choice.between [] ∧ t.handed = [])) ∧
      t.inbox = { s.inbox with intake := rest } ∧
      t.counter .sampleFrames = min 4294967295 (s.counter .sampleFrames + 1) ∧
      t.nodeCfg = s.nodeCfg ∧ t.chanCfg = s.chanCfg ∧ t.settings = s.settings ∧ t.sweep = s.sweep ∧
      t.links = s.links ∧ t.trunk = s.trunk ∧ t.conf = s.conf ∧ t.uplink = s.uplink ∧ t.relay = s.relay ∧ t.now = s.now

/-- The samples of an accepted frame (R27): one beyond the node's channels is counted and set aside, the others are counted
and handed to the filter under their channel indexes, together and in frame order. The filter takes the deliveries that wait
in their order, one of them whole or all of them, each sample once (R40), with such notices between the samples as the supply
of choices places before a sample of the channel (R57). It (R40, R41) sets aside a sample of a disabled channel and a second
sample of a sweep, counted and judged no further. -/
def Obligations.SampleSetAside : Prop :=
  (∀ (n : NodeConfig) (sweep : Word) (xs : List Sample) (s : State), State.handOver n sweep s xs =
    { xs.foldl (fun y x => y.count (if x.number < n.count then .samplesAccepted else .unmapped)) s with
      handed := s.handed ++ [(xs.filter (fun x => decide (x.number < n.count))).map
        (fun x => ⟨Fin.ofNat 256 (n.first + x.number), x.quality, x.value, sweep⟩)] }) ∧
  (∀ (between : List (Fin 256 × Notice)) (resets : List (Fin 256)) (s : State),
    (s.handed = [] → State.take between resets s .delivery = s ∧ s.takeDeliveries between resets = s) ∧
    (∀ ds rest, s.handed = ds :: rest →
      State.take between resets s .delivery = ds.foldl (State.takeSample between resets) { s with handed := rest } ∧
      s.takeDeliveries between resets = rest.flatten.foldl (State.takeSample between resets)
        (ds.foldl (State.takeSample between resets) { s with handed := [] })) ∧
    (∀ d : HandedSample,
      State.takeSample [] resets s d = s.judgeSample d.channel d.quality d.value d.sweep ∧
      (∀ c n, c = d.channel → State.takeSample ((c, n) :: between) resets s d =
        State.takeSample between resets (State.take [] resets s (.notice n)) d) ∧
      (∀ c n, c ≠ d.channel → State.takeSample ((c, n) :: between) resets s d = State.takeSample between resets s d))) ∧
  (∀ (c : Fin 256) (q : Quality) (v sweep : Word) (s : State),
    (s.chanCfg[c].enabled = false → s.judgeSample c q v sweep = s.count .disabledChannel) ∧
    (∀ l, s.chanCfg[c].enabled = true → s.chanRun[c].latest = some l → l.sweep = sweep →
      s.judgeSample c q v sweep =
        (s.count .duplicate).raise .sampleAnomaly (BitVec.ofNat 8 (s.nodeAddress c)) sweep) ∧
    (s.chanCfg[c].enabled = true → (∀ l, s.chanRun[c].latest = some l → l.sweep ≠ sweep) →
      s.judgeSample c q v sweep = s.judgeFresh c q v sweep))

/-- The judgement of a fresh sample (R42 to R46, R71): the latest record always, then the limit step; INITIAL with no last
report; QUALITY when the quality differs; CHANGE by the rule; LIMIT as the step yields it; CHANGE alone is withheld within
the hold-off; the report is built with all its causes in the lowest class any of them gives and offered, or none is made. -/
def Obligations.SampleJudged : Prop :=
  ∀ (c : Fin 256) (q : Quality) (v sweep : Word) (s : State),
    ∃ (run : ChanRuntime) (causes : Causes) (cls : ReportClass),
      (run, causes.limit) = limitStep s.chanCfg[c] { s.chanRun[c] with latest := some ⟨v, q, sweep⟩ } q v ∧
      (causes.initial = true ↔ s.chanRun[c].lastReported = none) ∧
      (causes.quality = true ↔ ∃ l, s.chanRun[c].lastReported = some l ∧ l.quality ≠ q) ∧
      (causes.change = true ↔ s.chanCfg[c].rule = .every ∨ (s.chanCfg[c].rule = .deadband ∧
        ∃ l, s.chanRun[c].lastReported = some l ∧ q = .good ∧ l.quality = .good ∧
          s.chanCfg[c].deadband < (v.toInt - l.value.toInt).natAbs)) ∧
      causes.refresh = false ∧ causes.forced = false ∧
      (causes.limit = false → causes.quality = false → cls = s.chanCfg[c].changeClass) ∧
      (causes.limit = true ∨ causes.quality = true →
        cls = if (causes.initial = true ∨ causes.change = true) ∧
            s.chanCfg[c].changeClass.code ≤ s.chanCfg[c].limitClass.code then s.chanCfg[c].changeClass
          else s.chanCfg[c].limitClass) ∧
      (causes.initial = false → causes.quality = false → causes.limit = false →
        (causes.change = false → s.judgeFresh c q v sweep = s.setChanRun c run) ∧
        (causes.change = true → s.chanRun[c].sinceReport < s.chanCfg[c].holdOff →
          s.judgeFresh c q v sweep = s.setChanRun c { run with pendingChange := true })) ∧
      (causes.initial = true ∨ causes.quality = true ∨ causes.limit = true ∨
          (causes.change = true ∧ s.chanCfg[c].holdOff ≤ s.chanRun[c].sinceReport) →
        s.judgeFresh c q v sweep = (s.setChanRun c run).offer
          { node := s.nodeAddress c, channel := c, number := s.channelNumber c, causes := causes, cls := cls, value := v,
            quality := q, sweep := sweep, limit := run.limit, aged := false, gap := s.chanRun[c].gap })

/-- The limit step (R66 to R70): not taken without supervision or a GOOD sample; the candidate by the exact tests of R67;
from UNKNOWN at once; from a known state only after the persistence's number of agreeing candidates in a row. -/
def Obligations.LimitStep : Prop :=
  ∀ (cfg : ChanConfig) (run : ChanRuntime) (q : Quality) (v : Word),
    (cfg.supervision = false ∨ q ≠ .good → limitStep cfg run q v = (run, false)) ∧
    (cfg.supervision = true → q = .good → ∀ found : LimitState,
      found = (if cfg.high.toInt ≤ v.toInt then .high
        else if v.toInt ≤ cfg.low.toInt then .low
        else if run.limit = .high ∧ cfg.high.toInt - cfg.hysteresis ≤ v.toInt then .high
        else if run.limit = .low ∧ v.toInt ≤ cfg.low.toInt + cfg.hysteresis then .low
        else .normal) →
      (run.limit = .unknown →
        limitStep cfg run q v = ({ run with limit := found, count := 0, candidate := none }, found != .normal)) ∧
      (run.limit ≠ .unknown → found = run.limit →
        limitStep cfg run q v = ({ run with count := 0, candidate := none }, false)) ∧
      (run.limit ≠ .unknown → found ≠ run.limit → ∀ n,
        n = (if run.candidate = some found then run.count + 1 else 1) →
        (n < cfg.persistence → limitStep cfg run q v = ({ run with count := n, candidate := some found }, false)) ∧
        (cfg.persistence ≤ n →
          limitStep cfg run q v = ({ run with limit := found, count := 0, candidate := none }, true))))

/-- The offer of a report (R47, R48, R58, R80 to R83), case by case: admitted, with STORE_EMPTY told when the last slot
goes; admitted with eviction of the head, its channel's gap set after the admission; refused. -/
def Obligations.OfferCases : Prop :=
  ∀ (r : Report) (s : State),
    ∃ admitted : ChanRuntime, admitted = { s.chanRun[r.channel] with
        lastReported := some ⟨r.value, r.quality⟩
        sinceReport := 0
        pendingChange := false
        forcePending := false
        gap := false } ∧
    ((s.queue r.cls).length < s.settings.limits.get r.cls → 1 < s.store.free →
      s.offer r = (({ s with
        store := ⟨s.store.free - 1, s.store.cq.set r.cls (s.queue r.cls ++ [r])⟩
        chanRun := s.chanRun.set r.channel admitted } : State).count (.reportsAdmitted r.cls))) ∧
    ((s.queue r.cls).length < s.settings.limits.get r.cls → s.store.free = 1 →
      s.offer r = { (({ s with
        store := ⟨0, s.store.cq.set r.cls (s.queue r.cls ++ [r])⟩
        latch := { s.latch with storeEmpty := true } } : State).count (.reportsAdmitted r.cls)).raise
          .storeEmpty 0 s.sweep.number with chanRun := s.chanRun.set r.channel admitted }) ∧
    (s.settings.limits.get r.cls ≤ (s.queue r.cls).length ∨ s.store.free = 0 →
      (∀ head rest, s.settings.policies.get r.cls = .keepNew → s.queue r.cls = head :: rest →
        s.offer r = (((({ s with store := ⟨s.store.free, s.store.cq.set r.cls (rest ++ [r])⟩ } : State).count
          (.reportsAdmitted r.cls)).count (.reportsDropped r.cls)).raise .classDrop r.cls.code s.sweep.number
          |>.setChanRun r.channel admitted).dropNotice head.channel) ∧
      (s.settings.policies.get r.cls = .keepOld ∨ s.queue r.cls = [] →
        s.offer r = ((if s.store.free = 0 then
            ((s.count (.reportsDropped r.cls)).raise .classDrop r.cls.code s.sweep.number).count .storeEmptyDrops
          else (s.count (.reportsDropped r.cls)).raise .classDrop r.cls.code s.sweep.number).setChanRun r.channel
            { s.chanRun[r.channel] with
              gap := true
              pendingChange := s.chanRun[r.channel].pendingChange || r.causes.initial || r.causes.change })))

/-- A channel's close duties (R49 to R53): a disabled entry has none; since-report rises by one, at most 65535; a pending
change becomes INITIAL with no last report, waits within the hold-off, and else is CHANGE or cleared as the rule says now;
REFRESH at the heartbeat; FORCED where force is pending; with no latest record both flags are cleared and nothing is
reported; one report carries all causes, AGED where the latest value is of another sweep.

Its share of a node-loss notice (R54, R55, R73): NO_DATA as latest quality, no run of disagreeing samples, and a report
offered unless NO_DATA was last reported, its causes QUALITY and, with no last report, INITIAL, its class the limit class
and, with INITIAL, the lower of the two; it passes by a channel that the apply of its own close has reset. Shares that wait
are taken in order, but for those the supply of choices puts off (notes/assumptions/35).

Drop notices (R57): a notice taken sets its channel's gap flag, enabled or not, and nothing else; of those sent, and of those
that wait, the ones that the supply of choices puts off wait in order and the others are taken, and one that waits is taken
alone where the supply says so (notes/assumptions/16). -/
def Obligations.CloseDutiesAndNodeLoss : Prop :=
  (∀ (late sent : List (Fin 256)) (s t : State), t = s.sendDrops late sent →
    t = { s with drops := s.drops ++ sent.filter (fun c => decide (c ∈ late)), chanRun := t.chanRun } ∧
    ∀ i : Fin 256, t.chanRun[i] = { s.chanRun[i] with gap := s.chanRun[i].gap || decide (i ∈ sent ∧ i ∉ late) }) ∧
  (∀ (late : List (Fin 256)) (s t : State), t = s.takeDrops late →
    t = { s with drops := s.drops.filter (fun c => decide (c ∈ late)), chanRun := t.chanRun } ∧
    ∀ i : Fin 256, t.chanRun[i] = { s.chanRun[i] with gap := s.chanRun[i].gap || decide (i ∈ s.drops ∧ i ∉ late) }) ∧
  (∀ (between : List (Fin 256 × Notice)) (resets : List (Fin 256)) (c : Fin 256) (s : State),
    (c ∉ s.drops → State.take between resets s (.notice (.drop c)) = s) ∧
    (c ∈ s.drops → State.take between resets s (.notice (.drop c)) = { s with
      drops := s.drops.erase c
      chanRun := s.chanRun.set c { s.chanRun[c] with gap := true } }) ∧
    ((∀ n ∈ s.notices, n.channel ≠ c) → State.take between resets s (.notice (.share c)) = s) ∧
    (∀ before n after, s.notices = before ++ n :: after → (∀ m ∈ before, m.channel ≠ c) → n.channel = c →
      State.take between resets s (.notice (.share c)) =
        State.takeShare resets { s with notices := before ++ after } n)) ∧
  (∀ (late resets : List (Fin 256)) (n : LossNotice) (s : State),
    (n.past = false → n.channel ∈ resets → State.takeShare resets s n = s) ∧
    (n.past = true ∨ n.channel ∉ resets → State.takeShare resets s n = s.takeLoss n) ∧
    s.takeShares late resets = (s.notices.filter (fun n => decide (n.channel ∉ late))).foldl (State.takeShare resets)
      { s with notices := s.notices.filter (fun n => decide (n.channel ∈ late)) }) ∧
  ∀ (c : Fin 256) (closing : Word) (s : State),
    (s.chanCfg[c].enabled = false → s.channelClose c closing = s) ∧
    (s.chanCfg[c].enabled = true →
      ∃ counted : ChanRuntime, counted = { s.chanRun[c] with sinceReport := min 65535 (s.chanRun[c].sinceReport + 1) } ∧
      (counted.latest = none →
        s.channelClose c closing = s.setChanRun c { counted with pendingChange := false, forcePending := false }) ∧
      (∀ l, counted.latest = some l → ∃ causes : Causes,
        (causes.initial = true ↔ counted.pendingChange = true ∧ counted.lastReported = none) ∧
        (causes.change = true ↔ counted.pendingChange = true ∧ s.chanCfg[c].holdOff ≤ counted.sinceReport ∧
          ∃ r, counted.lastReported = some r ∧ (s.chanCfg[c].rule = .every ∨ (s.chanCfg[c].rule = .deadband ∧
            l.quality = .good ∧ r.quality = .good ∧ s.chanCfg[c].deadband < (l.value.toInt - r.value.toInt).natAbs))) ∧
        (causes.refresh = true ↔ s.chanCfg[c].heartbeat ≠ 0 ∧ s.chanCfg[c].heartbeat ≤ counted.sinceReport) ∧
        causes.forced = counted.forcePending ∧ causes.limit = false ∧ causes.quality = false ∧
        ∃ run : ChanRuntime, run = { counted with pendingChange := counted.pendingChange &&
            (causes.initial || causes.change || decide (counted.sinceReport < s.chanCfg[c].holdOff)) } ∧
        (causes = {} → s.channelClose c closing = s.setChanRun c run) ∧
        (causes ≠ {} → s.channelClose c closing = (s.setChanRun c run).offer
          { node := s.nodeAddress c, channel := c, number := s.channelNumber c, causes := causes,
            cls := s.chanCfg[c].changeClass, value := l.value, quality := l.quality, sweep := closing,
            limit := run.limit, aged := decide (l.sweep ≠ closing), gap := run.gap }))) ∧
    (∀ n : LossNotice, n.channel = c →
      (s.chanCfg[c].enabled = false → s.takeLoss n = s) ∧
      (s.chanCfg[c].enabled = true →
        ∃ run : ChanRuntime, run = { s.chanRun[c] with
            latest := s.chanRun[c].latest.map (fun l => { l with quality := .noData }), count := 0, candidate := none } ∧
        (run.lastReported.map Reading.quality = some .noData → s.takeLoss n = s.setChanRun c run) ∧
        (run.lastReported.map Reading.quality ≠ some .noData → s.takeLoss n = (s.setChanRun c run).offer
          { node := n.address, channel := c, number := c.val - n.first
            causes := { quality := true, initial := run.lastReported.isNone }
            cls := if run.lastReported = none ∧ s.chanCfg[c].changeClass.code ≤ s.chanCfg[c].limitClass.code then
              s.chanCfg[c].changeClass else s.chanCfg[c].limitClass
            value := (run.lastReported.map Reading.value).getD 0, quality := .noData, sweep := n.closing
            limit := run.limit, aged := true, gap := run.gap })))

/-! ### Uplink Scheduler and Confirmation Unit -/

/-- UPLINK_CHOICE with TU UP, its transmitter idle and nothing in flight (R93 to R99, R109, R114, R186): the first
eligible tier is served and its frame starts; with every tier empty, or TU not ready, nothing changes. -/
def Obligations.UplinkTiers : Prop :=
  (∀ s : State, (s.link .tu).state ≠ .up ∨ (s.link .tu).tx.isSome = true → exec .uplinkChoice s = .next s) ∧
  ∀ s : State, (s.link .tu).state = .up → (s.link .tu).tx = none → s.uplink.flight = none →
    ∃ send : State → Flight → TrunkFrame → State, send = (fun x fl f => { x with
        uplink := { x.uplink with flight := some fl }
        links := s.links.set .tu { s.link .tu with tx := some ⟨f.bytes, .scheduler, 0⟩ } }) ∧
    ∃ own : Byte, own = BitVec.ofNat 8 s.trunk.own ∧
    (∀ q rest e, s.conf.due = q :: rest → s.conf.entries.find? (fun x => x.seq == q) = some e →
      ∃ e' : Entry, e' = { e with
          state := .sending, attempt := e.attempt + 1, report := { e.report with attempt := e.attempt + 1 } } ∧
      exec .uplinkChoice s = .next (send (({ s with conf := { s.conf with
          entries := s.conf.entries.map (fun (x : Entry) => if x.seq = q then e' else x)
          due := rest } } : State).count .urgentRetransmitted) (.urgent q true)
        ⟨0x01, 0x03, 0, own, 1 :: reportBytes e'.report⟩)) ∧
    (∀ f rest, s.conf.due = [] → s.trunk.tqU = f :: rest → exec .uplinkChoice s =
      .next (send { s with trunk := { s.trunk with tqU := rest } } (.transit true) f)) ∧
    (s.conf.due = [] → s.trunk.tqU = [] →
      (∀ r rest, s.queue .c0 = r :: rest → s.conf.entries.length < 16 →
        ∃ r' : Report, r' = { r with seq := s.nextNumber, attempt := 1 } ∧
        exec .uplinkChoice s = .next (send { s with
          store := { s.store with cq := { s.store.cq with q0 := rest } }
          conf := { s.conf with
            entries := s.conf.entries ++ [⟨r', s.nextNumber, 1, .sending, false⟩]
            nextSeq := s.nextNumber + 1 } } (.urgent s.nextNumber false)
          ⟨0x01, 0x01, 0, own, 1 :: reportBytes r'⟩)) ∧
      (s.queue .c0 = [] ∨ 16 ≤ s.conf.entries.length →
        (∀ i rest, s.mgmt.items = i :: rest → exec .uplinkChoice s =
          .next (send { s with mgmt := { s.mgmt with items := rest } } (.item i)
            ⟨i.kindAndPayload.1, 0, 0, own, i.kindAndPayload.2⟩)) ∧
        (s.mgmt.items = [] →
          (s.uplink.beaconPending = true → exec .uplinkChoice s =
            .next (send { s with uplink := { s.uplink with beaconPending := false } } .beacon
              ⟨0x04, 0, 0, own, s.beaconPayload⟩)) ∧
          (s.uplink.beaconPending = false →
            (∀ turn m k, s.nextTurn = some turn → turn.member = m → m.queueClass = some k →
              exec .uplinkChoice s = .next (send (({ s with uplink := { s.uplink with turn := turn } } : State).setQueue k
                ((s.queue k).drop s.settings.packLimit)) (.reports m ((s.queue k).take s.settings.packLimit))
                ⟨0x01, 0, 0, own, reportPayload ((s.queue k).take s.settings.packLimit)⟩)) ∧
            (∀ turn f rest, s.nextTurn = some turn → turn.member = .tqN → s.trunk.tqN = f :: rest →
              exec .uplinkChoice s = .next (send { s with
                uplink := { s.uplink with turn := turn }
                trunk := { s.trunk with tqN := rest } } (.transit false) f)) ∧
            (s.queue .c1 = [] → s.queue .c2 = [] → s.queue .c3 = [] → s.trunk.tqN = [] →
              exec .uplinkChoice s = .next s)))))

/-- The round robin (R100): the current member keeps the turn while it is not empty and below its weight; else the turn
passes to the first non-empty member after it in cyclic order, itself last, with count 1; none with all four empty. -/
def Obligations.RoundRobin : Prop :=
  ∀ (s : State) (waits : Member → Bool), waits = s.memberWaits →
    waits .cq1 = !(s.queue .c1).isEmpty ∧ waits .cq2 = !(s.queue .c2).isEmpty ∧ waits .cq3 = !(s.queue .c3).isEmpty ∧
    waits .tqN = !s.trunk.tqN.isEmpty ∧
    (∀ m n w, s.uplink.turn = ⟨m, n⟩ → w = s.settings.weight m →
      (waits m = true → n < w → s.nextTurn = some ⟨m, n + 1⟩) ∧
      (waits m = false ∨ w ≤ n → ∀ a b c, (m, a, b, c) ∈ ([(.cq1, .cq2, .cq3, .tqN), (.cq2, .cq3, .tqN, .cq1),
          (.cq3, .tqN, .cq1, .cq2), (.tqN, .cq1, .cq2, .cq3)] : List (Member × Member × Member × Member)) →
        s.nextTurn = if waits a then some ⟨a, 1⟩ else if waits b then some ⟨b, 1⟩ else if waits c then some ⟨c, 1⟩
          else if waits m then some ⟨m, 1⟩ else none))

/-- RETRANSMISSION_EXPIRY of a WAITING entry with TU UP (R112): DUE at the tail of the DUE order while the attempt is at
most the retry limit; else abandoned: removed, its slot free, its channel's gap set, or the drop notice put off as the supply
of choices says (notes/assumptions/16), counted and raised. With TU not UP none is taken (R113). The clock moves to the
entry's end (the model's choice, notes/assumptions/2). -/
def Obligations.RetransmissionExpiry : Prop :=
  ∀ (q : Byte) (e : Entry) (n : Nat) (s : State), s.conf.entries.find? (fun x => x.seq == q) = some e →
    e.state = .waiting n →
    (s.isUp .tu = false → exec (.retransmissionExpiry q) s = .next s) ∧
    (s.isUp .tu = true → ∃ s1, s1 = s.advance n ∧
      (e.attempt ≤ s.settings.retryLimit → exec (.retransmissionExpiry q) s = .next { s1 with conf := { s1.conf with
        entries := s1.conf.entries.map (fun x => if x.seq = q then { e with state := .due } else x)
        due := s.conf.due ++ [q] } }) ∧
      (s.settings.retryLimit < e.attempt → exec (.retransmissionExpiry q) s =
        .next ((({ s1 with
          choices := s.choices.tail
          conf := { s1.conf with
            entries := s1.conf.entries.eraseP (fun x => x.seq == q)
            due := s.conf.due.erase q }
          store := { s.store with free := s.store.free + 1 }
          latch := { s.latch with storeEmpty := false }
          drops := if e.report.channel ∈ s.choice.lateDrops then s.drops ++ [e.report.channel] else s.drops
          chanRun := if e.report.channel ∈ s.choice.lateDrops then s.chanRun
            else s.chanRun.set e.report.channel { s.chanRun[e.report.channel] with gap := true } } : State).count
          .urgentAbandoned).raise .urgentAbandoned 0 s.sweep.number)))

/-- ACK (R115): a malformed one is counted in LENGTH_ERRORS of TU and touches nothing; the numbers of a well-formed one
are taken in frame order, each by the table of R115.

The end of an urgent transmission at its entry (R110, R111): acknowledged, it is removed and counted in either case;
else completion makes it WAITING with the timeout in ticks, and abort makes it DUE with one attempt fewer; an entry that
is gone, as after a reset, is told nothing. -/
def Obligations.AckAndUrgentTransmissionEnds : Prop :=
  ((∀ (payload : List Byte) (s : State), s.inbox.confirm = [payload] →
     ∃ s0 : State, s0 = { s with inbox := { s.inbox with confirm := [] } } ∧
     ((payload.getD 0 0).toNat = 0 ∨ 8 < (payload.getD 0 0).toNat ∨ payload.length ≠ 1 + (payload.getD 0 0).toNat →
       exec (.ack payload) s = .next (s0.count (.lengthErrors .tu))) ∧
     (∀ n numbers, payload = n :: numbers → 1 ≤ n.toNat → n.toNat ≤ 8 → numbers.length = n.toNat →
       exec (.ack payload) s = .next (numbers.foldl State.acknowledge s0))) ∧
   (∀ (q : Byte) (s : State),
     (s.conf.entries.find? (fun x => x.seq == q) = none → s.acknowledge q = s.count .strayAck) ∧
     (∀ e, s.conf.entries.find? (fun x => x.seq == q) = some e →
       (e.state = .sending → s.acknowledge q = { s with conf := { s.conf with
         entries := s.conf.entries.map (fun x => if x.seq = q then { e with acked := true } else x) } }) ∧
       (e.state ≠ .sending → s.acknowledge q = ({ s with
         conf := { s.conf with
           entries := s.conf.entries.eraseP (fun x => x.seq == q)
           due := s.conf.due.erase q }
         store := { s.store with free := s.store.free + 1 }
         latch := { s.latch with storeEmpty := false } } : State).count .urgentAcked)))) ∧
  (∀ (q : Byte) (s : State),
     (s.conf.entries.find? (fun x => x.seq == q) = none → s.urgentCompleted q = s ∧ s.urgentAborted q = s) ∧
     (∀ e, s.conf.entries.find? (fun x => x.seq == q) = some e →
       (e.acked = true → ∃ t : State, t = (({ s with
           conf := { s.conf with
             entries := s.conf.entries.eraseP (fun x => x.seq == q)
             due := s.conf.due.erase q }
           store := { s.store with free := s.store.free + 1 }
           latch := { s.latch with storeEmpty := false } } : State).count .urgentAcked) ∧
         s.urgentCompleted q = t ∧ s.urgentAborted q = t) ∧
       (e.acked = false →
         s.urgentCompleted q = { s with conf := { s.conf with entries := s.conf.entries.map (fun x =>
           if x.seq = q then { e with state := .waiting (100 * s.settings.retransTimeout) } else x) } } ∧
         s.urgentAborted q = { s with conf := { s.conf with
           entries := s.conf.entries.map (fun x =>
             if x.seq = q then { e with state := .due, attempt := e.attempt - 1 } else x)
           due := s.conf.due ++ [q] } })))

/-- The sequence number of a new entry (R108): the first from the next number on, 255 followed by 0, that no entry holds,
found within 16 steps while the list holds at most 15 entries; the next number becomes the one after it. -/
def Obligations.NextSequenceNumber : Prop :=
  ∀ (s : State) (r : Report), s.conf.entries.length ≤ 15 →
    ∃ k : Nat, k ≤ 15 ∧ s.nextNumber = s.conf.nextSeq + BitVec.ofNat 8 k ∧
      (∀ e ∈ s.conf.entries, e.seq ≠ s.nextNumber) ∧
      (∀ j, j < k → ∃ e ∈ s.conf.entries, e.seq = s.conf.nextSeq + BitVec.ofNat 8 j) ∧
      (s.addEntry r).conf.nextSeq = s.nextNumber + 1 ∧
      (s.addEntry r).conf.entries =
        s.conf.entries ++ [⟨{ r with seq := s.nextNumber, attempt := 1 }, s.nextNumber, 1, .sending, false⟩]

/-! ### Relay Controller -/

/-- NODE_REPLY (the table of R171): a reply of at most 32 bytes from the awaited node ends a LISTENING relay with OK and
the reply, in the slot reserved for it whatever else is reserved beside it; a longer one is counted and the relay goes on;
any other is stray. The frame is the only arrival waiting (notes/assumptions/6). -/
def Obligations.NodeReply : Prop :=
  ∀ (node : Byte) (reply : List Byte) (tick : Nat) (s : State), s.inbox.intake = [⟨⟨0x32, node, reply⟩, tick⟩] →
    ∃ s0 : State, s0 = { s with inbox := { s.inbox with intake := [] } } ∧
    (s.relay = none → exec (.nodeReply node reply) s = .next (s0.count .strayReply)) ∧
    (∀ r, s.relay = some r →
      (r.phase = .queued ∨ r.phase = .sending ∨ r.node ≠ node →
        exec (.nodeReply node reply) s = .next (s0.count .strayReply)) ∧
      (∀ n, r.phase = .listening n → r.node = node →
        (32 < reply.length → exec (.nodeReply node reply) s = .next (s0.count (.lengthErrors .sg))) ∧
        (reply.length ≤ 32 → ∀ tag, s.mgmt.reserved.find? (fun x => x.code == 15) = some ⟨tag, 15⟩ →
          exec (.nodeReply node reply) s = .next { s0 with
            relay := none
            mgmt := { s.mgmt with
              reserved := s.mgmt.reserved.erase ⟨tag, 15⟩
              items := s.mgmt.items ++ [.response tag 15 .ok (BitVec.ofNat 8 reply.length :: reply)] } })))

/-- RELAY_TIMER_EXPIRY in LISTENING (R172): the clock stands at the timer's end (the model's choice,
notes/assumptions/2), the relay is over with RELAY_TIMEOUT, which is then raised; a reply that comes after it is stray. That
the response stands in MQ before the event's notice is the model's choice (notes/assumptions/19). -/
def Obligations.RelayTimerExpiry : Prop :=
  ∀ (r : PendingRelay) (n : Nat) (tag : Byte) (s : State), s.relay = some r → r.phase = .listening n →
    s.mgmt.reserved.find? (fun x => x.code == 15) = some ⟨tag, 15⟩ →
    ∃ s1 : State, s1 = s.advance n ∧
    ∃ t : State, t = ({ s1 with
        relay := none
        mgmt := { s1.mgmt with
          reserved := s.mgmt.reserved.erase ⟨tag, 15⟩
          items := s.mgmt.items ++ [.response tag 15 .relayTimeout []] } } : State).raise .relayTimeout 0 s.sweep.number ∧
      exec .relayTimerExpiry s = .next t ∧ t.now = s.now + n ∧
      (∀ reply, ∃ t', exec (.nodeReply r.node reply) t = .next t' ∧
        t'.counter .strayReply = min 4294967295 (t.counter .strayReply + 1) ∧ t'.relay = none ∧
        t'.mgmt.items = t.mgmt.items)

/-- SEGMENT_RELAY (R169): its checks in order, then the relay waits QUEUED with its slot reserved and no response yet. -/
def Obligations.SegmentRelay : Prop :=
  ∀ (r : Request) (node len : Byte) (command : List Byte) (s : State), s.admits r →
    r.fields = node :: len :: command →
    ∃ s0 : State, s0 = s.tookRequest 15 r ∧
    (command.length ≠ len.toNat → exec (.segmentRelay r) s = .next (s0.answered r 15 .badFormat [])) ∧
    (command.length = len.toNat → len.toNat = 0 ∨ 32 < len.toNat →
      exec (.segmentRelay r) s = .next (s0.answered r 15 .badValue [])) ∧
    (command.length = len.toNat → 1 ≤ len.toNat → len.toNat ≤ 32 →
      (node.toNat = 0 ∨ 62 < node.toNat → exec (.segmentRelay r) s = .next (s0.answered r 15 .badValue [])) ∧
      (1 ≤ node.toNat → node.toNat ≤ 62 →
        (s.relay.isSome = true → exec (.segmentRelay r) s = .next (s0.answered r 15 .busy [])) ∧
        (s.relay = none → s.isUp .sg = false →
          exec (.segmentRelay r) s = .next (s0.answered r 15 .linkDown [])) ∧
        (s.relay = none → s.isUp .sg = true → exec (.segmentRelay r) s = .next { s0 with
          relay := some ⟨node, command, .queued⟩
          mgmt := { s.mgmt with reserved := ⟨r.tag, 15⟩ :: s.mgmt.reserved } })))

/-! ### The staging session -/

/-- SESSION_OPEN (the table of R158, R160).

The end of a session: SESSION_IDLE_EXPIRY (R160), the clock at the timer's end (notes/assumptions/2), and
SESSION_DISCARD in OPEN (R162); SESSION_DISCARD refused while a commit is pending (R159). -/
def Obligations.SessionOpenAndEnds : Prop :=
  (∀ (r : Request) (a b : Byte) (s : State), s.admits r → r.fields = [a, b] →
     ∃ s0 : State, s0 = s.tookRequest 16 r ∧
     (s.mgmt.session.state = .none → exec (.sessionOpen r) s = .next { s0 with mgmt := { s.mgmt with
       items := s.mgmt.items ++ [.response r.tag 16 .ok []]
       session := ⟨.opened, some (a ++ b), [], some (10000 * s.settings.idleTimeout)⟩ } }) ∧
     (s.mgmt.session.state = .opened → s.mgmt.session.token = some (a ++ b) →
       exec (.sessionOpen r) s = .next { s0 with mgmt := { s.mgmt with
         items := s.mgmt.items ++ [.response r.tag 16 .ok []]
         session := { s.mgmt.session with idle := some (10000 * s.settings.idleTimeout) } } }) ∧
     (s.mgmt.session.state = .opened → s.mgmt.session.token ≠ some (a ++ b) →
       exec (.sessionOpen r) s = .next (s0.answered r 16 .sessionHeld [])) ∧
     (s.mgmt.session.state = .commitPending → exec (.sessionOpen r) s = .next (s0.answered r 16 .sessionHeld []))) ∧
  ((∀ (s : State) (n : Nat), s.mgmt.session.idle = some n →
     exec .sessionIdleExpiry s = .next (({ s.advance n with mgmt := { s.mgmt with session := ⟨.none, none, [], none⟩ } } :
       State).raise .sessionExpired 0 s.sweep.number)) ∧
   (∀ (r : Request) (s : State), s.admits r → r.fields.length = 2 →
     (s.holdsSession r → exec (.sessionDiscard r) s = .next { s.tookRequest 21 r with mgmt := { s.mgmt with
       items := s.mgmt.items ++ [.response r.tag 21 .ok []]
       session := ⟨.none, none, [], none⟩ } }) ∧
     (s.mgmt.session.state = .commitPending → s.mgmt.session.token = some (wordAt r.fields 0) →
       exec (.sessionDiscard r) s = .next ((s.tookRequest 21 r).answered r 21 .busy []))))

/-- Staging (R161): STAGE_NODE, STAGE_CHANNEL and STAGE_SETTINGS of a record in range, in OPEN with the token: the record
replaces that of its target in place, or joins the tail, or finds the list full; the response carries position and count,
and the idle timer restarts. -/
def Obligations.Staging : Prop :=
  ∀ (r : Request) (c : Instr) (code : Byte) (item : StagedItem) (s : State), s.admits r → s.holdsSession r →
    ((∃ (i : Fin 24) (n : NodeConfig), n.inRange = true ∧ r.fields = r.fields.take 2 ++ [BitVec.ofNat 8 i.val] ++ nodeBytes n ∧
        r.fields.length = 8 ∧ c = .stageNode r ∧ code = 17 ∧ item = .node i n) ∨
      (∃ (i : Fin 256) (n : ChanConfig), n.inRange = true ∧
        r.fields = r.fields.take 2 ++ [0, BitVec.ofNat 8 i.val] ++ channelBytes n ∧
        r.fields.length = 21 ∧ c = .stageChannel r ∧ code = 18 ∧ item = .channel i n) ∨
      (∃ t : Settings, t.inRange = true ∧ r.fields = r.fields.take 2 ++ settingsBytes t ∧ r.fields.length = 28 ∧
        c = .stageSettings r ∧ code = 19 ∧ item = .settings t)) →
    ∃ result : List StagedItem → Status → List Byte → State, result = (fun items status bytes =>
      { s.tookRequest code r with mgmt := { s.mgmt with
          items := s.mgmt.items ++ [.response r.tag code status bytes]
          session := { s.mgmt.session with items := items, idle := some (10000 * s.settings.idleTimeout) } } }) ∧
    (∀ pos, s.mgmt.session.items.findIdx? (fun x => x.targetBytes == item.targetBytes) = some pos →
      exec c s = .next (result (s.mgmt.session.items.set pos item) .ok
        [BitVec.ofNat 8 pos, BitVec.ofNat 8 s.mgmt.session.items.length])) ∧
    ((∀ x ∈ s.mgmt.session.items, x.targetBytes ≠ item.targetBytes) → s.mgmt.session.items.length < 32 →
      exec c s = .next (result (s.mgmt.session.items ++ [item]) .ok
        [BitVec.ofNat 8 s.mgmt.session.items.length, BitVec.ofNat 8 (s.mgmt.session.items.length + 1)])) ∧
    ((∀ x ∈ s.mgmt.session.items, x.targetBytes ≠ item.targetBytes) → 32 ≤ s.mgmt.session.items.length →
      exec c s = .next (result s.mgmt.session.items .stageFull []))

/-- The refusals of STAGE_NODE, STAGE_CHANNEL, STAGE_SETTINGS, SESSION_DISCARD and COMMIT (R159): NO_SESSION, WRONG_SESSION
and, while a commit is pending, BUSY, none of which touches the session.

The refusals of staging in OPEN with the token (R160, R161): BAD_INDEX before BAD_VALUE, the list as it was and the idle
timer restarted. A record is out of range where it is the record of no configuration in range (R19, R38, R157;
notes/assumptions/13 for the policies byte). -/
def Obligations.SessionRefusals : Prop :=
  (∀ (c : Instr) (code : Byte) (length : Nat) (r : Request) (s : State),
    (c, code, length) ∈ ([(.stageNode r, 17, 8), (.stageChannel r, 18, 21), (.stageSettings r, 19, 28),
      (.sessionDiscard r, 21, 2), (.commit r, 22, 2)] : List (Instr × Byte × Nat)) →
    s.admits r → r.fields.length = length →
    (s.mgmt.session.state = .none → exec c s = .next ((s.tookRequest code r).answered r code .noSession [])) ∧
    (s.mgmt.session.state ≠ .none → s.mgmt.session.token ≠ some (wordAt r.fields 0) →
      exec c s = .next ((s.tookRequest code r).answered r code .wrongSession [])) ∧
    (s.mgmt.session.state = .commitPending → s.mgmt.session.token = some (wordAt r.fields 0) →
      exec c s = .next ((s.tookRequest code r).answered r code .busy []))) ∧
  (∀ (r : Request) (s : State), s.admits r → s.holdsSession r →
    ∃ refused : Byte → Status → State, refused = (fun code status => { s.tookRequest code r with mgmt := { s.mgmt with
        items := s.mgmt.items ++ [.response r.tag code status []]
        session := { s.mgmt.session with idle := some (10000 * s.settings.idleTimeout) } } }) ∧
    (r.fields.length = 8 →
      (24 ≤ (r.fields.getD 2 0).toNat → exec (.stageNode r) s = .next (refused 17 .badIndex)) ∧
      ((r.fields.getD 2 0).toNat < 24 → (∀ n : NodeConfig, n.inRange = true → r.fields.drop 3 ≠ nodeBytes n) →
        exec (.stageNode r) s = .next (refused 17 .badValue))) ∧
    (r.fields.length = 21 →
      (r.fields.getD 2 0 ≠ 0 → exec (.stageChannel r) s = .next (refused 18 .badIndex)) ∧
      (r.fields.getD 2 0 = 0 → (∀ n : ChanConfig, n.inRange = true → r.fields.drop 4 ≠ channelBytes n) →
        exec (.stageChannel r) s = .next (refused 18 .badValue))) ∧
    (r.fields.length = 28 → (∀ n : Settings, n.inRange = true → r.fields.drop 2 ≠ settingsBytes n) →
      exec (.stageSettings r) s = .next (refused 19 .badValue)))

/-- READ_STAGED in OPEN with the token, and its refusals of the session (R159, R162). That position 32 is answered OK with
no record is the model's choice (notes/assumptions/28). -/
def Obligations.ReadStaged : Prop :=
  ∀ (r : Request) (a b pos : Byte) (s : State), s.admits r → r.fields = [a, b, pos] →
    ∃ s0 : State, s0 = s.tookRequest 20 r ∧
    (s.mgmt.session.state = .none → exec (.readStaged r) s = .next (s0.answered r 20 .noSession [])) ∧
    (s.mgmt.session.state ≠ .none → s.mgmt.session.token ≠ some (a ++ b) →
      exec (.readStaged r) s = .next (s0.answered r 20 .wrongSession [])) ∧
    (s.mgmt.session.state = .opened ∨ s.mgmt.session.state = .commitPending → s.mgmt.session.token = some (a ++ b) →
      ∃ s1 : State, s1 = (if s.mgmt.session.state = .opened then { s0 with mgmt := { s.mgmt with
          session := { s.mgmt.session with idle := some (10000 * s.settings.idleTimeout) } } } else s0) ∧
      ∃ summary : List Byte, summary = BitVec.ofNat 8 s.mgmt.session.items.length ::
          (s.mgmt.session.items.map StagedItem.targetBytes).flatten ∧
      (∀ item, s.mgmt.session.items[pos.toNat]? = some item →
        exec (.readStaged r) s = .next (s1.answered r 20 .ok (summary ++ item.recordBytes))) ∧
      (pos.toNat = 32 → s.mgmt.session.items.length ≤ 32 →
        exec (.readStaged r) s = .next (s1.answered r 20 .ok summary)) ∧
      (s.mgmt.session.items.length ≤ pos.toNat → pos.toNat ≠ 32 →
        exec (.readStaged r) s = .next (s1.answered r 20 .badIndex [])))

/-- COMMIT in OPEN with the token (R163 to R165): rejected with the first offending item, the session kept and its timer
restarted; in COLLECTING accepted and pending, its slot reserved; in STOPPED and QUIET applied at once: the merged tables and
settings are active, the session is over, the response OK is in MQ, changed node entries are reset (R35), channels are reset
or lose their limit state by R61, its case (b) in the reading of notes/assumptions/15, which is the model's choice, and by
R62, and the queues are trimmed, each report removed counted in REPORTS_DROPPED, its slot free and its channel's gap flag set
(R89, R57; the order of drop notices and resets, and which of the notices go on waiting for the filter, is the supply's
choice, notes/assumptions/16). In STOPPED the sweep's record stays. In QUIET a new source starts or stops the supervision
timer, and with a new source or period the next sweep is triggered at once where in LOCAL source the new period has passed
(R10, R11). -/
def Obligations.CommitTaken : Prop :=
  ∀ (r : Request) (s : State), s.admits r → r.fields.length = 2 → s.holdsSession r →
    ∃ s0 : State, s0 = s.tookRequest 22 r ∧
    (∀ results, rejection s.mergedNodes 0 s.mgmt.session.items = some results →
      exec (.commit r) s = .next { s0 with mgmt := { s.mgmt with
        items := s.mgmt.items ++ [.response r.tag 22 .commitRejected results]
        session := { s.mgmt.session with idle := some (10000 * s.settings.idleTimeout) } } }) ∧
    (rejection s.mergedNodes 0 s.mgmt.session.items = none →
      (s.sweep.state = .collecting → exec (.commit r) s = .next { s0 with mgmt := { s.mgmt with
        reserved := ⟨r.tag, 22⟩ :: s.mgmt.reserved
        session := { s.mgmt.session with state := .commitPending, idle := none } } }) ∧
      (s.sweep.state ≠ .collecting → ∃ t, exec (.commit r) s = .next t ∧
        t.nodeCfg = s.mergedNodes ∧ t.chanCfg = s.mergedChannels ∧ t.settings = s.mergedSettings ∧
        t.mgmt.session = ⟨.none, none, [], none⟩ ∧ t.mgmt.reserved = s.mgmt.reserved ∧
        t.mgmt.items = s.mgmt.items ++ [.response r.tag 22 .ok []] ∧
        (∀ i : Fin 24, t.nodeRun[i] =
          if s.nodeCfg[i] = s.mergedNodes[i] then s.nodeRun[i] else ⟨.unknown, 0, false, none, none⟩) ∧
        (∀ i : Fin 256,
          (s.resetsChannel i →
            t.chanRun[i] = ⟨none, none, 0, false, false, t.chanRun[i].gap, .unknown, 0, none⟩) ∧
          (¬ s.resetsChannel i → t.chanRun[i] =
            if limitFieldsDiffer s.chanCfg[i] s.mergedChannels[i] then
              { s.chanRun[i] with limit := .unknown, count := 0, candidate := none, gap := t.chanRun[i].gap }
            else { s.chanRun[i] with gap := t.chanRun[i].gap })) ∧
        TrimmedBy s t s.choice.dropFirst s.choice.lateDrops ∧ t.latch.latched = s.latch.latched ∧
        t.conf = s.conf ∧ t.uplink = s.uplink ∧ t.links = s.links ∧ t.trunk = s.trunk ∧ t.relay = s.relay ∧
        t.now = s.now ∧
        (s.sweep.state = .stopped → t.sweep = s.sweep) ∧
        (s.sweep.state = .quiet → ∃ supervision : Option Nat,
          supervision = (if s.settings.source = .localTimer ∧ s.mergedSettings.source = .trunk then
              some (2 * s.mergedSettings.period)
            else if s.settings.source = .trunk ∧ s.mergedSettings.source = .localTimer then none
            else s.sweep.supervision) ∧
          (s.settings.source = s.mergedSettings.source → s.settings.period = s.mergedSettings.period →
            t.sweep = s.sweep) ∧
          (s.mergedSettings.source = .trunk → t.sweep = { s.sweep with supervision := supervision }) ∧
          (s.mergedSettings.source = .localTimer →
            s.settings.source ≠ s.mergedSettings.source ∨ s.settings.period ≠ s.mergedSettings.period →
            ((∃ t0, s.sweep.lastTrigger = some t0 ∧ s.now - t0 < s.mergedSettings.period) →
              t.sweep = { s.sweep with supervision := supervision }) ∧
            ((∀ t0, s.sweep.lastTrigger = some t0 → s.mergedSettings.period ≤ s.now - t0) →
              t.sweep = { s.sweep with
                state := .collecting
                number := s.sweep.number + 1
                window := some s.mergedSettings.window
                lastTrigger := some s.now
                triggerStart := none
                supervision := supervision
                waiting := if s.isUp .sg then some (s.sweep.number + 1) else none })))))

/-- What COMMIT validates (R163): the merged tables hold each staged record in place of its target's active one; the reason
of an item in violation, the condition higher in the table first; the first item in list order that is in violation is
reported with its reason, target and position, and none where no item is. -/
def Obligations.CommitValidation : Prop :=
  (∀ s : State, (s.mgmt.session.items.map StagedItem.targetBytes).Nodup →
    (∀ i : Fin 24, (∀ n, .node i n ∈ s.mgmt.session.items → s.mergedNodes[i] = n) ∧
      ((∀ n, .node i n ∉ s.mgmt.session.items) → s.mergedNodes[i] = s.nodeCfg[i])) ∧
    (∀ i : Fin 256, (∀ n, .channel i n ∈ s.mgmt.session.items → s.mergedChannels[i] = n) ∧
      ((∀ n, .channel i n ∉ s.mgmt.session.items) → s.mergedChannels[i] = s.chanCfg[i])) ∧
    (∀ n, .settings n ∈ s.mgmt.session.items → s.mergedSettings = n) ∧
    ((∀ n, .settings n ∉ s.mgmt.session.items) → s.mergedSettings = s.settings)) ∧
  (∀ nodes : Vector NodeConfig 24,
    (∀ (i : Fin 24) (n : NodeConfig), ∃ address range : Prop,
      (address ↔ nodes[i].enabled = true ∧ ∃ j : Fin 24, j ≠ i ∧ nodes[j].enabled = true ∧
        nodes[i].address = nodes[j].address) ∧
      (range ↔ nodes[i].enabled = true ∧ ∃ j : Fin 24, j ≠ i ∧ nodes[j].enabled = true ∧
        nodes[i].first < nodes[j].first + nodes[j].count ∧ nodes[j].first < nodes[i].first + nodes[i].count) ∧
      (address → violation nodes (.node i n) = some 0) ∧
      (¬ address → range → violation nodes (.node i n) = some 1) ∧
      (¬ address → ¬ range → violation nodes (.node i n) = none)) ∧
    (∀ (i : Fin 256) (n : ChanConfig),
      (n.high.toInt ≤ n.low.toInt ∨ n.high.toInt - n.low.toInt < n.hysteresis →
        violation nodes (.channel i n) = some 2) ∧
      (n.low.toInt < n.high.toInt → (n.hysteresis : Int) ≤ n.high.toInt - n.low.toInt →
        violation nodes (.channel i n) = none)) ∧
    (∀ n : Settings, (n.period ≤ n.window → violation nodes (.settings n) = some 3) ∧
      (n.window < n.period → violation nodes (.settings n) = none)) ∧
    (∀ items : List StagedItem, (∀ x ∈ items, violation nodes x = none) → rejection nodes 0 items = none) ∧
    (∀ (before after : List StagedItem) (item : StagedItem) (reason : Byte), (∀ x ∈ before, violation nodes x = none) →
      violation nodes item = some reason → rejection nodes 0 (before ++ item :: after) =
        some (reason :: item.targetBytes ++ [BitVec.ofNat 8 before.length]))) ∧
  (∀ (i : Fin 24) (c : Fin 256) (n : NodeConfig) (m : ChanConfig) (t : Settings),
    (StagedItem.node i n).targetBytes = [0, BitVec.ofNat 8 i.val] ∧
    (StagedItem.channel c m).targetBytes = [1, BitVec.ofNat 8 c.val] ∧ (StagedItem.settings t).targetBytes = [2, 0])

/-! ### Requests -/

/-- The reading requests of no field or of an index (R34, R60, R90, R118, R135, R153, R154, R181): OK with the values of
this moment, or BAD_INDEX; nothing but MQ and the hand-over changes.

READ_NODE (R34) and READ_COUNTERS (R183): the values, and after them the clearing that the flag asks for: the node's
worst latency absent, the group's counters 0 and no other. With the index or the group in range, a flag byte above 1 is
BAD_VALUE and changes nothing but MQ and the hand-over (R34, R156, R183; notes/assumptions/13). BAD_INDEX for an index of 24
or more whatever the flag byte holds is the model's choice (notes/assumptions/14), as is the code of a candidate state
(notes/assumptions/12). -/
def Obligations.ReadingRequests : Prop :=
  (∀ (r : Request) (s : State), s.admits r →
     (r.fields = [] →
       exec (.getIdentity r) s = .next ((s.tookRequest 1 r).answered r 1 .ok [74, 5, 24, 1, 24, 1, 0, 1, 128, 16, 32]) ∧
       exec (.readSettings r) s = .next ((s.tookRequest 2 r).answered r 2 .ok (settingsBytes s.settings)) ∧
       exec (.readQueues r) s = .next ((s.tookRequest 5 r).answered r 5 .ok
         (be16 (s.queue .c0).length ++ be16 (s.queue .c1).length ++ be16 (s.queue .c2).length ++
           be16 (s.queue .c3).length ++
           [BitVec.ofNat 8 s.trunk.tqU.length, BitVec.ofNat 8 s.trunk.tqN.length, BitVec.ofNat 8 s.trunk.dfq.length] ++
           be16 s.store.free ++ [BitVec.ofNat 8 s.conf.entries.length, s.mgmt.session.state.code,
             BitVec.ofNat 8 s.mgmt.session.items.length])) ∧
       exec (.readEvents r) s = .next ((s.tookRequest 7 r).answered r 7 .ok
         (be16 (latchedSet s.latch).toNat ++ (s.latch.latched.toList.map occurrenceBytes).flatten ++
           be16 s.latch.notify.toNat))) ∧
     (∀ (a b : Byte) (c : Fin 256), r.fields = [a, b] →
       (a = 0 → b.toNat = c.val → exec (.readChannel r) s = .next ((s.tookRequest 4 r).answered r 4 .ok
         (channelBytes s.chanCfg[c] ++ channelRuntimeBytes s.chanRun[c]))) ∧
       (a ≠ 0 → exec (.readChannel r) s = .next ((s.tookRequest 4 r).answered r 4 .badIndex [])))) ∧
  (∀ (r : Request) (a b : Byte) (s : State), s.admits r → r.fields = [a, b] →
     (∀ i : Fin 24, a.toNat = i.val → b = 0 → exec (.readNode r) s =
       .next ((s.tookRequest 3 r).answered r 3 .ok (nodeBytes s.nodeCfg[i] ++ nodeRuntimeBytes s.nodeRun[i]))) ∧
     (∀ i : Fin 24, a.toNat = i.val → b = 1 → exec (.readNode r) s =
       .next { (s.tookRequest 3 r).answered r 3 .ok (nodeBytes s.nodeCfg[i] ++ nodeRuntimeBytes s.nodeRun[i]) with
         nodeRun := s.nodeRun.set i { s.nodeRun[i] with worstLatency := none } }) ∧
     (a.toNat < 24 → 1 < b.toNat → exec (.readNode r) s = .next ((s.tookRequest 3 r).answered r 3 .badValue [])) ∧
     (24 ≤ a.toNat → exec (.readNode r) s = .next ((s.tookRequest 3 r).answered r 3 .badIndex [])) ∧
     (∀ first count, (a.toNat, first, count) ∈ ([(0, 0, 15), (1, 15, 8), (2, 23, 14), (3, 37, 6)] : List (Nat × Nat × Nat)) →
       ∃ bytes, bytes = (((s.bank.toList.drop first).take count).map be32).flatten ∧
       (b = 0 → exec (.readCounters r) s = .next ((s.tookRequest 6 r).answered r 6 .ok bytes)) ∧
       (b = 1 → ∃ bank : Vector Nat 43,
          (∀ i : Fin 43, bank[i] = if first ≤ i.val ∧ i.val < first + count then 0 else s.bank[i]) ∧
          exec (.readCounters r) s = .next { (s.tookRequest 6 r).answered r 6 .ok bytes with bank := bank })) ∧
     (4 ≤ a.toNat ∨ 1 < b.toNat → exec (.readCounters r) s = .next ((s.tookRequest 6 r).answered r 6 .badValue [])))

/-- SET_NOTIFY (R181) and CLEAR_EVENTS (R180): a set that names a kind the part does not define is refused and changes
nothing; else the notify set is the set named, or the named kinds are unlatched and no other, and STORE_EMPTY latches
again at once while no slot is free. -/
def Obligations.EventRequests : Prop :=
  ∀ (r : Request) (a b : Byte) (set : Word) (s : State), s.admits r → r.fields = [a, b] → set = a ++ b →
    (set.getLsbD 0 = true ∨ set.getLsbD 14 = true ∨ set.getLsbD 15 = true →
      exec (.setNotify r) s = .next ((s.tookRequest 9 r).answered r 9 .badValue []) ∧
      exec (.clearEvents r) s = .next ((s.tookRequest 8 r).answered r 8 .badValue [])) ∧
    (set.getLsbD 0 = false → set.getLsbD 14 = false → set.getLsbD 15 = false →
      exec (.setNotify r) s = .next { (s.tookRequest 9 r).answered r 9 .ok [] with
        latch := { s.latch with notify := set } } ∧
      ∃ latched : Vector (Option Occurrence) 13,
        (∀ k : EventKind, latched[k.index] = if set.getLsbD k.number then none else s.latch.latched[k.index]) ∧
        ∃ cleared : State, cleared = { s.tookRequest 8 r with latch := { s.latch with latched := latched } } ∧
        (set.getLsbD 4 = false ∨ s.latch.storeEmpty = false →
          exec (.clearEvents r) s = .next (cleared.answered r 8 .ok [])) ∧
        (set.getLsbD 4 = true → s.latch.storeEmpty = true → ∃ again : State,
          again = { cleared with latch := { s.latch with
            latched := latched.set EventKind.storeEmpty.index (some ⟨0, s.sweep.number⟩) } } ∧
          (names s.latch.notify .storeEmpty = false → exec (.clearEvents r) s = .next (again.answered r 8 .ok [])) ∧
          (names s.latch.notify .storeEmpty = true → s.mgmt.items.length + s.mgmt.reserved.length < 7 →
            exec (.clearEvents r) s = .next ((again.pushMq (.event .storeEmpty s.sweep.number 0)).answered r 8 .ok [])) ∧
          (names s.latch.notify .storeEmpty = true → 7 ≤ s.mgmt.items.length + s.mgmt.reserved.length →
            exec (.clearEvents r) s = .next ((again.count .noticeLost).answered r 8 .ok []))))

/-- FORCE_REPORT (R59) and FLUSH_CLASS (R88): force pending on every enabled channel of the range and no other; every
report of the class queue discarded, counted and its channel's gap set, or its drop notice put off as the supply of choices
says (notes/assumptions/16), its slots free. -/
def Obligations.ForceAndFlush : Prop :=
  (∀ (r : Request) (a b c d : Byte) (first count : Nat) (s : State), s.admits r → r.fields = [a, b, c, d] →
    first = a.toNat * 256 + b.toNat → count = c.toNat * 256 + d.toNat →
    (count = 0 → exec (.forceReport r) s = .next ((s.tookRequest 13 r).answered r 13 .badValue [])) ∧
    (1 ≤ count → 256 < first + count →
      exec (.forceReport r) s = .next ((s.tookRequest 13 r).answered r 13 .badIndex [])) ∧
    (1 ≤ count → first + count ≤ 256 → ∃ n, n = ((List.finRange 256).filter (fun i =>
          s.chanCfg[i].enabled && decide (first ≤ i.val) && decide (i.val < first + count))).length ∧
      ∃ runs : Vector ChanRuntime 256,
        (∀ i : Fin 256, runs[i] = if s.chanCfg[i].enabled = true ∧ first ≤ i.val ∧ i.val < first + count then
          { s.chanRun[i] with forcePending := true } else s.chanRun[i]) ∧
        exec (.forceReport r) s = .next { (s.tookRequest 13 r).answered r 13 .ok (be16 n) with chanRun := runs })) ∧
  (∀ (r : Request) (a : Byte) (s : State), s.admits r → r.fields = [a] →
    (4 ≤ a.toNat → exec (.flushClass r) s = .next ((s.tookRequest 14 r).answered r 14 .badValue [])) ∧
    (∀ k : ReportClass, a = k.code → ∃ t, exec (.flushClass r) s = .next t ∧
      t.queue k = [] ∧ (∀ j, j ≠ k → t.queue j = s.queue j) ∧ t.store.free = s.store.free + (s.queue k).length ∧
      t.counter (.reportsDropped k) = min 4294967295 (s.counter (.reportsDropped k) + (s.queue k).length) ∧
      (∀ i : Fin 256, t.chanRun[i] = { s.chanRun[i] with
        gap := s.chanRun[i].gap || (s.queue k).any (fun x => x.channel == i && decide (i ∉ s.choice.lateDrops)) }) ∧
      t.drops = s.drops ++ ((s.queue k).map Report.channel).filter (fun i => decide (i ∈ s.choice.lateDrops)) ∧
      (t.latch.storeEmpty = if s.queue k = [] then s.latch.storeEmpty else false) ∧
      t.mgmt = ((s.tookRequest 14 r).answered r 14 .ok (be16 (s.queue k).length)).mgmt ∧
      t.latch.latched = s.latch.latched ∧ t.uplink = s.uplink ∧ t.conf = s.conf ∧ t.sweep = s.sweep ∧
      t.chanCfg = s.chanCfg ∧ t.nodeRun = s.nodeRun ∧ t.links = s.links))

/-- What every one of the 23 requests meets before its own rule, addressed (R149, R151): with no free slot in MQ it is
discarded, counted and raised; with a part reset pending it is answered BUSY; with the wrong length BAD_FORMAT. -/
def Obligations.RequestChecks : Prop :=
  ∀ (c : Instr) (code : Byte) (r : Request) (s : State), requestOf c = some (code, r) → r.broadcast = false →
    (8 ≤ s.mgmt.items.length + s.mgmt.reserved.length → exec c s =
      .next (((s.tookRequest code r).count .requestDropped).raise .requestDrop 0 s.sweep.number)) ∧
    (s.mgmt.items.length + s.mgmt.reserved.length < 8 →
      (s.mgmt.resetPending.isSome = true → exec c s = .next ((s.tookRequest code r).answered r code .busy [])) ∧
      (s.mgmt.resetPending = none → badLength code r.fields →
        exec c s = .next ((s.tookRequest code r).answered r code .badFormat [])))

/-- Broadcast requests (R152): ignored and counted when the code is not one of the four, the length is wrong, the part is
unassigned or a reset is pending, or a field is out of range; else START_SWEEPS, STOP_SWEEPS, CLEAR_EVENTS and FORCE_REPORT
act as they do addressed, with no response.

UNKNOWN_REQUEST (R149, R151, R152): a payload below 2 bytes is counted in LENGTH_ERRORS of TU; an addressed unknown code
is answered UNKNOWN_REQUEST, or BUSY with a reset pending; a broadcast one is ignored and counted. -/
def Obligations.BroadcastAndUnknownRequests : Prop :=
  (∀ (c : Instr) (code : Byte) (r : Request) (s : State), requestOf c = some (code, r) → r.broadcast = true →
     ((code.toNat ≠ 8 ∧ code.toNat ≠ 10 ∧ code.toNat ≠ 11 ∧ code.toNat ≠ 13) ∨ badLength code r.fields ∨ s.trunk.own = 0 ∨
         s.mgmt.resetPending.isSome = true →
       exec c s = .next ((s.tookRequest code r).count .broadcastIgnored)) ∧
     (c = .startSweeps r → r.fields = [] → s.trunk.own ≠ 0 → s.mgmt.resetPending = none →
       (s.sweep.state = .stopped → s.settings.source = .localTimer →
         exec c s = .next ((s.tookRequest 10 r).trigger (s.sweep.number + 1))) ∧
       (s.sweep.state = .stopped → s.settings.source = .trunk → exec c s = .next { s.tookRequest 10 r with
         sweep := { s.sweep with state := .quiet, supervision := some (2 * s.settings.period) } }) ∧
       (s.sweep.state ≠ .stopped → exec c s = .next (s.tookRequest 10 r)))) ∧
  (∀ (r : Request) (s : State), r.broadcast = true → s.trunk.own ≠ 0 → s.mgmt.resetPending = none →
     (r.fields = [] →
       (s.sweep.state = .stopped → exec (.stopSweeps r) s = .next (s.tookRequest 11 r)) ∧
       (s.sweep.state = .quiet → exec (.stopSweeps r) s = .next { s.tookRequest 11 r with
         sweep := { s.sweep with state := .stopped, oneShot := false, supervision := none } }) ∧
       (s.sweep.state = .collecting →
         exec (.stopSweeps r) s = .next ((s.tookRequest 11 r).sweepClose .stop))) ∧
     (∀ (a b : Byte) (set : Word), r.fields = [a, b] → set = a ++ b →
       (set.getLsbD 0 = true ∨ set.getLsbD 14 = true ∨ set.getLsbD 15 = true →
         exec (.clearEvents r) s = .next ((s.tookRequest 8 r).count .broadcastIgnored)) ∧
       (set.getLsbD 0 = false → set.getLsbD 14 = false → set.getLsbD 15 = false →
         ∃ latched : Vector (Option Occurrence) 13,
           (∀ k : EventKind, latched[k.index] = if set.getLsbD k.number then none else s.latch.latched[k.index]) ∧
           ∃ cleared : State, cleared = { s.tookRequest 8 r with latch := { s.latch with latched := latched } } ∧
           exec (.clearEvents r) s = .next (if set.getLsbD 4 && s.latch.storeEmpty then
             cleared.raise .storeEmpty 0 s.sweep.number else cleared))) ∧
     (∀ (a b c d : Byte) (first count : Nat), r.fields = [a, b, c, d] → first = a.toNat * 256 + b.toNat →
       count = c.toNat * 256 + d.toNat →
       (count = 0 ∨ 256 < first + count →
         exec (.forceReport r) s = .next ((s.tookRequest 13 r).count .broadcastIgnored)) ∧
       (1 ≤ count → first + count ≤ 256 → ∃ runs : Vector ChanRuntime 256,
         (∀ i : Fin 256, runs[i] = if s.chanCfg[i].enabled = true ∧ first ≤ i.val ∧ i.val < first + count then
           { s.chanRun[i] with forcePending := true } else s.chanRun[i]) ∧
         exec (.forceReport r) s = .next { s.tookRequest 13 r with chanRun := runs }))) ∧
  (∀ (broadcast : Bool) (payload : List Byte) (s : State), s.inbox.executor = [⟨broadcast, payload⟩] →
     ∃ s0 : State, s0 = { s with inbox := { s.inbox with executor := [] } } ∧
     (payload.length < 2 → exec (.unknownRequest broadcast payload) s = .next (s0.count (.lengthErrors .tu))) ∧
     (∀ tag code rest, payload = tag :: code :: rest → code.toNat = 0 ∨ 23 < code.toNat →
       (broadcast = true → exec (.unknownRequest broadcast payload) s = .next (s0.count .broadcastIgnored)) ∧
       (broadcast = false → s.mgmt.items.length + s.mgmt.reserved.length < 8 → exec (.unknownRequest broadcast payload) s =
         .next (s0.pushMq (.response tag code (if s.mgmt.resetPending = none then .unknownRequest else .busy) []))) ∧
       (broadcast = false → 8 ≤ s.mgmt.items.length + s.mgmt.reserved.length → exec (.unknownRequest broadcast payload) s =
         .next ((s0.count .requestDropped).raise .requestDrop 0 s.sweep.number))))

/-! ### Encodings -/

/-- The bytes of a report record, an EVENT, ANNOUNCE, RESPONSE and BEACON payload (R133, R156, R98, R186), and of the runtime
records that READ_NODE and READ_CHANNEL return (R20, R34, R39, R60, R156; the code of a candidate state is the model's
choice, notes/assumptions/12). A report carries the address of the one enabled node entry that covers its channel, and the
channel's number from that entry's first (R46, R41). -/
def Obligations.Layouts : Prop :=
  (∀ r : Report, ∃ bit : Bool → Nat, bit = (fun b => if b then 1 else 0) ∧ reportBytes r =
    [BitVec.ofNat 8 (4 * r.node + (match r.quality with
        | .good => 0
        | .overrange => 1
        | .fault => 2
        | .noData => 3)),
      BitVec.ofNat 8 r.channel.val,
      BitVec.ofNat 8 (16 * r.number + 4 * (match r.limit with
        | .unknown => 0
        | .normal => 1
        | .high => 2
        | .low => 3) + (match r.cls with
        | .c0 => 0
        | .c1 => 1
        | .c2 => 2
        | .c3 => 3)),
      BitVec.ofNat 8 (128 * bit r.aged + 64 * bit r.gap + 32 * bit r.causes.forced + 16 * bit r.causes.refresh +
        8 * bit r.causes.quality + 4 * bit r.causes.limit + 2 * bit r.causes.change + bit r.causes.initial),
      BitVec.ofNat 8 (r.sweep.toNat / 256), BitVec.ofNat 8 r.sweep.toNat, BitVec.ofNat 8 (r.value.toNat / 256),
      BitVec.ofNat 8 r.value.toNat, r.seq, BitVec.ofNat 8 (16 * r.attempt)]) ∧
  (∀ s : State, s.beaconPayload =
    [BitVec.ofNat 8 (s.sweep.number.toNat / 256), BitVec.ofNat 8 s.sweep.number.toNat, s.sweep.state.code,
      s.links.tu.state.code, s.links.td.state.code, s.links.sg.state.code] ++
    ([(latchedSet s.latch).toNat, (s.queue .c0).length, (s.queue .c1).length, (s.queue .c2).length,
      (s.queue .c3).length, s.store.free].map (fun n => [BitVec.ofNat 8 (n / 256), BitVec.ofNat 8 n])).flatten ++
    [BitVec.ofNat 8 s.conf.entries.length, s.mgmt.session.state.code] ∧ s.beaconPayload.length = 20 ∧
    (∀ k : EventKind, (latchedSet s.latch).getLsbD k.number = (s.latch.latched[k.index]).isSome) ∧
    (latchedSet s.latch).getLsbD 0 = false ∧ (latchedSet s.latch).getLsbD 14 = false ∧
    (latchedSet s.latch).getLsbD 15 = false) ∧
  ([SweepState.stopped, .collecting, .quiet].map SweepState.code = [0, 1, 2] ∧
    [LinkState.down, .aligning, .up].map LinkState.code = [0, 1, 2] ∧
    [SessionState.none, .opened, .commitPending].map SessionState.code = [0, 1, 2] ∧
    [Quality.good, .overrange, .fault, .noData].map Quality.code = [0, 1, 2, 3] ∧
    [LimitState.unknown, .normal, .high, .low].map LimitState.code = [0, 1, 2, 3] ∧
    [Status.ok, .unknownRequest, .badFormat, .badIndex, .badValue, .busy, .notAllowed, .noSession, .wrongSession,
      .sessionHeld, .stageFull, .commitRejected, .linkDown, .relayTimeout].map Status.code =
        [0, 1, 2, 3, 4, 5, 6, 7, 8, 9, 10, 11, 12, 13]) ∧
  (∀ (tag code detail : Byte) (st : Status) (rs : List Byte) (k : EventKind) (sweep : Word),
    (MqItem.response tag code st rs).kindAndPayload = (0x03, tag :: code :: st.code :: rs) ∧
    (MqItem.event k sweep detail).kindAndPayload = (0x02, [BitVec.ofNat 8 k.number,
      BitVec.ofNat 8 (sweep.toNat / 256), BitVec.ofNat 8 sweep.toNat, detail]) ∧
    MqItem.announce.kindAndPayload = (0x05, [0, 0, 74, 5, 24, 1, 24, 1, 0, 1, 128, 16, 32])) ∧
  (∀ r : NodeRuntime, ∃ latency : Option Nat → List Byte,
    latency none = [0, 0, 0] ∧ (∀ n, latency (some n) = [1, BitVec.ofNat 8 (n / 256), BitVec.ofNat 8 n]) ∧
    nodeRuntimeBytes r = [match r.presence with
        | .unknown => 0
        | .present => 1
        | .missing => 2
        | .absent => 3, BitVec.ofNat 8 r.misses, if r.responded then 1 else 0] ++ latency r.lastLatency ++
      latency r.worstLatency) ∧
  (∀ r : ChanRuntime, ∃ (reported latest candidate : List Byte),
    (r.lastReported = none → reported = [0, 0, 0, 0]) ∧
    (∀ x, r.lastReported = some x → reported =
      [1, BitVec.ofNat 8 (x.value.toNat / 256), BitVec.ofNat 8 x.value.toNat, x.quality.code]) ∧
    (r.latest = none → latest = [0, 0, 0, 0, 0, 0]) ∧
    (∀ x, r.latest = some x → latest = [1, BitVec.ofNat 8 (x.value.toNat / 256), BitVec.ofNat 8 x.value.toNat,
      x.quality.code, BitVec.ofNat 8 (x.sweep.toNat / 256), BitVec.ofNat 8 x.sweep.toNat]) ∧
    (r.candidate = none → candidate = [0, 0]) ∧ (∀ x, r.candidate = some x → candidate = [1, x.code]) ∧
    channelRuntimeBytes r = reported ++ latest ++
      [BitVec.ofNat 8 (r.sinceReport / 256), BitVec.ofNat 8 r.sinceReport, if r.pendingChange then 1 else 0,
        if r.forcePending then 1 else 0, if r.gap then 1 else 0, r.limit.code, BitVec.ofNat 8 r.count] ++ candidate) ∧
  (∀ (s : State) (c : Fin 256) (i : Fin 24), s.nodeCfg[i].enabled = true → s.nodeCfg[i].covers c.val = true →
    (∀ j : Fin 24, j ≠ i → s.nodeCfg[j].enabled = true → s.nodeCfg[j].covers c.val = false) →
    s.nodeAddress c = s.nodeCfg[i].address ∧ s.channelNumber c = c.val - s.nodeCfg[i].first)

/-- Node, channel and settings records written in bytes and read again are the same records, for every record in range
(R19, R38, R156, R157).

A frame sent passes every check of the port that receives it and is read as it was (R129 to R134): every kind a port
delivers, addresses and payload lengths in range. -/
def Obligations.RoundTrips : Prop :=
  ((∀ n : NodeConfig, n.inRange = true → parseNode (nodeBytes n) = some n) ∧
   (∀ c : ChanConfig, c.inRange = true → parseChannel (channelBytes c) = some c) ∧
   (∀ t : Settings, t.inRange = true → parseSettings (settingsBytes t) = some t)) ∧
  ((∀ (p : Port) (f : TrunkFrame), p ≠ .sg → f.kind ∈ deliveredKinds p → f.dest.toNat ≤ 31 → f.src.toNat ≤ 31 →
     f.payload.length ≤ 96 → (f.kind = 0x13 ∨ f.kind = 0x14 → f.payload.length = 2) →
     failedCheck p ⟨f.bytes, false, false⟩ = none ∧ readTrunk f.bytes = f) ∧
   (∀ f : SegFrame, f.kind ∈ deliveredKinds .sg → f.node.toNat ≤ 63 → f.payload.length ≤ 62 →
     failedCheck .sg ⟨f.bytes, false, false⟩ = none ∧ readSeg f.bytes = f))

/-! ### Laws that every step keeps -/

/-- The slot law: free slots, class queues, frame in flight and outstanding list hold 384 (R78). -/
def Obligations.SlotLawKept : Prop := KeptByStep SlotLaw

/-- The outstanding list's law, the entry of an urgent frame in flight among it (R107, R92, R109, R110). -/
def Obligations.OutstandingLawKept : Prop := KeptByStep OutstandingLaw

/-- Capacities of MQ and of the trunk queues, and the range of the own address (R148, R135). -/
def Obligations.CapacitiesKept : Prop := KeptByStep MqLaw ∧ KeptByStep TrunkLaw

/-- Class queues within their active limits, and the latch's copy of STORE_EMPTY true exactly while no slot is free (R79,
R83, R89, R178). -/
def Obligations.StoreLawsKept : Prop := KeptByStep QueuesWithinLimits ∧ KeptByStep StoreEmptyTrue

/-- Runtime records of channels and nodes (R20, R39, R65 to R70); the persistence count below the active persistence and
within 0 to 7 (R39, R69), with the law of the tables, which bounds the persistence (R38), as a premise. -/
def Obligations.RuntimeLawsKept : Prop :=
  KeptByStep ChannelLaw ∧ KeptByStep NodeLaw ∧
  ∀ s t, TablesLaw s → PersistenceLaw s → step s = .next t → PersistenceLaw t

/-- Link records, and who transmits on which port, the latter with the former as a premise (R121 to R128, R92, R168). -/
def Obligations.LinkLawsKept : Prop :=
  KeptByStep LinkLaw ∧
  ∀ s t, LinkLaw s → TransmissionLaw s → step s = .next t → TransmissionLaw t

/-- Timers and marks of the sweep (R1, R3, R6, R7, R14, R17) and the session's record (R147, R160, R161, R164). The reserved
slots of MQ stay in order, with the session's record in order as a premise: one of SEGMENT_RELAY exactly while a relay is
pending, one of COMMIT exactly while a commit is pending, and no other (R150, R164, R168). -/
def Obligations.SweepAndSessionKept : Prop :=
  KeptByStep SweepLaw ∧ KeptByStep SessionLaw ∧
  ∀ s t, SessionLaw s → ReservationLaw s → step s = .next t → ReservationLaw t

/-- The active tables stay valid: distinct enabled addresses, separate ranges, ordered limits, window below period (R163,
R164). -/
def Obligations.TablesLawKept : Prop := KeptByStep TablesLaw
end

