-- ==== Sys2Proof/Laws/State.lean ====
section
/-! SUPPORT. What each plain update of the state leaves as it was, one lemma per field, all true by `rfl`. -/

namespace Sys2Proof.Machine

/-! ### `setLink` -/

section

variable (s : State) (p : Port) (lp : LinkPort)

@[simp] theorem State.setLink_now : (s.setLink p lp).now = s.now := rfl
@[simp] theorem State.setLink_sweep : (s.setLink p lp).sweep = s.sweep := rfl
@[simp] theorem State.setLink_nodeCfg : (s.setLink p lp).nodeCfg = s.nodeCfg := rfl
@[simp] theorem State.setLink_nodeRun : (s.setLink p lp).nodeRun = s.nodeRun := rfl
@[simp] theorem State.setLink_chanCfg : (s.setLink p lp).chanCfg = s.chanCfg := rfl
@[simp] theorem State.setLink_chanRun : (s.setLink p lp).chanRun = s.chanRun := rfl
@[simp] theorem State.setLink_settings : (s.setLink p lp).settings = s.settings := rfl
@[simp] theorem State.setLink_store : (s.setLink p lp).store = s.store := rfl
@[simp] theorem State.setLink_uplink : (s.setLink p lp).uplink = s.uplink := rfl
@[simp] theorem State.setLink_conf : (s.setLink p lp).conf = s.conf := rfl
@[simp] theorem State.setLink_trunk : (s.setLink p lp).trunk = s.trunk := rfl
@[simp] theorem State.setLink_mgmt : (s.setLink p lp).mgmt = s.mgmt := rfl
@[simp] theorem State.setLink_relay : (s.setLink p lp).relay = s.relay := rfl
@[simp] theorem State.setLink_latch : (s.setLink p lp).latch = s.latch := rfl
@[simp] theorem State.setLink_bank : (s.setLink p lp).bank = s.bank := rfl
@[simp] theorem State.setLink_inbox : (s.setLink p lp).inbox = s.inbox := rfl
@[simp] theorem State.setLink_handed : (s.setLink p lp).handed = s.handed := rfl
@[simp] theorem State.setLink_notices : (s.setLink p lp).notices = s.notices := rfl
@[simp] theorem State.setLink_drops : (s.setLink p lp).drops = s.drops := rfl
@[simp] theorem State.setLink_choices : (s.setLink p lp).choices = s.choices := rfl
@[simp] theorem State.setLink_pending : (s.setLink p lp).pending = s.pending := rfl

end

/-! ### `startTx` -/

section

variable (s : State) (p : Port) (bytes : List Byte) (owner : Owner)

@[simp] theorem State.startTx_now : (s.startTx p bytes owner).now = s.now := rfl
@[simp] theorem State.startTx_sweep : (s.startTx p bytes owner).sweep = s.sweep := rfl
@[simp] theorem State.startTx_nodeCfg : (s.startTx p bytes owner).nodeCfg = s.nodeCfg := rfl
@[simp] theorem State.startTx_nodeRun : (s.startTx p bytes owner).nodeRun = s.nodeRun := rfl
@[simp] theorem State.startTx_chanCfg : (s.startTx p bytes owner).chanCfg = s.chanCfg := rfl
@[simp] theorem State.startTx_chanRun : (s.startTx p bytes owner).chanRun = s.chanRun := rfl
@[simp] theorem State.startTx_settings : (s.startTx p bytes owner).settings = s.settings := rfl
@[simp] theorem State.startTx_store : (s.startTx p bytes owner).store = s.store := rfl
@[simp] theorem State.startTx_uplink : (s.startTx p bytes owner).uplink = s.uplink := rfl
@[simp] theorem State.startTx_conf : (s.startTx p bytes owner).conf = s.conf := rfl
@[simp] theorem State.startTx_trunk : (s.startTx p bytes owner).trunk = s.trunk := rfl
@[simp] theorem State.startTx_mgmt : (s.startTx p bytes owner).mgmt = s.mgmt := rfl
@[simp] theorem State.startTx_relay : (s.startTx p bytes owner).relay = s.relay := rfl
@[simp] theorem State.startTx_latch : (s.startTx p bytes owner).latch = s.latch := rfl
@[simp] theorem State.startTx_bank : (s.startTx p bytes owner).bank = s.bank := rfl
@[simp] theorem State.startTx_inbox : (s.startTx p bytes owner).inbox = s.inbox := rfl
@[simp] theorem State.startTx_handed : (s.startTx p bytes owner).handed = s.handed := rfl
@[simp] theorem State.startTx_notices : (s.startTx p bytes owner).notices = s.notices := rfl
@[simp] theorem State.startTx_drops : (s.startTx p bytes owner).drops = s.drops := rfl
@[simp] theorem State.startTx_choices : (s.startTx p bytes owner).choices = s.choices := rfl
@[simp] theorem State.startTx_pending : (s.startTx p bytes owner).pending = s.pending := rfl

end

/-! ### `transmit` -/

section

variable (s : State) (supplied : PerPort Nat)

@[simp] theorem State.transmit_now : (s.transmit supplied).now = s.now := rfl
@[simp] theorem State.transmit_sweep : (s.transmit supplied).sweep = s.sweep := rfl
@[simp] theorem State.transmit_nodeCfg : (s.transmit supplied).nodeCfg = s.nodeCfg := rfl
@[simp] theorem State.transmit_nodeRun : (s.transmit supplied).nodeRun = s.nodeRun := rfl
@[simp] theorem State.transmit_chanCfg : (s.transmit supplied).chanCfg = s.chanCfg := rfl
@[simp] theorem State.transmit_chanRun : (s.transmit supplied).chanRun = s.chanRun := rfl
@[simp] theorem State.transmit_settings : (s.transmit supplied).settings = s.settings := rfl
@[simp] theorem State.transmit_store : (s.transmit supplied).store = s.store := rfl
@[simp] theorem State.transmit_uplink : (s.transmit supplied).uplink = s.uplink := rfl
@[simp] theorem State.transmit_conf : (s.transmit supplied).conf = s.conf := rfl
@[simp] theorem State.transmit_trunk : (s.transmit supplied).trunk = s.trunk := rfl
@[simp] theorem State.transmit_mgmt : (s.transmit supplied).mgmt = s.mgmt := rfl
@[simp] theorem State.transmit_relay : (s.transmit supplied).relay = s.relay := rfl
@[simp] theorem State.transmit_latch : (s.transmit supplied).latch = s.latch := rfl
@[simp] theorem State.transmit_bank : (s.transmit supplied).bank = s.bank := rfl
@[simp] theorem State.transmit_inbox : (s.transmit supplied).inbox = s.inbox := rfl
@[simp] theorem State.transmit_handed : (s.transmit supplied).handed = s.handed := rfl
@[simp] theorem State.transmit_notices : (s.transmit supplied).notices = s.notices := rfl
@[simp] theorem State.transmit_drops : (s.transmit supplied).drops = s.drops := rfl
@[simp] theorem State.transmit_choices : (s.transmit supplied).choices = s.choices := rfl
@[simp] theorem State.transmit_pending : (s.transmit supplied).pending = s.pending := rfl

end

/-! ### `setQueue` -/

section

variable (s : State) (k : ReportClass) (q : List Report)

@[simp] theorem State.setQueue_now : (s.setQueue k q).now = s.now := rfl
@[simp] theorem State.setQueue_sweep : (s.setQueue k q).sweep = s.sweep := rfl
@[simp] theorem State.setQueue_nodeCfg : (s.setQueue k q).nodeCfg = s.nodeCfg := rfl
@[simp] theorem State.setQueue_nodeRun : (s.setQueue k q).nodeRun = s.nodeRun := rfl
@[simp] theorem State.setQueue_chanCfg : (s.setQueue k q).chanCfg = s.chanCfg := rfl
@[simp] theorem State.setQueue_chanRun : (s.setQueue k q).chanRun = s.chanRun := rfl
@[simp] theorem State.setQueue_settings : (s.setQueue k q).settings = s.settings := rfl
@[simp] theorem State.setQueue_uplink : (s.setQueue k q).uplink = s.uplink := rfl
@[simp] theorem State.setQueue_conf : (s.setQueue k q).conf = s.conf := rfl
@[simp] theorem State.setQueue_links : (s.setQueue k q).links = s.links := rfl
@[simp] theorem State.setQueue_trunk : (s.setQueue k q).trunk = s.trunk := rfl
@[simp] theorem State.setQueue_mgmt : (s.setQueue k q).mgmt = s.mgmt := rfl
@[simp] theorem State.setQueue_relay : (s.setQueue k q).relay = s.relay := rfl
@[simp] theorem State.setQueue_latch : (s.setQueue k q).latch = s.latch := rfl
@[simp] theorem State.setQueue_bank : (s.setQueue k q).bank = s.bank := rfl
@[simp] theorem State.setQueue_inbox : (s.setQueue k q).inbox = s.inbox := rfl
@[simp] theorem State.setQueue_handed : (s.setQueue k q).handed = s.handed := rfl
@[simp] theorem State.setQueue_notices : (s.setQueue k q).notices = s.notices := rfl
@[simp] theorem State.setQueue_drops : (s.setQueue k q).drops = s.drops := rfl
@[simp] theorem State.setQueue_choices : (s.setQueue k q).choices = s.choices := rfl
@[simp] theorem State.setQueue_pending : (s.setQueue k q).pending = s.pending := rfl

end

/-! ### `setNodeRun` -/

section

variable (s : State) (i : Fin 24) (r : NodeRuntime)

@[simp] theorem State.setNodeRun_now : (s.setNodeRun i r).now = s.now := rfl
@[simp] theorem State.setNodeRun_sweep : (s.setNodeRun i r).sweep = s.sweep := rfl
@[simp] theorem State.setNodeRun_nodeCfg : (s.setNodeRun i r).nodeCfg = s.nodeCfg := rfl
@[simp] theorem State.setNodeRun_chanCfg : (s.setNodeRun i r).chanCfg = s.chanCfg := rfl
@[simp] theorem State.setNodeRun_chanRun : (s.setNodeRun i r).chanRun = s.chanRun := rfl
@[simp] theorem State.setNodeRun_settings : (s.setNodeRun i r).settings = s.settings := rfl
@[simp] theorem State.setNodeRun_store : (s.setNodeRun i r).store = s.store := rfl
@[simp] theorem State.setNodeRun_uplink : (s.setNodeRun i r).uplink = s.uplink := rfl
@[simp] theorem State.setNodeRun_conf : (s.setNodeRun i r).conf = s.conf := rfl
@[simp] theorem State.setNodeRun_links : (s.setNodeRun i r).links = s.links := rfl
@[simp] theorem State.setNodeRun_trunk : (s.setNodeRun i r).trunk = s.trunk := rfl
@[simp] theorem State.setNodeRun_mgmt : (s.setNodeRun i r).mgmt = s.mgmt := rfl
@[simp] theorem State.setNodeRun_relay : (s.setNodeRun i r).relay = s.relay := rfl
@[simp] theorem State.setNodeRun_latch : (s.setNodeRun i r).latch = s.latch := rfl
@[simp] theorem State.setNodeRun_bank : (s.setNodeRun i r).bank = s.bank := rfl
@[simp] theorem State.setNodeRun_inbox : (s.setNodeRun i r).inbox = s.inbox := rfl
@[simp] theorem State.setNodeRun_handed : (s.setNodeRun i r).handed = s.handed := rfl
@[simp] theorem State.setNodeRun_notices : (s.setNodeRun i r).notices = s.notices := rfl
@[simp] theorem State.setNodeRun_drops : (s.setNodeRun i r).drops = s.drops := rfl
@[simp] theorem State.setNodeRun_choices : (s.setNodeRun i r).choices = s.choices := rfl
@[simp] theorem State.setNodeRun_pending : (s.setNodeRun i r).pending = s.pending := rfl

end

/-! ### `setChanRun` -/

section

variable (s : State) (c : Fin 256) (r : ChanRuntime)

@[simp] theorem State.setChanRun_now : (s.setChanRun c r).now = s.now := rfl
@[simp] theorem State.setChanRun_sweep : (s.setChanRun c r).sweep = s.sweep := rfl
@[simp] theorem State.setChanRun_nodeCfg : (s.setChanRun c r).nodeCfg = s.nodeCfg := rfl
@[simp] theorem State.setChanRun_nodeRun : (s.setChanRun c r).nodeRun = s.nodeRun := rfl
@[simp] theorem State.setChanRun_chanCfg : (s.setChanRun c r).chanCfg = s.chanCfg := rfl
@[simp] theorem State.setChanRun_settings : (s.setChanRun c r).settings = s.settings := rfl
@[simp] theorem State.setChanRun_store : (s.setChanRun c r).store = s.store := rfl
@[simp] theorem State.setChanRun_uplink : (s.setChanRun c r).uplink = s.uplink := rfl
@[simp] theorem State.setChanRun_conf : (s.setChanRun c r).conf = s.conf := rfl
@[simp] theorem State.setChanRun_links : (s.setChanRun c r).links = s.links := rfl
@[simp] theorem State.setChanRun_trunk : (s.setChanRun c r).trunk = s.trunk := rfl
@[simp] theorem State.setChanRun_mgmt : (s.setChanRun c r).mgmt = s.mgmt := rfl
@[simp] theorem State.setChanRun_relay : (s.setChanRun c r).relay = s.relay := rfl
@[simp] theorem State.setChanRun_latch : (s.setChanRun c r).latch = s.latch := rfl
@[simp] theorem State.setChanRun_bank : (s.setChanRun c r).bank = s.bank := rfl
@[simp] theorem State.setChanRun_inbox : (s.setChanRun c r).inbox = s.inbox := rfl
@[simp] theorem State.setChanRun_handed : (s.setChanRun c r).handed = s.handed := rfl
@[simp] theorem State.setChanRun_notices : (s.setChanRun c r).notices = s.notices := rfl
@[simp] theorem State.setChanRun_drops : (s.setChanRun c r).drops = s.drops := rfl
@[simp] theorem State.setChanRun_choices : (s.setChanRun c r).choices = s.choices := rfl
@[simp] theorem State.setChanRun_pending : (s.setChanRun c r).pending = s.pending := rfl

end

/-! ### `dropNotice` -/

section

variable (s : State) (c : Fin 256)

@[simp] theorem State.dropNotice_now : (s.dropNotice c).now = s.now := rfl
@[simp] theorem State.dropNotice_sweep : (s.dropNotice c).sweep = s.sweep := rfl
@[simp] theorem State.dropNotice_nodeCfg : (s.dropNotice c).nodeCfg = s.nodeCfg := rfl
@[simp] theorem State.dropNotice_nodeRun : (s.dropNotice c).nodeRun = s.nodeRun := rfl
@[simp] theorem State.dropNotice_chanCfg : (s.dropNotice c).chanCfg = s.chanCfg := rfl
@[simp] theorem State.dropNotice_settings : (s.dropNotice c).settings = s.settings := rfl
@[simp] theorem State.dropNotice_store : (s.dropNotice c).store = s.store := rfl
@[simp] theorem State.dropNotice_uplink : (s.dropNotice c).uplink = s.uplink := rfl
@[simp] theorem State.dropNotice_conf : (s.dropNotice c).conf = s.conf := rfl
@[simp] theorem State.dropNotice_links : (s.dropNotice c).links = s.links := rfl
@[simp] theorem State.dropNotice_trunk : (s.dropNotice c).trunk = s.trunk := rfl
@[simp] theorem State.dropNotice_mgmt : (s.dropNotice c).mgmt = s.mgmt := rfl
@[simp] theorem State.dropNotice_relay : (s.dropNotice c).relay = s.relay := rfl
@[simp] theorem State.dropNotice_latch : (s.dropNotice c).latch = s.latch := rfl
@[simp] theorem State.dropNotice_bank : (s.dropNotice c).bank = s.bank := rfl
@[simp] theorem State.dropNotice_inbox : (s.dropNotice c).inbox = s.inbox := rfl
@[simp] theorem State.dropNotice_handed : (s.dropNotice c).handed = s.handed := rfl
@[simp] theorem State.dropNotice_notices : (s.dropNotice c).notices = s.notices := rfl
@[simp] theorem State.dropNotice_drops : (s.dropNotice c).drops = s.drops := rfl
@[simp] theorem State.dropNotice_choices : (s.dropNotice c).choices = s.choices := rfl
@[simp] theorem State.dropNotice_pending : (s.dropNotice c).pending = s.pending := rfl

end

/-! ### `countBy` -/

section

variable (s : State) (c : Counter) (n : Nat)

@[simp] theorem State.countBy_now : (s.countBy c n).now = s.now := rfl
@[simp] theorem State.countBy_sweep : (s.countBy c n).sweep = s.sweep := rfl
@[simp] theorem State.countBy_nodeCfg : (s.countBy c n).nodeCfg = s.nodeCfg := rfl
@[simp] theorem State.countBy_nodeRun : (s.countBy c n).nodeRun = s.nodeRun := rfl
@[simp] theorem State.countBy_chanCfg : (s.countBy c n).chanCfg = s.chanCfg := rfl
@[simp] theorem State.countBy_chanRun : (s.countBy c n).chanRun = s.chanRun := rfl
@[simp] theorem State.countBy_settings : (s.countBy c n).settings = s.settings := rfl
@[simp] theorem State.countBy_store : (s.countBy c n).store = s.store := rfl
@[simp] theorem State.countBy_uplink : (s.countBy c n).uplink = s.uplink := rfl
@[simp] theorem State.countBy_conf : (s.countBy c n).conf = s.conf := rfl
@[simp] theorem State.countBy_links : (s.countBy c n).links = s.links := rfl
@[simp] theorem State.countBy_trunk : (s.countBy c n).trunk = s.trunk := rfl
@[simp] theorem State.countBy_mgmt : (s.countBy c n).mgmt = s.mgmt := rfl
@[simp] theorem State.countBy_relay : (s.countBy c n).relay = s.relay := rfl
@[simp] theorem State.countBy_latch : (s.countBy c n).latch = s.latch := rfl
@[simp] theorem State.countBy_inbox : (s.countBy c n).inbox = s.inbox := rfl
@[simp] theorem State.countBy_handed : (s.countBy c n).handed = s.handed := rfl
@[simp] theorem State.countBy_notices : (s.countBy c n).notices = s.notices := rfl
@[simp] theorem State.countBy_drops : (s.countBy c n).drops = s.drops := rfl
@[simp] theorem State.countBy_choices : (s.countBy c n).choices = s.choices := rfl
@[simp] theorem State.countBy_pending : (s.countBy c n).pending = s.pending := rfl

end

/-! ### `count` -/

section

variable (s : State) (c : Counter)

@[simp] theorem State.count_now : (s.count c).now = s.now := rfl
@[simp] theorem State.count_sweep : (s.count c).sweep = s.sweep := rfl
@[simp] theorem State.count_nodeCfg : (s.count c).nodeCfg = s.nodeCfg := rfl
@[simp] theorem State.count_nodeRun : (s.count c).nodeRun = s.nodeRun := rfl
@[simp] theorem State.count_chanCfg : (s.count c).chanCfg = s.chanCfg := rfl
@[simp] theorem State.count_chanRun : (s.count c).chanRun = s.chanRun := rfl
@[simp] theorem State.count_settings : (s.count c).settings = s.settings := rfl
@[simp] theorem State.count_store : (s.count c).store = s.store := rfl
@[simp] theorem State.count_uplink : (s.count c).uplink = s.uplink := rfl
@[simp] theorem State.count_conf : (s.count c).conf = s.conf := rfl
@[simp] theorem State.count_links : (s.count c).links = s.links := rfl
@[simp] theorem State.count_trunk : (s.count c).trunk = s.trunk := rfl
@[simp] theorem State.count_mgmt : (s.count c).mgmt = s.mgmt := rfl
@[simp] theorem State.count_relay : (s.count c).relay = s.relay := rfl
@[simp] theorem State.count_latch : (s.count c).latch = s.latch := rfl
@[simp] theorem State.count_inbox : (s.count c).inbox = s.inbox := rfl
@[simp] theorem State.count_handed : (s.count c).handed = s.handed := rfl
@[simp] theorem State.count_notices : (s.count c).notices = s.notices := rfl
@[simp] theorem State.count_drops : (s.count c).drops = s.drops := rfl
@[simp] theorem State.count_choices : (s.count c).choices = s.choices := rfl
@[simp] theorem State.count_pending : (s.count c).pending = s.pending := rfl

end

/-! ### `pushMq` -/

section

variable (s : State) (i : MqItem)

@[simp] theorem State.pushMq_now : (s.pushMq i).now = s.now := rfl
@[simp] theorem State.pushMq_sweep : (s.pushMq i).sweep = s.sweep := rfl
@[simp] theorem State.pushMq_nodeCfg : (s.pushMq i).nodeCfg = s.nodeCfg := rfl
@[simp] theorem State.pushMq_nodeRun : (s.pushMq i).nodeRun = s.nodeRun := rfl
@[simp] theorem State.pushMq_chanCfg : (s.pushMq i).chanCfg = s.chanCfg := rfl
@[simp] theorem State.pushMq_chanRun : (s.pushMq i).chanRun = s.chanRun := rfl
@[simp] theorem State.pushMq_settings : (s.pushMq i).settings = s.settings := rfl
@[simp] theorem State.pushMq_store : (s.pushMq i).store = s.store := rfl
@[simp] theorem State.pushMq_uplink : (s.pushMq i).uplink = s.uplink := rfl
@[simp] theorem State.pushMq_conf : (s.pushMq i).conf = s.conf := rfl
@[simp] theorem State.pushMq_links : (s.pushMq i).links = s.links := rfl
@[simp] theorem State.pushMq_trunk : (s.pushMq i).trunk = s.trunk := rfl
@[simp] theorem State.pushMq_relay : (s.pushMq i).relay = s.relay := rfl
@[simp] theorem State.pushMq_latch : (s.pushMq i).latch = s.latch := rfl
@[simp] theorem State.pushMq_bank : (s.pushMq i).bank = s.bank := rfl
@[simp] theorem State.pushMq_inbox : (s.pushMq i).inbox = s.inbox := rfl
@[simp] theorem State.pushMq_handed : (s.pushMq i).handed = s.handed := rfl
@[simp] theorem State.pushMq_notices : (s.pushMq i).notices = s.notices := rfl
@[simp] theorem State.pushMq_drops : (s.pushMq i).drops = s.drops := rfl
@[simp] theorem State.pushMq_choices : (s.pushMq i).choices = s.choices := rfl
@[simp] theorem State.pushMq_pending : (s.pushMq i).pending = s.pending := rfl

end

/-! ### `reserve` -/

section

variable (s : State) (tag code : Byte)

@[simp] theorem State.reserve_now : (s.reserve tag code).now = s.now := rfl
@[simp] theorem State.reserve_sweep : (s.reserve tag code).sweep = s.sweep := rfl
@[simp] theorem State.reserve_nodeCfg : (s.reserve tag code).nodeCfg = s.nodeCfg := rfl
@[simp] theorem State.reserve_nodeRun : (s.reserve tag code).nodeRun = s.nodeRun := rfl
@[simp] theorem State.reserve_chanCfg : (s.reserve tag code).chanCfg = s.chanCfg := rfl
@[simp] theorem State.reserve_chanRun : (s.reserve tag code).chanRun = s.chanRun := rfl
@[simp] theorem State.reserve_settings : (s.reserve tag code).settings = s.settings := rfl
@[simp] theorem State.reserve_store : (s.reserve tag code).store = s.store := rfl
@[simp] theorem State.reserve_uplink : (s.reserve tag code).uplink = s.uplink := rfl
@[simp] theorem State.reserve_conf : (s.reserve tag code).conf = s.conf := rfl
@[simp] theorem State.reserve_links : (s.reserve tag code).links = s.links := rfl
@[simp] theorem State.reserve_trunk : (s.reserve tag code).trunk = s.trunk := rfl
@[simp] theorem State.reserve_relay : (s.reserve tag code).relay = s.relay := rfl
@[simp] theorem State.reserve_latch : (s.reserve tag code).latch = s.latch := rfl
@[simp] theorem State.reserve_bank : (s.reserve tag code).bank = s.bank := rfl
@[simp] theorem State.reserve_inbox : (s.reserve tag code).inbox = s.inbox := rfl
@[simp] theorem State.reserve_handed : (s.reserve tag code).handed = s.handed := rfl
@[simp] theorem State.reserve_notices : (s.reserve tag code).notices = s.notices := rfl
@[simp] theorem State.reserve_drops : (s.reserve tag code).drops = s.drops := rfl
@[simp] theorem State.reserve_choices : (s.reserve tag code).choices = s.choices := rfl
@[simp] theorem State.reserve_pending : (s.reserve tag code).pending = s.pending := rfl

end

/-! ### `setSession` -/

section

variable (s : State) (x : Session)

@[simp] theorem State.setSession_now : (s.setSession x).now = s.now := rfl
@[simp] theorem State.setSession_sweep : (s.setSession x).sweep = s.sweep := rfl
@[simp] theorem State.setSession_nodeCfg : (s.setSession x).nodeCfg = s.nodeCfg := rfl
@[simp] theorem State.setSession_nodeRun : (s.setSession x).nodeRun = s.nodeRun := rfl
@[simp] theorem State.setSession_chanCfg : (s.setSession x).chanCfg = s.chanCfg := rfl
@[simp] theorem State.setSession_chanRun : (s.setSession x).chanRun = s.chanRun := rfl
@[simp] theorem State.setSession_settings : (s.setSession x).settings = s.settings := rfl
@[simp] theorem State.setSession_store : (s.setSession x).store = s.store := rfl
@[simp] theorem State.setSession_uplink : (s.setSession x).uplink = s.uplink := rfl
@[simp] theorem State.setSession_conf : (s.setSession x).conf = s.conf := rfl
@[simp] theorem State.setSession_links : (s.setSession x).links = s.links := rfl
@[simp] theorem State.setSession_trunk : (s.setSession x).trunk = s.trunk := rfl
@[simp] theorem State.setSession_relay : (s.setSession x).relay = s.relay := rfl
@[simp] theorem State.setSession_latch : (s.setSession x).latch = s.latch := rfl
@[simp] theorem State.setSession_bank : (s.setSession x).bank = s.bank := rfl
@[simp] theorem State.setSession_inbox : (s.setSession x).inbox = s.inbox := rfl
@[simp] theorem State.setSession_handed : (s.setSession x).handed = s.handed := rfl
@[simp] theorem State.setSession_notices : (s.setSession x).notices = s.notices := rfl
@[simp] theorem State.setSession_drops : (s.setSession x).drops = s.drops := rfl
@[simp] theorem State.setSession_choices : (s.setSession x).choices = s.choices := rfl
@[simp] theorem State.setSession_pending : (s.setSession x).pending = s.pending := rfl

end

/-! ### `takeHanded` -/

section

variable (s : State) (b : Bool) (payload : List Byte)

@[simp] theorem State.takeHanded_now : (s.takeHanded b payload).now = s.now := rfl
@[simp] theorem State.takeHanded_sweep : (s.takeHanded b payload).sweep = s.sweep := rfl
@[simp] theorem State.takeHanded_nodeCfg : (s.takeHanded b payload).nodeCfg = s.nodeCfg := rfl
@[simp] theorem State.takeHanded_nodeRun : (s.takeHanded b payload).nodeRun = s.nodeRun := rfl
@[simp] theorem State.takeHanded_chanCfg : (s.takeHanded b payload).chanCfg = s.chanCfg := rfl
@[simp] theorem State.takeHanded_chanRun : (s.takeHanded b payload).chanRun = s.chanRun := rfl
@[simp] theorem State.takeHanded_settings : (s.takeHanded b payload).settings = s.settings := rfl
@[simp] theorem State.takeHanded_store : (s.takeHanded b payload).store = s.store := rfl
@[simp] theorem State.takeHanded_uplink : (s.takeHanded b payload).uplink = s.uplink := rfl
@[simp] theorem State.takeHanded_conf : (s.takeHanded b payload).conf = s.conf := rfl
@[simp] theorem State.takeHanded_links : (s.takeHanded b payload).links = s.links := rfl
@[simp] theorem State.takeHanded_trunk : (s.takeHanded b payload).trunk = s.trunk := rfl
@[simp] theorem State.takeHanded_mgmt : (s.takeHanded b payload).mgmt = s.mgmt := rfl
@[simp] theorem State.takeHanded_relay : (s.takeHanded b payload).relay = s.relay := rfl
@[simp] theorem State.takeHanded_latch : (s.takeHanded b payload).latch = s.latch := rfl
@[simp] theorem State.takeHanded_bank : (s.takeHanded b payload).bank = s.bank := rfl
@[simp] theorem State.takeHanded_handed : (s.takeHanded b payload).handed = s.handed := rfl
@[simp] theorem State.takeHanded_notices : (s.takeHanded b payload).notices = s.notices := rfl
@[simp] theorem State.takeHanded_drops : (s.takeHanded b payload).drops = s.drops := rfl
@[simp] theorem State.takeHanded_choices : (s.takeHanded b payload).choices = s.choices := rfl
@[simp] theorem State.takeHanded_pending : (s.takeHanded b payload).pending = s.pending := rfl

end

/-! ### `dropChoice` -/

section

variable (s : State)

@[simp] theorem State.dropChoice_now : (s.dropChoice).now = s.now := rfl
@[simp] theorem State.dropChoice_sweep : (s.dropChoice).sweep = s.sweep := rfl
@[simp] theorem State.dropChoice_nodeCfg : (s.dropChoice).nodeCfg = s.nodeCfg := rfl
@[simp] theorem State.dropChoice_nodeRun : (s.dropChoice).nodeRun = s.nodeRun := rfl
@[simp] theorem State.dropChoice_chanCfg : (s.dropChoice).chanCfg = s.chanCfg := rfl
@[simp] theorem State.dropChoice_chanRun : (s.dropChoice).chanRun = s.chanRun := rfl
@[simp] theorem State.dropChoice_settings : (s.dropChoice).settings = s.settings := rfl
@[simp] theorem State.dropChoice_store : (s.dropChoice).store = s.store := rfl
@[simp] theorem State.dropChoice_uplink : (s.dropChoice).uplink = s.uplink := rfl
@[simp] theorem State.dropChoice_conf : (s.dropChoice).conf = s.conf := rfl
@[simp] theorem State.dropChoice_links : (s.dropChoice).links = s.links := rfl
@[simp] theorem State.dropChoice_trunk : (s.dropChoice).trunk = s.trunk := rfl
@[simp] theorem State.dropChoice_mgmt : (s.dropChoice).mgmt = s.mgmt := rfl
@[simp] theorem State.dropChoice_relay : (s.dropChoice).relay = s.relay := rfl
@[simp] theorem State.dropChoice_latch : (s.dropChoice).latch = s.latch := rfl
@[simp] theorem State.dropChoice_bank : (s.dropChoice).bank = s.bank := rfl
@[simp] theorem State.dropChoice_inbox : (s.dropChoice).inbox = s.inbox := rfl
@[simp] theorem State.dropChoice_handed : (s.dropChoice).handed = s.handed := rfl
@[simp] theorem State.dropChoice_notices : (s.dropChoice).notices = s.notices := rfl
@[simp] theorem State.dropChoice_drops : (s.dropChoice).drops = s.drops := rfl
@[simp] theorem State.dropChoice_pending : (s.dropChoice).pending = s.pending := rfl

end

/-! ### `clearFlight` -/

section

variable (s : State)

@[simp] theorem State.clearFlight_now : (s.clearFlight).now = s.now := rfl
@[simp] theorem State.clearFlight_sweep : (s.clearFlight).sweep = s.sweep := rfl
@[simp] theorem State.clearFlight_nodeCfg : (s.clearFlight).nodeCfg = s.nodeCfg := rfl
@[simp] theorem State.clearFlight_nodeRun : (s.clearFlight).nodeRun = s.nodeRun := rfl
@[simp] theorem State.clearFlight_chanCfg : (s.clearFlight).chanCfg = s.chanCfg := rfl
@[simp] theorem State.clearFlight_chanRun : (s.clearFlight).chanRun = s.chanRun := rfl
@[simp] theorem State.clearFlight_settings : (s.clearFlight).settings = s.settings := rfl
@[simp] theorem State.clearFlight_store : (s.clearFlight).store = s.store := rfl
@[simp] theorem State.clearFlight_conf : (s.clearFlight).conf = s.conf := rfl
@[simp] theorem State.clearFlight_links : (s.clearFlight).links = s.links := rfl
@[simp] theorem State.clearFlight_trunk : (s.clearFlight).trunk = s.trunk := rfl
@[simp] theorem State.clearFlight_mgmt : (s.clearFlight).mgmt = s.mgmt := rfl
@[simp] theorem State.clearFlight_relay : (s.clearFlight).relay = s.relay := rfl
@[simp] theorem State.clearFlight_latch : (s.clearFlight).latch = s.latch := rfl
@[simp] theorem State.clearFlight_bank : (s.clearFlight).bank = s.bank := rfl
@[simp] theorem State.clearFlight_inbox : (s.clearFlight).inbox = s.inbox := rfl
@[simp] theorem State.clearFlight_handed : (s.clearFlight).handed = s.handed := rfl
@[simp] theorem State.clearFlight_notices : (s.clearFlight).notices = s.notices := rfl
@[simp] theorem State.clearFlight_drops : (s.clearFlight).drops = s.drops := rfl
@[simp] theorem State.clearFlight_choices : (s.clearFlight).choices = s.choices := rfl
@[simp] theorem State.clearFlight_pending : (s.clearFlight).pending = s.pending := rfl

end

/-! ### `setEntry` -/

section

variable (s : State) (e : Entry)

@[simp] theorem State.setEntry_now : (s.setEntry e).now = s.now := rfl
@[simp] theorem State.setEntry_sweep : (s.setEntry e).sweep = s.sweep := rfl
@[simp] theorem State.setEntry_nodeCfg : (s.setEntry e).nodeCfg = s.nodeCfg := rfl
@[simp] theorem State.setEntry_nodeRun : (s.setEntry e).nodeRun = s.nodeRun := rfl
@[simp] theorem State.setEntry_chanCfg : (s.setEntry e).chanCfg = s.chanCfg := rfl
@[simp] theorem State.setEntry_chanRun : (s.setEntry e).chanRun = s.chanRun := rfl
@[simp] theorem State.setEntry_settings : (s.setEntry e).settings = s.settings := rfl
@[simp] theorem State.setEntry_store : (s.setEntry e).store = s.store := rfl
@[simp] theorem State.setEntry_uplink : (s.setEntry e).uplink = s.uplink := rfl
@[simp] theorem State.setEntry_links : (s.setEntry e).links = s.links := rfl
@[simp] theorem State.setEntry_trunk : (s.setEntry e).trunk = s.trunk := rfl
@[simp] theorem State.setEntry_mgmt : (s.setEntry e).mgmt = s.mgmt := rfl
@[simp] theorem State.setEntry_relay : (s.setEntry e).relay = s.relay := rfl
@[simp] theorem State.setEntry_latch : (s.setEntry e).latch = s.latch := rfl
@[simp] theorem State.setEntry_bank : (s.setEntry e).bank = s.bank := rfl
@[simp] theorem State.setEntry_inbox : (s.setEntry e).inbox = s.inbox := rfl
@[simp] theorem State.setEntry_handed : (s.setEntry e).handed = s.handed := rfl
@[simp] theorem State.setEntry_notices : (s.setEntry e).notices = s.notices := rfl
@[simp] theorem State.setEntry_drops : (s.setEntry e).drops = s.drops := rfl
@[simp] theorem State.setEntry_choices : (s.setEntry e).choices = s.choices := rfl
@[simp] theorem State.setEntry_pending : (s.setEntry e).pending = s.pending := rfl

end

/-! ### `addEntry` -/

section

variable (s : State) (r : Report)

@[simp] theorem State.addEntry_now : (s.addEntry r).now = s.now := rfl
@[simp] theorem State.addEntry_sweep : (s.addEntry r).sweep = s.sweep := rfl
@[simp] theorem State.addEntry_nodeCfg : (s.addEntry r).nodeCfg = s.nodeCfg := rfl
@[simp] theorem State.addEntry_nodeRun : (s.addEntry r).nodeRun = s.nodeRun := rfl
@[simp] theorem State.addEntry_chanCfg : (s.addEntry r).chanCfg = s.chanCfg := rfl
@[simp] theorem State.addEntry_chanRun : (s.addEntry r).chanRun = s.chanRun := rfl
@[simp] theorem State.addEntry_settings : (s.addEntry r).settings = s.settings := rfl
@[simp] theorem State.addEntry_store : (s.addEntry r).store = s.store := rfl
@[simp] theorem State.addEntry_uplink : (s.addEntry r).uplink = s.uplink := rfl
@[simp] theorem State.addEntry_links : (s.addEntry r).links = s.links := rfl
@[simp] theorem State.addEntry_trunk : (s.addEntry r).trunk = s.trunk := rfl
@[simp] theorem State.addEntry_mgmt : (s.addEntry r).mgmt = s.mgmt := rfl
@[simp] theorem State.addEntry_relay : (s.addEntry r).relay = s.relay := rfl
@[simp] theorem State.addEntry_latch : (s.addEntry r).latch = s.latch := rfl
@[simp] theorem State.addEntry_bank : (s.addEntry r).bank = s.bank := rfl
@[simp] theorem State.addEntry_inbox : (s.addEntry r).inbox = s.inbox := rfl
@[simp] theorem State.addEntry_handed : (s.addEntry r).handed = s.handed := rfl
@[simp] theorem State.addEntry_notices : (s.addEntry r).notices = s.notices := rfl
@[simp] theorem State.addEntry_drops : (s.addEntry r).drops = s.drops := rfl
@[simp] theorem State.addEntry_choices : (s.addEntry r).choices = s.choices := rfl
@[simp] theorem State.addEntry_pending : (s.addEntry r).pending = s.pending := rfl

end

/-! ### `makeDue` -/

section

variable (s : State) (e : Entry)

@[simp] theorem State.makeDue_now : (s.makeDue e).now = s.now := rfl
@[simp] theorem State.makeDue_sweep : (s.makeDue e).sweep = s.sweep := rfl
@[simp] theorem State.makeDue_nodeCfg : (s.makeDue e).nodeCfg = s.nodeCfg := rfl
@[simp] theorem State.makeDue_nodeRun : (s.makeDue e).nodeRun = s.nodeRun := rfl
@[simp] theorem State.makeDue_chanCfg : (s.makeDue e).chanCfg = s.chanCfg := rfl
@[simp] theorem State.makeDue_chanRun : (s.makeDue e).chanRun = s.chanRun := rfl
@[simp] theorem State.makeDue_settings : (s.makeDue e).settings = s.settings := rfl
@[simp] theorem State.makeDue_store : (s.makeDue e).store = s.store := rfl
@[simp] theorem State.makeDue_uplink : (s.makeDue e).uplink = s.uplink := rfl
@[simp] theorem State.makeDue_links : (s.makeDue e).links = s.links := rfl
@[simp] theorem State.makeDue_trunk : (s.makeDue e).trunk = s.trunk := rfl
@[simp] theorem State.makeDue_mgmt : (s.makeDue e).mgmt = s.mgmt := rfl
@[simp] theorem State.makeDue_relay : (s.makeDue e).relay = s.relay := rfl
@[simp] theorem State.makeDue_latch : (s.makeDue e).latch = s.latch := rfl
@[simp] theorem State.makeDue_bank : (s.makeDue e).bank = s.bank := rfl
@[simp] theorem State.makeDue_inbox : (s.makeDue e).inbox = s.inbox := rfl
@[simp] theorem State.makeDue_handed : (s.makeDue e).handed = s.handed := rfl
@[simp] theorem State.makeDue_notices : (s.makeDue e).notices = s.notices := rfl
@[simp] theorem State.makeDue_drops : (s.makeDue e).drops = s.drops := rfl
@[simp] theorem State.makeDue_choices : (s.makeDue e).choices = s.choices := rfl
@[simp] theorem State.makeDue_pending : (s.makeDue e).pending = s.pending := rfl

end

/-! ### `trigger` -/

section

variable (s : State) (number : Word)

@[simp] theorem State.trigger_now : (s.trigger number).now = s.now := rfl
@[simp] theorem State.trigger_nodeCfg : (s.trigger number).nodeCfg = s.nodeCfg := rfl
@[simp] theorem State.trigger_nodeRun : (s.trigger number).nodeRun = s.nodeRun := rfl
@[simp] theorem State.trigger_chanCfg : (s.trigger number).chanCfg = s.chanCfg := rfl
@[simp] theorem State.trigger_chanRun : (s.trigger number).chanRun = s.chanRun := rfl
@[simp] theorem State.trigger_settings : (s.trigger number).settings = s.settings := rfl
@[simp] theorem State.trigger_store : (s.trigger number).store = s.store := rfl
@[simp] theorem State.trigger_uplink : (s.trigger number).uplink = s.uplink := rfl
@[simp] theorem State.trigger_conf : (s.trigger number).conf = s.conf := rfl
@[simp] theorem State.trigger_links : (s.trigger number).links = s.links := rfl
@[simp] theorem State.trigger_trunk : (s.trigger number).trunk = s.trunk := rfl
@[simp] theorem State.trigger_mgmt : (s.trigger number).mgmt = s.mgmt := rfl
@[simp] theorem State.trigger_relay : (s.trigger number).relay = s.relay := rfl
@[simp] theorem State.trigger_latch : (s.trigger number).latch = s.latch := rfl
@[simp] theorem State.trigger_bank : (s.trigger number).bank = s.bank := rfl
@[simp] theorem State.trigger_inbox : (s.trigger number).inbox = s.inbox := rfl
@[simp] theorem State.trigger_handed : (s.trigger number).handed = s.handed := rfl
@[simp] theorem State.trigger_notices : (s.trigger number).notices = s.notices := rfl
@[simp] theorem State.trigger_drops : (s.trigger number).drops = s.drops := rfl
@[simp] theorem State.trigger_choices : (s.trigger number).choices = s.choices := rfl
@[simp] theorem State.trigger_pending : (s.trigger number).pending = s.pending := rfl

end

/-! ### `becomeStopped` -/

section

variable (s : State)

@[simp] theorem State.becomeStopped_now : (s.becomeStopped).now = s.now := rfl
@[simp] theorem State.becomeStopped_nodeCfg : (s.becomeStopped).nodeCfg = s.nodeCfg := rfl
@[simp] theorem State.becomeStopped_nodeRun : (s.becomeStopped).nodeRun = s.nodeRun := rfl
@[simp] theorem State.becomeStopped_chanCfg : (s.becomeStopped).chanCfg = s.chanCfg := rfl
@[simp] theorem State.becomeStopped_chanRun : (s.becomeStopped).chanRun = s.chanRun := rfl
@[simp] theorem State.becomeStopped_settings : (s.becomeStopped).settings = s.settings := rfl
@[simp] theorem State.becomeStopped_store : (s.becomeStopped).store = s.store := rfl
@[simp] theorem State.becomeStopped_uplink : (s.becomeStopped).uplink = s.uplink := rfl
@[simp] theorem State.becomeStopped_conf : (s.becomeStopped).conf = s.conf := rfl
@[simp] theorem State.becomeStopped_links : (s.becomeStopped).links = s.links := rfl
@[simp] theorem State.becomeStopped_trunk : (s.becomeStopped).trunk = s.trunk := rfl
@[simp] theorem State.becomeStopped_mgmt : (s.becomeStopped).mgmt = s.mgmt := rfl
@[simp] theorem State.becomeStopped_relay : (s.becomeStopped).relay = s.relay := rfl
@[simp] theorem State.becomeStopped_latch : (s.becomeStopped).latch = s.latch := rfl
@[simp] theorem State.becomeStopped_bank : (s.becomeStopped).bank = s.bank := rfl
@[simp] theorem State.becomeStopped_inbox : (s.becomeStopped).inbox = s.inbox := rfl
@[simp] theorem State.becomeStopped_handed : (s.becomeStopped).handed = s.handed := rfl
@[simp] theorem State.becomeStopped_notices : (s.becomeStopped).notices = s.notices := rfl
@[simp] theorem State.becomeStopped_drops : (s.becomeStopped).drops = s.drops := rfl
@[simp] theorem State.becomeStopped_choices : (s.becomeStopped).choices = s.choices := rfl
@[simp] theorem State.becomeStopped_pending : (s.becomeStopped).pending = s.pending := rfl

end

/-! ### `becomeQuiet` -/

section

variable (s : State)

@[simp] theorem State.becomeQuiet_now : (s.becomeQuiet).now = s.now := rfl
@[simp] theorem State.becomeQuiet_nodeCfg : (s.becomeQuiet).nodeCfg = s.nodeCfg := rfl
@[simp] theorem State.becomeQuiet_nodeRun : (s.becomeQuiet).nodeRun = s.nodeRun := rfl
@[simp] theorem State.becomeQuiet_chanCfg : (s.becomeQuiet).chanCfg = s.chanCfg := rfl
@[simp] theorem State.becomeQuiet_chanRun : (s.becomeQuiet).chanRun = s.chanRun := rfl
@[simp] theorem State.becomeQuiet_settings : (s.becomeQuiet).settings = s.settings := rfl
@[simp] theorem State.becomeQuiet_store : (s.becomeQuiet).store = s.store := rfl
@[simp] theorem State.becomeQuiet_uplink : (s.becomeQuiet).uplink = s.uplink := rfl
@[simp] theorem State.becomeQuiet_conf : (s.becomeQuiet).conf = s.conf := rfl
@[simp] theorem State.becomeQuiet_links : (s.becomeQuiet).links = s.links := rfl
@[simp] theorem State.becomeQuiet_trunk : (s.becomeQuiet).trunk = s.trunk := rfl
@[simp] theorem State.becomeQuiet_mgmt : (s.becomeQuiet).mgmt = s.mgmt := rfl
@[simp] theorem State.becomeQuiet_relay : (s.becomeQuiet).relay = s.relay := rfl
@[simp] theorem State.becomeQuiet_latch : (s.becomeQuiet).latch = s.latch := rfl
@[simp] theorem State.becomeQuiet_bank : (s.becomeQuiet).bank = s.bank := rfl
@[simp] theorem State.becomeQuiet_inbox : (s.becomeQuiet).inbox = s.inbox := rfl
@[simp] theorem State.becomeQuiet_handed : (s.becomeQuiet).handed = s.handed := rfl
@[simp] theorem State.becomeQuiet_notices : (s.becomeQuiet).notices = s.notices := rfl
@[simp] theorem State.becomeQuiet_drops : (s.becomeQuiet).drops = s.drops := rfl
@[simp] theorem State.becomeQuiet_choices : (s.becomeQuiet).choices = s.choices := rfl
@[simp] theorem State.becomeQuiet_pending : (s.becomeQuiet).pending = s.pending := rfl

end

/-! ### `startSupervision` -/

section

variable (s : State)

@[simp] theorem State.startSupervision_now : (s.startSupervision).now = s.now := rfl
@[simp] theorem State.startSupervision_nodeCfg : (s.startSupervision).nodeCfg = s.nodeCfg := rfl
@[simp] theorem State.startSupervision_nodeRun : (s.startSupervision).nodeRun = s.nodeRun := rfl
@[simp] theorem State.startSupervision_chanCfg : (s.startSupervision).chanCfg = s.chanCfg := rfl
@[simp] theorem State.startSupervision_chanRun : (s.startSupervision).chanRun = s.chanRun := rfl
@[simp] theorem State.startSupervision_settings : (s.startSupervision).settings = s.settings := rfl
@[simp] theorem State.startSupervision_store : (s.startSupervision).store = s.store := rfl
@[simp] theorem State.startSupervision_uplink : (s.startSupervision).uplink = s.uplink := rfl
@[simp] theorem State.startSupervision_conf : (s.startSupervision).conf = s.conf := rfl
@[simp] theorem State.startSupervision_links : (s.startSupervision).links = s.links := rfl
@[simp] theorem State.startSupervision_trunk : (s.startSupervision).trunk = s.trunk := rfl
@[simp] theorem State.startSupervision_mgmt : (s.startSupervision).mgmt = s.mgmt := rfl
@[simp] theorem State.startSupervision_relay : (s.startSupervision).relay = s.relay := rfl
@[simp] theorem State.startSupervision_latch : (s.startSupervision).latch = s.latch := rfl
@[simp] theorem State.startSupervision_bank : (s.startSupervision).bank = s.bank := rfl
@[simp] theorem State.startSupervision_inbox : (s.startSupervision).inbox = s.inbox := rfl
@[simp] theorem State.startSupervision_handed : (s.startSupervision).handed = s.handed := rfl
@[simp] theorem State.startSupervision_notices : (s.startSupervision).notices = s.notices := rfl
@[simp] theorem State.startSupervision_drops : (s.startSupervision).drops = s.drops := rfl
@[simp] theorem State.startSupervision_choices : (s.startSupervision).choices = s.choices := rfl
@[simp] theorem State.startSupervision_pending : (s.startSupervision).pending = s.pending := rfl

end

/-! ### `stopSupervision` -/

section

variable (s : State)

@[simp] theorem State.stopSupervision_now : (s.stopSupervision).now = s.now := rfl
@[simp] theorem State.stopSupervision_nodeCfg : (s.stopSupervision).nodeCfg = s.nodeCfg := rfl
@[simp] theorem State.stopSupervision_nodeRun : (s.stopSupervision).nodeRun = s.nodeRun := rfl
@[simp] theorem State.stopSupervision_chanCfg : (s.stopSupervision).chanCfg = s.chanCfg := rfl
@[simp] theorem State.stopSupervision_chanRun : (s.stopSupervision).chanRun = s.chanRun := rfl
@[simp] theorem State.stopSupervision_settings : (s.stopSupervision).settings = s.settings := rfl
@[simp] theorem State.stopSupervision_store : (s.stopSupervision).store = s.store := rfl
@[simp] theorem State.stopSupervision_uplink : (s.stopSupervision).uplink = s.uplink := rfl
@[simp] theorem State.stopSupervision_conf : (s.stopSupervision).conf = s.conf := rfl
@[simp] theorem State.stopSupervision_links : (s.stopSupervision).links = s.links := rfl
@[simp] theorem State.stopSupervision_trunk : (s.stopSupervision).trunk = s.trunk := rfl
@[simp] theorem State.stopSupervision_mgmt : (s.stopSupervision).mgmt = s.mgmt := rfl
@[simp] theorem State.stopSupervision_relay : (s.stopSupervision).relay = s.relay := rfl
@[simp] theorem State.stopSupervision_latch : (s.stopSupervision).latch = s.latch := rfl
@[simp] theorem State.stopSupervision_bank : (s.stopSupervision).bank = s.bank := rfl
@[simp] theorem State.stopSupervision_inbox : (s.stopSupervision).inbox = s.inbox := rfl
@[simp] theorem State.stopSupervision_handed : (s.stopSupervision).handed = s.handed := rfl
@[simp] theorem State.stopSupervision_notices : (s.stopSupervision).notices = s.notices := rfl
@[simp] theorem State.stopSupervision_drops : (s.stopSupervision).drops = s.drops := rfl
@[simp] theorem State.stopSupervision_choices : (s.stopSupervision).choices = s.choices := rfl
@[simp] theorem State.stopSupervision_pending : (s.stopSupervision).pending = s.pending := rfl

end

/-! ### `endCollection` -/

section

variable (s : State)

@[simp] theorem State.endCollection_now : (s.endCollection).now = s.now := rfl
@[simp] theorem State.endCollection_nodeCfg : (s.endCollection).nodeCfg = s.nodeCfg := rfl
@[simp] theorem State.endCollection_nodeRun : (s.endCollection).nodeRun = s.nodeRun := rfl
@[simp] theorem State.endCollection_chanCfg : (s.endCollection).chanCfg = s.chanCfg := rfl
@[simp] theorem State.endCollection_chanRun : (s.endCollection).chanRun = s.chanRun := rfl
@[simp] theorem State.endCollection_settings : (s.endCollection).settings = s.settings := rfl
@[simp] theorem State.endCollection_store : (s.endCollection).store = s.store := rfl
@[simp] theorem State.endCollection_uplink : (s.endCollection).uplink = s.uplink := rfl
@[simp] theorem State.endCollection_conf : (s.endCollection).conf = s.conf := rfl
@[simp] theorem State.endCollection_links : (s.endCollection).links = s.links := rfl
@[simp] theorem State.endCollection_trunk : (s.endCollection).trunk = s.trunk := rfl
@[simp] theorem State.endCollection_mgmt : (s.endCollection).mgmt = s.mgmt := rfl
@[simp] theorem State.endCollection_relay : (s.endCollection).relay = s.relay := rfl
@[simp] theorem State.endCollection_latch : (s.endCollection).latch = s.latch := rfl
@[simp] theorem State.endCollection_bank : (s.endCollection).bank = s.bank := rfl
@[simp] theorem State.endCollection_inbox : (s.endCollection).inbox = s.inbox := rfl
@[simp] theorem State.endCollection_handed : (s.endCollection).handed = s.handed := rfl
@[simp] theorem State.endCollection_notices : (s.endCollection).notices = s.notices := rfl
@[simp] theorem State.endCollection_drops : (s.endCollection).drops = s.drops := rfl
@[simp] theorem State.endCollection_choices : (s.endCollection).choices = s.choices := rfl
@[simp] theorem State.endCollection_pending : (s.endCollection).pending = s.pending := rfl

end

/-! ### `unlatch` -/

section

variable (s : State) (set : Word)

@[simp] theorem State.unlatch_now : (s.unlatch set).now = s.now := rfl
@[simp] theorem State.unlatch_sweep : (s.unlatch set).sweep = s.sweep := rfl
@[simp] theorem State.unlatch_nodeCfg : (s.unlatch set).nodeCfg = s.nodeCfg := rfl
@[simp] theorem State.unlatch_nodeRun : (s.unlatch set).nodeRun = s.nodeRun := rfl
@[simp] theorem State.unlatch_chanCfg : (s.unlatch set).chanCfg = s.chanCfg := rfl
@[simp] theorem State.unlatch_chanRun : (s.unlatch set).chanRun = s.chanRun := rfl
@[simp] theorem State.unlatch_settings : (s.unlatch set).settings = s.settings := rfl
@[simp] theorem State.unlatch_store : (s.unlatch set).store = s.store := rfl
@[simp] theorem State.unlatch_uplink : (s.unlatch set).uplink = s.uplink := rfl
@[simp] theorem State.unlatch_conf : (s.unlatch set).conf = s.conf := rfl
@[simp] theorem State.unlatch_links : (s.unlatch set).links = s.links := rfl
@[simp] theorem State.unlatch_trunk : (s.unlatch set).trunk = s.trunk := rfl
@[simp] theorem State.unlatch_mgmt : (s.unlatch set).mgmt = s.mgmt := rfl
@[simp] theorem State.unlatch_relay : (s.unlatch set).relay = s.relay := rfl
@[simp] theorem State.unlatch_bank : (s.unlatch set).bank = s.bank := rfl
@[simp] theorem State.unlatch_inbox : (s.unlatch set).inbox = s.inbox := rfl
@[simp] theorem State.unlatch_handed : (s.unlatch set).handed = s.handed := rfl
@[simp] theorem State.unlatch_notices : (s.unlatch set).notices = s.notices := rfl
@[simp] theorem State.unlatch_drops : (s.unlatch set).drops = s.drops := rfl
@[simp] theorem State.unlatch_choices : (s.unlatch set).choices = s.choices := rfl
@[simp] theorem State.unlatch_pending : (s.unlatch set).pending = s.pending := rfl

end

/-! ### `unassign` -/

section

variable (s : State)

@[simp] theorem State.unassign_now : (s.unassign).now = s.now := rfl
@[simp] theorem State.unassign_sweep : (s.unassign).sweep = s.sweep := rfl
@[simp] theorem State.unassign_nodeCfg : (s.unassign).nodeCfg = s.nodeCfg := rfl
@[simp] theorem State.unassign_nodeRun : (s.unassign).nodeRun = s.nodeRun := rfl
@[simp] theorem State.unassign_chanCfg : (s.unassign).chanCfg = s.chanCfg := rfl
@[simp] theorem State.unassign_chanRun : (s.unassign).chanRun = s.chanRun := rfl
@[simp] theorem State.unassign_settings : (s.unassign).settings = s.settings := rfl
@[simp] theorem State.unassign_store : (s.unassign).store = s.store := rfl
@[simp] theorem State.unassign_uplink : (s.unassign).uplink = s.uplink := rfl
@[simp] theorem State.unassign_conf : (s.unassign).conf = s.conf := rfl
@[simp] theorem State.unassign_links : (s.unassign).links = s.links := rfl
@[simp] theorem State.unassign_mgmt : (s.unassign).mgmt = s.mgmt := rfl
@[simp] theorem State.unassign_relay : (s.unassign).relay = s.relay := rfl
@[simp] theorem State.unassign_latch : (s.unassign).latch = s.latch := rfl
@[simp] theorem State.unassign_bank : (s.unassign).bank = s.bank := rfl
@[simp] theorem State.unassign_inbox : (s.unassign).inbox = s.inbox := rfl
@[simp] theorem State.unassign_handed : (s.unassign).handed = s.handed := rfl
@[simp] theorem State.unassign_notices : (s.unassign).notices = s.notices := rfl
@[simp] theorem State.unassign_drops : (s.unassign).drops = s.drops := rfl
@[simp] theorem State.unassign_choices : (s.unassign).choices = s.choices := rfl
@[simp] theorem State.unassign_pending : (s.unassign).pending = s.pending := rfl

end

/-! ### The fields that the updates write -/

@[simp] theorem State.setLink_links (s : State) (p : Port) (lp : LinkPort) : (s.setLink p lp).links = s.links.set p lp := rfl
@[simp] theorem State.startTx_links (s : State) (p : Port) (bytes : List Byte) (owner : Owner) :
    (s.startTx p bytes owner).links = s.links.set p { s.link p with tx := some ⟨bytes, owner, 0⟩ } := rfl
@[simp] theorem State.transmit_links (s : State) (supplied : PerPort Nat) :
    (s.transmit supplied).links = ⟨s.links.tu.transmit .tu supplied.tu, s.links.td.transmit .td supplied.td,
      s.links.sg.transmit .sg supplied.sg⟩ := rfl
@[simp] theorem State.setQueue_free (s : State) (k : ReportClass) (q : List Report) : (s.setQueue k q).store.free = s.store.free := rfl
@[simp] theorem State.setQueue_cq (s : State) (k : ReportClass) (q : List Report) : (s.setQueue k q).store.cq = s.store.cq.set k q := rfl
@[simp] theorem State.setNodeRun_nodeRun (s : State) (i : Fin 24) (r : NodeRuntime) : (s.setNodeRun i r).nodeRun = s.nodeRun.set i r := rfl
@[simp] theorem State.setChanRun_chanRun (s : State) (c : Fin 256) (r : ChanRuntime) : (s.setChanRun c r).chanRun = s.chanRun.set c r := rfl
@[simp] theorem State.pushMq_items (s : State) (i : MqItem) : (s.pushMq i).mgmt.items = s.mgmt.items ++ [i] := rfl
@[simp] theorem State.pushMq_reserved (s : State) (i : MqItem) : (s.pushMq i).mgmt.reserved = s.mgmt.reserved := rfl
@[simp] theorem State.pushMq_session (s : State) (i : MqItem) : (s.pushMq i).mgmt.session = s.mgmt.session := rfl
@[simp] theorem State.pushMq_resetPending (s : State) (i : MqItem) : (s.pushMq i).mgmt.resetPending = s.mgmt.resetPending := rfl
@[simp] theorem State.reserve_items (s : State) (tag code : Byte) : (s.reserve tag code).mgmt.items = s.mgmt.items := rfl
@[simp] theorem State.reserve_reserved (s : State) (tag code : Byte) :
    (s.reserve tag code).mgmt.reserved = ⟨tag, code⟩ :: s.mgmt.reserved := rfl
@[simp] theorem State.reserve_session (s : State) (tag code : Byte) : (s.reserve tag code).mgmt.session = s.mgmt.session := rfl
@[simp] theorem State.reserve_resetPending (s : State) (tag code : Byte) :
    (s.reserve tag code).mgmt.resetPending = s.mgmt.resetPending := rfl
@[simp] theorem State.setSession_session (s : State) (x : Session) : (s.setSession x).mgmt.session = x := rfl
@[simp] theorem State.setSession_items (s : State) (x : Session) : (s.setSession x).mgmt.items = s.mgmt.items := rfl
@[simp] theorem State.setSession_reserved (s : State) (x : Session) : (s.setSession x).mgmt.reserved = s.mgmt.reserved := rfl
@[simp] theorem State.setSession_resetPending (s : State) (x : Session) :
    (s.setSession x).mgmt.resetPending = s.mgmt.resetPending := rfl
@[simp] theorem State.clearFlight_flight (s : State) : s.clearFlight.uplink.flight = none := rfl
@[simp] theorem State.dropChoice_choices (s : State) : s.dropChoice.choices = s.choices.tail := rfl
@[simp] theorem State.trigger_state (s : State) (n : Word) : (s.trigger n).sweep.state = .collecting := rfl
@[simp] theorem State.trigger_number (s : State) (n : Word) : (s.trigger n).sweep.number = n := rfl
@[simp] theorem State.trigger_window (s : State) (n : Word) : (s.trigger n).sweep.window = some s.settings.window := rfl
@[simp] theorem State.trigger_lastTrigger (s : State) (n : Word) : (s.trigger n).sweep.lastTrigger = some s.now := rfl
@[simp] theorem State.becomeStopped_state (s : State) : s.becomeStopped.sweep.state = .stopped := rfl
@[simp] theorem State.becomeQuiet_state (s : State) : s.becomeQuiet.sweep.state = .quiet := rfl
@[simp] theorem State.endCollection_state (s : State) : s.endCollection.sweep.state = s.sweep.state := rfl
@[simp] theorem State.endCollection_number (s : State) : s.endCollection.sweep.number = s.sweep.number := rfl

end Sys2Proof.Machine
end

