-- ==== Sys2Proof/Laws/Frames.lean ====
section
/-! SUPPORT. The frame of each shared operation: the fields it leaves as they were, one lemma per field. -/

namespace Sys2Proof.Machine

/-- A fold of an operation that keeps a value keeps it. -/
theorem State.foldl_keeps {α β : Type} (f : State → β) (g : State → α → State) (h : ∀ s x, f (g s x) = f s)
    (l : List α) (s : State) : f (l.foldl g s) = f s := by
  induction l generalizing s with
  | nil => rfl
  | cons x rest ih => rw [List.foldl_cons, ih, h]

/-! ### `offerMq` -/

section

variable (s : State) (i : MqItem)

@[simp] theorem State.offerMq_now : (s.offerMq i).now = s.now := by
  unfold State.offerMq; split <;> rfl
@[simp] theorem State.offerMq_sweep : (s.offerMq i).sweep = s.sweep := by
  unfold State.offerMq; split <;> rfl
@[simp] theorem State.offerMq_nodeCfg : (s.offerMq i).nodeCfg = s.nodeCfg := by
  unfold State.offerMq; split <;> rfl
@[simp] theorem State.offerMq_nodeRun : (s.offerMq i).nodeRun = s.nodeRun := by
  unfold State.offerMq; split <;> rfl
@[simp] theorem State.offerMq_chanCfg : (s.offerMq i).chanCfg = s.chanCfg := by
  unfold State.offerMq; split <;> rfl
@[simp] theorem State.offerMq_chanRun : (s.offerMq i).chanRun = s.chanRun := by
  unfold State.offerMq; split <;> rfl
@[simp] theorem State.offerMq_settings : (s.offerMq i).settings = s.settings := by
  unfold State.offerMq; split <;> rfl
@[simp] theorem State.offerMq_store : (s.offerMq i).store = s.store := by
  unfold State.offerMq; split <;> rfl
@[simp] theorem State.offerMq_uplink : (s.offerMq i).uplink = s.uplink := by
  unfold State.offerMq; split <;> rfl
@[simp] theorem State.offerMq_conf : (s.offerMq i).conf = s.conf := by
  unfold State.offerMq; split <;> rfl
@[simp] theorem State.offerMq_links : (s.offerMq i).links = s.links := by
  unfold State.offerMq; split <;> rfl
@[simp] theorem State.offerMq_trunk : (s.offerMq i).trunk = s.trunk := by
  unfold State.offerMq; split <;> rfl
@[simp] theorem State.offerMq_relay : (s.offerMq i).relay = s.relay := by
  unfold State.offerMq; split <;> rfl
@[simp] theorem State.offerMq_latch : (s.offerMq i).latch = s.latch := by
  unfold State.offerMq; split <;> rfl
@[simp] theorem State.offerMq_inbox : (s.offerMq i).inbox = s.inbox := by
  unfold State.offerMq; split <;> rfl
@[simp] theorem State.offerMq_handed : (s.offerMq i).handed = s.handed := by
  unfold State.offerMq; split <;> rfl
@[simp] theorem State.offerMq_notices : (s.offerMq i).notices = s.notices := by
  unfold State.offerMq; split <;> rfl
@[simp] theorem State.offerMq_drops : (s.offerMq i).drops = s.drops := by
  unfold State.offerMq; split <;> rfl
@[simp] theorem State.offerMq_choices : (s.offerMq i).choices = s.choices := by
  unfold State.offerMq; split <;> rfl
@[simp] theorem State.offerMq_pending : (s.offerMq i).pending = s.pending := by
  unfold State.offerMq; split <;> rfl

end

/-! ### `raise` -/

section

variable (s : State) (k : EventKind) (detail : Byte) (sweep : Word)

@[simp] theorem State.raise_now : (s.raise k detail sweep).now = s.now := by
  unfold State.raise; split
  · rfl
  · dsimp only; split <;> simp
@[simp] theorem State.raise_sweep : (s.raise k detail sweep).sweep = s.sweep := by
  unfold State.raise; split
  · rfl
  · dsimp only; split <;> simp
@[simp] theorem State.raise_nodeCfg : (s.raise k detail sweep).nodeCfg = s.nodeCfg := by
  unfold State.raise; split
  · rfl
  · dsimp only; split <;> simp
@[simp] theorem State.raise_nodeRun : (s.raise k detail sweep).nodeRun = s.nodeRun := by
  unfold State.raise; split
  · rfl
  · dsimp only; split <;> simp
@[simp] theorem State.raise_chanCfg : (s.raise k detail sweep).chanCfg = s.chanCfg := by
  unfold State.raise; split
  · rfl
  · dsimp only; split <;> simp
@[simp] theorem State.raise_chanRun : (s.raise k detail sweep).chanRun = s.chanRun := by
  unfold State.raise; split
  · rfl
  · dsimp only; split <;> simp
@[simp] theorem State.raise_settings : (s.raise k detail sweep).settings = s.settings := by
  unfold State.raise; split
  · rfl
  · dsimp only; split <;> simp
@[simp] theorem State.raise_store : (s.raise k detail sweep).store = s.store := by
  unfold State.raise; split
  · rfl
  · dsimp only; split <;> simp
@[simp] theorem State.raise_uplink : (s.raise k detail sweep).uplink = s.uplink := by
  unfold State.raise; split
  · rfl
  · dsimp only; split <;> simp
@[simp] theorem State.raise_conf : (s.raise k detail sweep).conf = s.conf := by
  unfold State.raise; split
  · rfl
  · dsimp only; split <;> simp
@[simp] theorem State.raise_links : (s.raise k detail sweep).links = s.links := by
  unfold State.raise; split
  · rfl
  · dsimp only; split <;> simp
@[simp] theorem State.raise_trunk : (s.raise k detail sweep).trunk = s.trunk := by
  unfold State.raise; split
  · rfl
  · dsimp only; split <;> simp
@[simp] theorem State.raise_relay : (s.raise k detail sweep).relay = s.relay := by
  unfold State.raise; split
  · rfl
  · dsimp only; split <;> simp
@[simp] theorem State.raise_inbox : (s.raise k detail sweep).inbox = s.inbox := by
  unfold State.raise; split
  · rfl
  · dsimp only; split <;> simp
@[simp] theorem State.raise_handed : (s.raise k detail sweep).handed = s.handed := by
  unfold State.raise; split
  · rfl
  · dsimp only; split <;> simp
@[simp] theorem State.raise_notices : (s.raise k detail sweep).notices = s.notices := by
  unfold State.raise; split
  · rfl
  · dsimp only; split <;> simp
@[simp] theorem State.raise_drops : (s.raise k detail sweep).drops = s.drops := by
  unfold State.raise; split
  · rfl
  · dsimp only; split <;> simp
@[simp] theorem State.raise_choices : (s.raise k detail sweep).choices = s.choices := by
  unfold State.raise; split
  · rfl
  · dsimp only; split <;> simp
@[simp] theorem State.raise_pending : (s.raise k detail sweep).pending = s.pending := by
  unfold State.raise; split
  · rfl
  · dsimp only; split <;> simp

end

/-! ### `raiseNow` -/

section

variable (s : State) (k : EventKind) (detail : Byte)

@[simp] theorem State.raiseNow_now : (s.raiseNow k detail).now = s.now := by simp [State.raiseNow]
@[simp] theorem State.raiseNow_sweep : (s.raiseNow k detail).sweep = s.sweep := by simp [State.raiseNow]
@[simp] theorem State.raiseNow_nodeCfg : (s.raiseNow k detail).nodeCfg = s.nodeCfg := by simp [State.raiseNow]
@[simp] theorem State.raiseNow_nodeRun : (s.raiseNow k detail).nodeRun = s.nodeRun := by simp [State.raiseNow]
@[simp] theorem State.raiseNow_chanCfg : (s.raiseNow k detail).chanCfg = s.chanCfg := by simp [State.raiseNow]
@[simp] theorem State.raiseNow_chanRun : (s.raiseNow k detail).chanRun = s.chanRun := by simp [State.raiseNow]
@[simp] theorem State.raiseNow_settings : (s.raiseNow k detail).settings = s.settings := by simp [State.raiseNow]
@[simp] theorem State.raiseNow_store : (s.raiseNow k detail).store = s.store := by simp [State.raiseNow]
@[simp] theorem State.raiseNow_uplink : (s.raiseNow k detail).uplink = s.uplink := by simp [State.raiseNow]
@[simp] theorem State.raiseNow_conf : (s.raiseNow k detail).conf = s.conf := by simp [State.raiseNow]
@[simp] theorem State.raiseNow_links : (s.raiseNow k detail).links = s.links := by simp [State.raiseNow]
@[simp] theorem State.raiseNow_trunk : (s.raiseNow k detail).trunk = s.trunk := by simp [State.raiseNow]
@[simp] theorem State.raiseNow_relay : (s.raiseNow k detail).relay = s.relay := by simp [State.raiseNow]
@[simp] theorem State.raiseNow_inbox : (s.raiseNow k detail).inbox = s.inbox := by simp [State.raiseNow]
@[simp] theorem State.raiseNow_handed : (s.raiseNow k detail).handed = s.handed := by simp [State.raiseNow]
@[simp] theorem State.raiseNow_notices : (s.raiseNow k detail).notices = s.notices := by simp [State.raiseNow]
@[simp] theorem State.raiseNow_drops : (s.raiseNow k detail).drops = s.drops := by simp [State.raiseNow]
@[simp] theorem State.raiseNow_choices : (s.raiseNow k detail).choices = s.choices := by simp [State.raiseNow]
@[simp] theorem State.raiseNow_pending : (s.raiseNow k detail).pending = s.pending := by simp [State.raiseNow]

end

/-! ### `tellStoreEmpty` -/

section

variable (s : State)

@[simp] theorem State.tellStoreEmpty_now : (s.tellStoreEmpty).now = s.now := by simp [State.tellStoreEmpty]
@[simp] theorem State.tellStoreEmpty_sweep : (s.tellStoreEmpty).sweep = s.sweep := by simp [State.tellStoreEmpty]
@[simp] theorem State.tellStoreEmpty_nodeCfg : (s.tellStoreEmpty).nodeCfg = s.nodeCfg := by simp [State.tellStoreEmpty]
@[simp] theorem State.tellStoreEmpty_nodeRun : (s.tellStoreEmpty).nodeRun = s.nodeRun := by simp [State.tellStoreEmpty]
@[simp] theorem State.tellStoreEmpty_chanCfg : (s.tellStoreEmpty).chanCfg = s.chanCfg := by simp [State.tellStoreEmpty]
@[simp] theorem State.tellStoreEmpty_chanRun : (s.tellStoreEmpty).chanRun = s.chanRun := by simp [State.tellStoreEmpty]
@[simp] theorem State.tellStoreEmpty_settings : (s.tellStoreEmpty).settings = s.settings := by simp [State.tellStoreEmpty]
@[simp] theorem State.tellStoreEmpty_store : (s.tellStoreEmpty).store = s.store := by simp [State.tellStoreEmpty]
@[simp] theorem State.tellStoreEmpty_uplink : (s.tellStoreEmpty).uplink = s.uplink := by simp [State.tellStoreEmpty]
@[simp] theorem State.tellStoreEmpty_conf : (s.tellStoreEmpty).conf = s.conf := by simp [State.tellStoreEmpty]
@[simp] theorem State.tellStoreEmpty_links : (s.tellStoreEmpty).links = s.links := by simp [State.tellStoreEmpty]
@[simp] theorem State.tellStoreEmpty_trunk : (s.tellStoreEmpty).trunk = s.trunk := by simp [State.tellStoreEmpty]
@[simp] theorem State.tellStoreEmpty_relay : (s.tellStoreEmpty).relay = s.relay := by simp [State.tellStoreEmpty]
@[simp] theorem State.tellStoreEmpty_inbox : (s.tellStoreEmpty).inbox = s.inbox := by simp [State.tellStoreEmpty]
@[simp] theorem State.tellStoreEmpty_handed : (s.tellStoreEmpty).handed = s.handed := by simp [State.tellStoreEmpty]
@[simp] theorem State.tellStoreEmpty_notices : (s.tellStoreEmpty).notices = s.notices := by simp [State.tellStoreEmpty]
@[simp] theorem State.tellStoreEmpty_drops : (s.tellStoreEmpty).drops = s.drops := by simp [State.tellStoreEmpty]
@[simp] theorem State.tellStoreEmpty_choices : (s.tellStoreEmpty).choices = s.choices := by simp [State.tellStoreEmpty]
@[simp] theorem State.tellStoreEmpty_pending : (s.tellStoreEmpty).pending = s.pending := by simp [State.tellStoreEmpty]

end

/-! ### `freeSlots` -/

section

variable (s : State) (n : Nat)

@[simp] theorem State.freeSlots_now : (s.freeSlots n).now = s.now := by
  unfold State.freeSlots; split <;> rfl
@[simp] theorem State.freeSlots_sweep : (s.freeSlots n).sweep = s.sweep := by
  unfold State.freeSlots; split <;> rfl
@[simp] theorem State.freeSlots_nodeCfg : (s.freeSlots n).nodeCfg = s.nodeCfg := by
  unfold State.freeSlots; split <;> rfl
@[simp] theorem State.freeSlots_nodeRun : (s.freeSlots n).nodeRun = s.nodeRun := by
  unfold State.freeSlots; split <;> rfl
@[simp] theorem State.freeSlots_chanCfg : (s.freeSlots n).chanCfg = s.chanCfg := by
  unfold State.freeSlots; split <;> rfl
@[simp] theorem State.freeSlots_chanRun : (s.freeSlots n).chanRun = s.chanRun := by
  unfold State.freeSlots; split <;> rfl
@[simp] theorem State.freeSlots_settings : (s.freeSlots n).settings = s.settings := by
  unfold State.freeSlots; split <;> rfl
@[simp] theorem State.freeSlots_uplink : (s.freeSlots n).uplink = s.uplink := by
  unfold State.freeSlots; split <;> rfl
@[simp] theorem State.freeSlots_conf : (s.freeSlots n).conf = s.conf := by
  unfold State.freeSlots; split <;> rfl
@[simp] theorem State.freeSlots_links : (s.freeSlots n).links = s.links := by
  unfold State.freeSlots; split <;> rfl
@[simp] theorem State.freeSlots_trunk : (s.freeSlots n).trunk = s.trunk := by
  unfold State.freeSlots; split <;> rfl
@[simp] theorem State.freeSlots_mgmt : (s.freeSlots n).mgmt = s.mgmt := by
  unfold State.freeSlots; split <;> rfl
@[simp] theorem State.freeSlots_relay : (s.freeSlots n).relay = s.relay := by
  unfold State.freeSlots; split <;> rfl
@[simp] theorem State.freeSlots_bank : (s.freeSlots n).bank = s.bank := by
  unfold State.freeSlots; split <;> rfl
@[simp] theorem State.freeSlots_inbox : (s.freeSlots n).inbox = s.inbox := by
  unfold State.freeSlots; split <;> rfl
@[simp] theorem State.freeSlots_handed : (s.freeSlots n).handed = s.handed := by
  unfold State.freeSlots; split <;> rfl
@[simp] theorem State.freeSlots_notices : (s.freeSlots n).notices = s.notices := by
  unfold State.freeSlots; split <;> rfl
@[simp] theorem State.freeSlots_drops : (s.freeSlots n).drops = s.drops := by
  unfold State.freeSlots; split <;> rfl
@[simp] theorem State.freeSlots_choices : (s.freeSlots n).choices = s.choices := by
  unfold State.freeSlots; split <;> rfl
@[simp] theorem State.freeSlots_pending : (s.freeSlots n).pending = s.pending := by
  unfold State.freeSlots; split <;> rfl

end

/-! ### `dropNotices` -/

section

variable (s : State) (cs : List (Fin 256))

@[simp] theorem State.dropNotices_now : (s.dropNotices cs).now = s.now := State.foldl_keeps State.now State.dropNotice (fun _ _ => rfl) cs s
@[simp] theorem State.dropNotices_sweep : (s.dropNotices cs).sweep = s.sweep := State.foldl_keeps State.sweep State.dropNotice (fun _ _ => rfl) cs s
@[simp] theorem State.dropNotices_nodeCfg : (s.dropNotices cs).nodeCfg = s.nodeCfg := State.foldl_keeps State.nodeCfg State.dropNotice (fun _ _ => rfl) cs s
@[simp] theorem State.dropNotices_nodeRun : (s.dropNotices cs).nodeRun = s.nodeRun := State.foldl_keeps State.nodeRun State.dropNotice (fun _ _ => rfl) cs s
@[simp] theorem State.dropNotices_chanCfg : (s.dropNotices cs).chanCfg = s.chanCfg := State.foldl_keeps State.chanCfg State.dropNotice (fun _ _ => rfl) cs s
@[simp] theorem State.dropNotices_settings : (s.dropNotices cs).settings = s.settings := State.foldl_keeps State.settings State.dropNotice (fun _ _ => rfl) cs s
@[simp] theorem State.dropNotices_store : (s.dropNotices cs).store = s.store := State.foldl_keeps State.store State.dropNotice (fun _ _ => rfl) cs s
@[simp] theorem State.dropNotices_uplink : (s.dropNotices cs).uplink = s.uplink := State.foldl_keeps State.uplink State.dropNotice (fun _ _ => rfl) cs s
@[simp] theorem State.dropNotices_conf : (s.dropNotices cs).conf = s.conf := State.foldl_keeps State.conf State.dropNotice (fun _ _ => rfl) cs s
@[simp] theorem State.dropNotices_links : (s.dropNotices cs).links = s.links := State.foldl_keeps State.links State.dropNotice (fun _ _ => rfl) cs s
@[simp] theorem State.dropNotices_trunk : (s.dropNotices cs).trunk = s.trunk := State.foldl_keeps State.trunk State.dropNotice (fun _ _ => rfl) cs s
@[simp] theorem State.dropNotices_mgmt : (s.dropNotices cs).mgmt = s.mgmt := State.foldl_keeps State.mgmt State.dropNotice (fun _ _ => rfl) cs s
@[simp] theorem State.dropNotices_relay : (s.dropNotices cs).relay = s.relay := State.foldl_keeps State.relay State.dropNotice (fun _ _ => rfl) cs s
@[simp] theorem State.dropNotices_latch : (s.dropNotices cs).latch = s.latch := State.foldl_keeps State.latch State.dropNotice (fun _ _ => rfl) cs s
@[simp] theorem State.dropNotices_bank : (s.dropNotices cs).bank = s.bank := State.foldl_keeps State.bank State.dropNotice (fun _ _ => rfl) cs s
@[simp] theorem State.dropNotices_inbox : (s.dropNotices cs).inbox = s.inbox := State.foldl_keeps State.inbox State.dropNotice (fun _ _ => rfl) cs s
@[simp] theorem State.dropNotices_handed : (s.dropNotices cs).handed = s.handed := State.foldl_keeps State.handed State.dropNotice (fun _ _ => rfl) cs s
@[simp] theorem State.dropNotices_notices : (s.dropNotices cs).notices = s.notices := State.foldl_keeps State.notices State.dropNotice (fun _ _ => rfl) cs s
@[simp] theorem State.dropNotices_drops : (s.dropNotices cs).drops = s.drops := State.foldl_keeps State.drops State.dropNotice (fun _ _ => rfl) cs s
@[simp] theorem State.dropNotices_choices : (s.dropNotices cs).choices = s.choices := State.foldl_keeps State.choices State.dropNotice (fun _ _ => rfl) cs s
@[simp] theorem State.dropNotices_pending : (s.dropNotices cs).pending = s.pending := State.foldl_keeps State.pending State.dropNotice (fun _ _ => rfl) cs s

end

/-! ### `sendDrops` -/

section

variable (s : State) (late cs : List (Fin 256))

@[simp] theorem State.sendDrops_now : (s.sendDrops late cs).now = s.now := by simp [State.sendDrops]
@[simp] theorem State.sendDrops_sweep : (s.sendDrops late cs).sweep = s.sweep := by simp [State.sendDrops]
@[simp] theorem State.sendDrops_nodeCfg : (s.sendDrops late cs).nodeCfg = s.nodeCfg := by simp [State.sendDrops]
@[simp] theorem State.sendDrops_nodeRun : (s.sendDrops late cs).nodeRun = s.nodeRun := by simp [State.sendDrops]
@[simp] theorem State.sendDrops_chanCfg : (s.sendDrops late cs).chanCfg = s.chanCfg := by simp [State.sendDrops]
@[simp] theorem State.sendDrops_settings : (s.sendDrops late cs).settings = s.settings := by simp [State.sendDrops]
@[simp] theorem State.sendDrops_store : (s.sendDrops late cs).store = s.store := by simp [State.sendDrops]
@[simp] theorem State.sendDrops_uplink : (s.sendDrops late cs).uplink = s.uplink := by simp [State.sendDrops]
@[simp] theorem State.sendDrops_conf : (s.sendDrops late cs).conf = s.conf := by simp [State.sendDrops]
@[simp] theorem State.sendDrops_links : (s.sendDrops late cs).links = s.links := by simp [State.sendDrops]
@[simp] theorem State.sendDrops_trunk : (s.sendDrops late cs).trunk = s.trunk := by simp [State.sendDrops]
@[simp] theorem State.sendDrops_mgmt : (s.sendDrops late cs).mgmt = s.mgmt := by simp [State.sendDrops]
@[simp] theorem State.sendDrops_relay : (s.sendDrops late cs).relay = s.relay := by simp [State.sendDrops]
@[simp] theorem State.sendDrops_latch : (s.sendDrops late cs).latch = s.latch := by simp [State.sendDrops]
@[simp] theorem State.sendDrops_bank : (s.sendDrops late cs).bank = s.bank := by simp [State.sendDrops]
@[simp] theorem State.sendDrops_inbox : (s.sendDrops late cs).inbox = s.inbox := by simp [State.sendDrops]
@[simp] theorem State.sendDrops_handed : (s.sendDrops late cs).handed = s.handed := by simp [State.sendDrops]
@[simp] theorem State.sendDrops_notices : (s.sendDrops late cs).notices = s.notices := by simp [State.sendDrops]
@[simp] theorem State.sendDrops_choices : (s.sendDrops late cs).choices = s.choices := by simp [State.sendDrops]
@[simp] theorem State.sendDrops_pending : (s.sendDrops late cs).pending = s.pending := by simp [State.sendDrops]

end

/-! ### `takeDrops` -/

section

variable (s : State) (late : List (Fin 256))

@[simp] theorem State.takeDrops_now : (s.takeDrops late).now = s.now := by simp [State.takeDrops]
@[simp] theorem State.takeDrops_sweep : (s.takeDrops late).sweep = s.sweep := by simp [State.takeDrops]
@[simp] theorem State.takeDrops_nodeCfg : (s.takeDrops late).nodeCfg = s.nodeCfg := by simp [State.takeDrops]
@[simp] theorem State.takeDrops_nodeRun : (s.takeDrops late).nodeRun = s.nodeRun := by simp [State.takeDrops]
@[simp] theorem State.takeDrops_chanCfg : (s.takeDrops late).chanCfg = s.chanCfg := by simp [State.takeDrops]
@[simp] theorem State.takeDrops_settings : (s.takeDrops late).settings = s.settings := by simp [State.takeDrops]
@[simp] theorem State.takeDrops_store : (s.takeDrops late).store = s.store := by simp [State.takeDrops]
@[simp] theorem State.takeDrops_uplink : (s.takeDrops late).uplink = s.uplink := by simp [State.takeDrops]
@[simp] theorem State.takeDrops_conf : (s.takeDrops late).conf = s.conf := by simp [State.takeDrops]
@[simp] theorem State.takeDrops_links : (s.takeDrops late).links = s.links := by simp [State.takeDrops]
@[simp] theorem State.takeDrops_trunk : (s.takeDrops late).trunk = s.trunk := by simp [State.takeDrops]
@[simp] theorem State.takeDrops_mgmt : (s.takeDrops late).mgmt = s.mgmt := by simp [State.takeDrops]
@[simp] theorem State.takeDrops_relay : (s.takeDrops late).relay = s.relay := by simp [State.takeDrops]
@[simp] theorem State.takeDrops_latch : (s.takeDrops late).latch = s.latch := by simp [State.takeDrops]
@[simp] theorem State.takeDrops_bank : (s.takeDrops late).bank = s.bank := by simp [State.takeDrops]
@[simp] theorem State.takeDrops_inbox : (s.takeDrops late).inbox = s.inbox := by simp [State.takeDrops]
@[simp] theorem State.takeDrops_handed : (s.takeDrops late).handed = s.handed := by simp [State.takeDrops]
@[simp] theorem State.takeDrops_notices : (s.takeDrops late).notices = s.notices := by simp [State.takeDrops]
@[simp] theorem State.takeDrops_choices : (s.takeDrops late).choices = s.choices := by simp [State.takeDrops]
@[simp] theorem State.takeDrops_pending : (s.takeDrops late).pending = s.pending := by simp [State.takeDrops]

end

/-! ### `takeDropOf` -/

section

variable (s : State) (c : Fin 256)

@[simp] theorem State.takeDropOf_now : (s.takeDropOf c).now = s.now := by
  unfold State.takeDropOf; split <;> rfl
@[simp] theorem State.takeDropOf_sweep : (s.takeDropOf c).sweep = s.sweep := by
  unfold State.takeDropOf; split <;> rfl
@[simp] theorem State.takeDropOf_nodeCfg : (s.takeDropOf c).nodeCfg = s.nodeCfg := by
  unfold State.takeDropOf; split <;> rfl
@[simp] theorem State.takeDropOf_nodeRun : (s.takeDropOf c).nodeRun = s.nodeRun := by
  unfold State.takeDropOf; split <;> rfl
@[simp] theorem State.takeDropOf_chanCfg : (s.takeDropOf c).chanCfg = s.chanCfg := by
  unfold State.takeDropOf; split <;> rfl
@[simp] theorem State.takeDropOf_settings : (s.takeDropOf c).settings = s.settings := by
  unfold State.takeDropOf; split <;> rfl
@[simp] theorem State.takeDropOf_store : (s.takeDropOf c).store = s.store := by
  unfold State.takeDropOf; split <;> rfl
@[simp] theorem State.takeDropOf_uplink : (s.takeDropOf c).uplink = s.uplink := by
  unfold State.takeDropOf; split <;> rfl
@[simp] theorem State.takeDropOf_conf : (s.takeDropOf c).conf = s.conf := by
  unfold State.takeDropOf; split <;> rfl
@[simp] theorem State.takeDropOf_links : (s.takeDropOf c).links = s.links := by
  unfold State.takeDropOf; split <;> rfl
@[simp] theorem State.takeDropOf_trunk : (s.takeDropOf c).trunk = s.trunk := by
  unfold State.takeDropOf; split <;> rfl
@[simp] theorem State.takeDropOf_mgmt : (s.takeDropOf c).mgmt = s.mgmt := by
  unfold State.takeDropOf; split <;> rfl
@[simp] theorem State.takeDropOf_relay : (s.takeDropOf c).relay = s.relay := by
  unfold State.takeDropOf; split <;> rfl
@[simp] theorem State.takeDropOf_latch : (s.takeDropOf c).latch = s.latch := by
  unfold State.takeDropOf; split <;> rfl
@[simp] theorem State.takeDropOf_bank : (s.takeDropOf c).bank = s.bank := by
  unfold State.takeDropOf; split <;> rfl
@[simp] theorem State.takeDropOf_inbox : (s.takeDropOf c).inbox = s.inbox := by
  unfold State.takeDropOf; split <;> rfl
@[simp] theorem State.takeDropOf_handed : (s.takeDropOf c).handed = s.handed := by
  unfold State.takeDropOf; split <;> rfl
@[simp] theorem State.takeDropOf_notices : (s.takeDropOf c).notices = s.notices := by
  unfold State.takeDropOf; split <;> rfl
@[simp] theorem State.takeDropOf_choices : (s.takeDropOf c).choices = s.choices := by
  unfold State.takeDropOf; split <;> rfl
@[simp] theorem State.takeDropOf_pending : (s.takeDropOf c).pending = s.pending := by
  unfold State.takeDropOf; split <;> rfl

end

/-! ### `respond` -/

section

variable (s : State) (tag code : Byte) (status : Status) (results : List Byte)

@[simp] theorem State.respond_now : (s.respond tag code status results).now = s.now := by
  unfold State.respond; split <;> rfl
@[simp] theorem State.respond_sweep : (s.respond tag code status results).sweep = s.sweep := by
  unfold State.respond; split <;> rfl
@[simp] theorem State.respond_nodeCfg : (s.respond tag code status results).nodeCfg = s.nodeCfg := by
  unfold State.respond; split <;> rfl
@[simp] theorem State.respond_nodeRun : (s.respond tag code status results).nodeRun = s.nodeRun := by
  unfold State.respond; split <;> rfl
@[simp] theorem State.respond_chanCfg : (s.respond tag code status results).chanCfg = s.chanCfg := by
  unfold State.respond; split <;> rfl
@[simp] theorem State.respond_chanRun : (s.respond tag code status results).chanRun = s.chanRun := by
  unfold State.respond; split <;> rfl
@[simp] theorem State.respond_settings : (s.respond tag code status results).settings = s.settings := by
  unfold State.respond; split <;> rfl
@[simp] theorem State.respond_store : (s.respond tag code status results).store = s.store := by
  unfold State.respond; split <;> rfl
@[simp] theorem State.respond_uplink : (s.respond tag code status results).uplink = s.uplink := by
  unfold State.respond; split <;> rfl
@[simp] theorem State.respond_conf : (s.respond tag code status results).conf = s.conf := by
  unfold State.respond; split <;> rfl
@[simp] theorem State.respond_links : (s.respond tag code status results).links = s.links := by
  unfold State.respond; split <;> rfl
@[simp] theorem State.respond_trunk : (s.respond tag code status results).trunk = s.trunk := by
  unfold State.respond; split <;> rfl
@[simp] theorem State.respond_relay : (s.respond tag code status results).relay = s.relay := by
  unfold State.respond; split <;> rfl
@[simp] theorem State.respond_latch : (s.respond tag code status results).latch = s.latch := by
  unfold State.respond; split <;> rfl
@[simp] theorem State.respond_bank : (s.respond tag code status results).bank = s.bank := by
  unfold State.respond; split <;> rfl
@[simp] theorem State.respond_inbox : (s.respond tag code status results).inbox = s.inbox := by
  unfold State.respond; split <;> rfl
@[simp] theorem State.respond_handed : (s.respond tag code status results).handed = s.handed := by
  unfold State.respond; split <;> rfl
@[simp] theorem State.respond_notices : (s.respond tag code status results).notices = s.notices := by
  unfold State.respond; split <;> rfl
@[simp] theorem State.respond_drops : (s.respond tag code status results).drops = s.drops := by
  unfold State.respond; split <;> rfl
@[simp] theorem State.respond_choices : (s.respond tag code status results).choices = s.choices := by
  unfold State.respond; split <;> rfl
@[simp] theorem State.respond_pending : (s.respond tag code status results).pending = s.pending := by
  unfold State.respond; split <;> rfl

end

/-! ### `respondTo` -/

section

variable (s : State) (code : Byte) (status : Status) (results : List Byte)

@[simp] theorem State.respondTo_now : (s.respondTo code status results).now = s.now := by
  unfold State.respondTo; split <;> simp
@[simp] theorem State.respondTo_sweep : (s.respondTo code status results).sweep = s.sweep := by
  unfold State.respondTo; split <;> simp
@[simp] theorem State.respondTo_nodeCfg : (s.respondTo code status results).nodeCfg = s.nodeCfg := by
  unfold State.respondTo; split <;> simp
@[simp] theorem State.respondTo_nodeRun : (s.respondTo code status results).nodeRun = s.nodeRun := by
  unfold State.respondTo; split <;> simp
@[simp] theorem State.respondTo_chanCfg : (s.respondTo code status results).chanCfg = s.chanCfg := by
  unfold State.respondTo; split <;> simp
@[simp] theorem State.respondTo_chanRun : (s.respondTo code status results).chanRun = s.chanRun := by
  unfold State.respondTo; split <;> simp
@[simp] theorem State.respondTo_settings : (s.respondTo code status results).settings = s.settings := by
  unfold State.respondTo; split <;> simp
@[simp] theorem State.respondTo_store : (s.respondTo code status results).store = s.store := by
  unfold State.respondTo; split <;> simp
@[simp] theorem State.respondTo_uplink : (s.respondTo code status results).uplink = s.uplink := by
  unfold State.respondTo; split <;> simp
@[simp] theorem State.respondTo_conf : (s.respondTo code status results).conf = s.conf := by
  unfold State.respondTo; split <;> simp
@[simp] theorem State.respondTo_links : (s.respondTo code status results).links = s.links := by
  unfold State.respondTo; split <;> simp
@[simp] theorem State.respondTo_trunk : (s.respondTo code status results).trunk = s.trunk := by
  unfold State.respondTo; split <;> simp
@[simp] theorem State.respondTo_relay : (s.respondTo code status results).relay = s.relay := by
  unfold State.respondTo; split <;> simp
@[simp] theorem State.respondTo_latch : (s.respondTo code status results).latch = s.latch := by
  unfold State.respondTo; split <;> simp
@[simp] theorem State.respondTo_bank : (s.respondTo code status results).bank = s.bank := by
  unfold State.respondTo; split <;> simp
@[simp] theorem State.respondTo_inbox : (s.respondTo code status results).inbox = s.inbox := by
  unfold State.respondTo; split <;> simp
@[simp] theorem State.respondTo_handed : (s.respondTo code status results).handed = s.handed := by
  unfold State.respondTo; split <;> simp
@[simp] theorem State.respondTo_notices : (s.respondTo code status results).notices = s.notices := by
  unfold State.respondTo; split <;> simp
@[simp] theorem State.respondTo_drops : (s.respondTo code status results).drops = s.drops := by
  unfold State.respondTo; split <;> simp
@[simp] theorem State.respondTo_choices : (s.respondTo code status results).choices = s.choices := by
  unfold State.respondTo; split <;> simp
@[simp] theorem State.respondTo_pending : (s.respondTo code status results).pending = s.pending := by
  unfold State.respondTo; split <;> simp

end

/-! ### `forwardOffer` -/

section

variable (s : State) (f : TrunkFrame)

@[simp] theorem State.forwardOffer_now : (s.forwardOffer f).now = s.now := by
  unfold State.forwardOffer; split <;> simp
@[simp] theorem State.forwardOffer_sweep : (s.forwardOffer f).sweep = s.sweep := by
  unfold State.forwardOffer; split <;> simp
@[simp] theorem State.forwardOffer_nodeCfg : (s.forwardOffer f).nodeCfg = s.nodeCfg := by
  unfold State.forwardOffer; split <;> simp
@[simp] theorem State.forwardOffer_nodeRun : (s.forwardOffer f).nodeRun = s.nodeRun := by
  unfold State.forwardOffer; split <;> simp
@[simp] theorem State.forwardOffer_chanCfg : (s.forwardOffer f).chanCfg = s.chanCfg := by
  unfold State.forwardOffer; split <;> simp
@[simp] theorem State.forwardOffer_chanRun : (s.forwardOffer f).chanRun = s.chanRun := by
  unfold State.forwardOffer; split <;> simp
@[simp] theorem State.forwardOffer_settings : (s.forwardOffer f).settings = s.settings := by
  unfold State.forwardOffer; split <;> simp
@[simp] theorem State.forwardOffer_store : (s.forwardOffer f).store = s.store := by
  unfold State.forwardOffer; split <;> simp
@[simp] theorem State.forwardOffer_uplink : (s.forwardOffer f).uplink = s.uplink := by
  unfold State.forwardOffer; split <;> simp
@[simp] theorem State.forwardOffer_conf : (s.forwardOffer f).conf = s.conf := by
  unfold State.forwardOffer; split <;> simp
@[simp] theorem State.forwardOffer_links : (s.forwardOffer f).links = s.links := by
  unfold State.forwardOffer; split <;> simp
@[simp] theorem State.forwardOffer_relay : (s.forwardOffer f).relay = s.relay := by
  unfold State.forwardOffer; split <;> simp
@[simp] theorem State.forwardOffer_inbox : (s.forwardOffer f).inbox = s.inbox := by
  unfold State.forwardOffer; split <;> simp
@[simp] theorem State.forwardOffer_handed : (s.forwardOffer f).handed = s.handed := by
  unfold State.forwardOffer; split <;> simp
@[simp] theorem State.forwardOffer_notices : (s.forwardOffer f).notices = s.notices := by
  unfold State.forwardOffer; split <;> simp
@[simp] theorem State.forwardOffer_drops : (s.forwardOffer f).drops = s.drops := by
  unfold State.forwardOffer; split <;> simp
@[simp] theorem State.forwardOffer_choices : (s.forwardOffer f).choices = s.choices := by
  unfold State.forwardOffer; split <;> simp
@[simp] theorem State.forwardOffer_pending : (s.forwardOffer f).pending = s.pending := by
  unfold State.forwardOffer; split <;> simp

end

/-! ### `admitReport` -/

section

variable (s : State) (r : Report)

@[simp] theorem State.admitReport_now : (s.admitReport r).now = s.now := by
  unfold State.admitReport State.applyAdmission; dsimp only; split <;> simp
@[simp] theorem State.admitReport_sweep : (s.admitReport r).sweep = s.sweep := by
  unfold State.admitReport State.applyAdmission; dsimp only; split <;> simp
@[simp] theorem State.admitReport_nodeCfg : (s.admitReport r).nodeCfg = s.nodeCfg := by
  unfold State.admitReport State.applyAdmission; dsimp only; split <;> simp
@[simp] theorem State.admitReport_nodeRun : (s.admitReport r).nodeRun = s.nodeRun := by
  unfold State.admitReport State.applyAdmission; dsimp only; split <;> simp
@[simp] theorem State.admitReport_chanCfg : (s.admitReport r).chanCfg = s.chanCfg := by
  unfold State.admitReport State.applyAdmission; dsimp only; split <;> simp
@[simp] theorem State.admitReport_settings : (s.admitReport r).settings = s.settings := by
  unfold State.admitReport State.applyAdmission; dsimp only; split <;> simp
@[simp] theorem State.admitReport_uplink : (s.admitReport r).uplink = s.uplink := by
  unfold State.admitReport State.applyAdmission; dsimp only; split <;> simp
@[simp] theorem State.admitReport_conf : (s.admitReport r).conf = s.conf := by
  unfold State.admitReport State.applyAdmission; dsimp only; split <;> simp
@[simp] theorem State.admitReport_links : (s.admitReport r).links = s.links := by
  unfold State.admitReport State.applyAdmission; dsimp only; split <;> simp
@[simp] theorem State.admitReport_trunk : (s.admitReport r).trunk = s.trunk := by
  unfold State.admitReport State.applyAdmission; dsimp only; split <;> simp
@[simp] theorem State.admitReport_relay : (s.admitReport r).relay = s.relay := by
  unfold State.admitReport State.applyAdmission; dsimp only; split <;> simp
@[simp] theorem State.admitReport_inbox : (s.admitReport r).inbox = s.inbox := by
  unfold State.admitReport State.applyAdmission; dsimp only; split <;> simp
@[simp] theorem State.admitReport_handed : (s.admitReport r).handed = s.handed := by
  unfold State.admitReport State.applyAdmission; dsimp only; split <;> simp
@[simp] theorem State.admitReport_notices : (s.admitReport r).notices = s.notices := by
  unfold State.admitReport State.applyAdmission; dsimp only; split <;> simp
@[simp] theorem State.admitReport_drops : (s.admitReport r).drops = s.drops := by
  unfold State.admitReport State.applyAdmission; dsimp only; split <;> simp
@[simp] theorem State.admitReport_choices : (s.admitReport r).choices = s.choices := by
  unfold State.admitReport State.applyAdmission; dsimp only; split <;> simp
@[simp] theorem State.admitReport_pending : (s.admitReport r).pending = s.pending := by
  unfold State.admitReport State.applyAdmission; dsimp only; split <;> simp

end

/-! ### `evict` -/

section

variable (s : State) (r head : Report) (rest : List Report)

@[simp] theorem State.evict_now : (s.evict r head rest).now = s.now := by simp [State.evict, State.applyAdmission]
@[simp] theorem State.evict_sweep : (s.evict r head rest).sweep = s.sweep := by simp [State.evict, State.applyAdmission]
@[simp] theorem State.evict_nodeCfg : (s.evict r head rest).nodeCfg = s.nodeCfg := by simp [State.evict, State.applyAdmission]
@[simp] theorem State.evict_nodeRun : (s.evict r head rest).nodeRun = s.nodeRun := by simp [State.evict, State.applyAdmission]
@[simp] theorem State.evict_chanCfg : (s.evict r head rest).chanCfg = s.chanCfg := by simp [State.evict, State.applyAdmission]
@[simp] theorem State.evict_settings : (s.evict r head rest).settings = s.settings := by simp [State.evict, State.applyAdmission]
@[simp] theorem State.evict_uplink : (s.evict r head rest).uplink = s.uplink := by simp [State.evict, State.applyAdmission]
@[simp] theorem State.evict_conf : (s.evict r head rest).conf = s.conf := by simp [State.evict, State.applyAdmission]
@[simp] theorem State.evict_links : (s.evict r head rest).links = s.links := by simp [State.evict, State.applyAdmission]
@[simp] theorem State.evict_trunk : (s.evict r head rest).trunk = s.trunk := by simp [State.evict, State.applyAdmission]
@[simp] theorem State.evict_relay : (s.evict r head rest).relay = s.relay := by simp [State.evict, State.applyAdmission]
@[simp] theorem State.evict_inbox : (s.evict r head rest).inbox = s.inbox := by simp [State.evict, State.applyAdmission]
@[simp] theorem State.evict_handed : (s.evict r head rest).handed = s.handed := by simp [State.evict, State.applyAdmission]
@[simp] theorem State.evict_notices : (s.evict r head rest).notices = s.notices := by simp [State.evict, State.applyAdmission]
@[simp] theorem State.evict_drops : (s.evict r head rest).drops = s.drops := by simp [State.evict, State.applyAdmission]
@[simp] theorem State.evict_choices : (s.evict r head rest).choices = s.choices := by simp [State.evict, State.applyAdmission]
@[simp] theorem State.evict_pending : (s.evict r head rest).pending = s.pending := by simp [State.evict, State.applyAdmission]

end

/-! ### `refuse` -/

section

variable (s : State) (r : Report)

@[simp] theorem State.refuse_now : (s.refuse r).now = s.now := by
  unfold State.refuse State.applyRefusal; dsimp only; split <;> simp
@[simp] theorem State.refuse_sweep : (s.refuse r).sweep = s.sweep := by
  unfold State.refuse State.applyRefusal; dsimp only; split <;> simp
@[simp] theorem State.refuse_nodeCfg : (s.refuse r).nodeCfg = s.nodeCfg := by
  unfold State.refuse State.applyRefusal; dsimp only; split <;> simp
@[simp] theorem State.refuse_nodeRun : (s.refuse r).nodeRun = s.nodeRun := by
  unfold State.refuse State.applyRefusal; dsimp only; split <;> simp
@[simp] theorem State.refuse_chanCfg : (s.refuse r).chanCfg = s.chanCfg := by
  unfold State.refuse State.applyRefusal; dsimp only; split <;> simp
@[simp] theorem State.refuse_settings : (s.refuse r).settings = s.settings := by
  unfold State.refuse State.applyRefusal; dsimp only; split <;> simp
@[simp] theorem State.refuse_store : (s.refuse r).store = s.store := by
  unfold State.refuse State.applyRefusal; dsimp only; split <;> simp
@[simp] theorem State.refuse_uplink : (s.refuse r).uplink = s.uplink := by
  unfold State.refuse State.applyRefusal; dsimp only; split <;> simp
@[simp] theorem State.refuse_conf : (s.refuse r).conf = s.conf := by
  unfold State.refuse State.applyRefusal; dsimp only; split <;> simp
@[simp] theorem State.refuse_links : (s.refuse r).links = s.links := by
  unfold State.refuse State.applyRefusal; dsimp only; split <;> simp
@[simp] theorem State.refuse_trunk : (s.refuse r).trunk = s.trunk := by
  unfold State.refuse State.applyRefusal; dsimp only; split <;> simp
@[simp] theorem State.refuse_relay : (s.refuse r).relay = s.relay := by
  unfold State.refuse State.applyRefusal; dsimp only; split <;> simp
@[simp] theorem State.refuse_inbox : (s.refuse r).inbox = s.inbox := by
  unfold State.refuse State.applyRefusal; dsimp only; split <;> simp
@[simp] theorem State.refuse_handed : (s.refuse r).handed = s.handed := by
  unfold State.refuse State.applyRefusal; dsimp only; split <;> simp
@[simp] theorem State.refuse_notices : (s.refuse r).notices = s.notices := by
  unfold State.refuse State.applyRefusal; dsimp only; split <;> simp
@[simp] theorem State.refuse_drops : (s.refuse r).drops = s.drops := by
  unfold State.refuse State.applyRefusal; dsimp only; split <;> simp
@[simp] theorem State.refuse_choices : (s.refuse r).choices = s.choices := by
  unfold State.refuse State.applyRefusal; dsimp only; split <;> simp
@[simp] theorem State.refuse_pending : (s.refuse r).pending = s.pending := by
  unfold State.refuse State.applyRefusal; dsimp only; split <;> simp

end

/-! ### `offer` -/

section

variable (s : State) (r : Report)

@[simp] theorem State.offer_now : (s.offer r).now = s.now := by
  unfold State.offer; split
  · simp
  · split <;> simp
@[simp] theorem State.offer_sweep : (s.offer r).sweep = s.sweep := by
  unfold State.offer; split
  · simp
  · split <;> simp
@[simp] theorem State.offer_nodeCfg : (s.offer r).nodeCfg = s.nodeCfg := by
  unfold State.offer; split
  · simp
  · split <;> simp
@[simp] theorem State.offer_nodeRun : (s.offer r).nodeRun = s.nodeRun := by
  unfold State.offer; split
  · simp
  · split <;> simp
@[simp] theorem State.offer_chanCfg : (s.offer r).chanCfg = s.chanCfg := by
  unfold State.offer; split
  · simp
  · split <;> simp
@[simp] theorem State.offer_settings : (s.offer r).settings = s.settings := by
  unfold State.offer; split
  · simp
  · split <;> simp
@[simp] theorem State.offer_uplink : (s.offer r).uplink = s.uplink := by
  unfold State.offer; split
  · simp
  · split <;> simp
@[simp] theorem State.offer_conf : (s.offer r).conf = s.conf := by
  unfold State.offer; split
  · simp
  · split <;> simp
@[simp] theorem State.offer_links : (s.offer r).links = s.links := by
  unfold State.offer; split
  · simp
  · split <;> simp
@[simp] theorem State.offer_trunk : (s.offer r).trunk = s.trunk := by
  unfold State.offer; split
  · simp
  · split <;> simp
@[simp] theorem State.offer_relay : (s.offer r).relay = s.relay := by
  unfold State.offer; split
  · simp
  · split <;> simp
@[simp] theorem State.offer_inbox : (s.offer r).inbox = s.inbox := by
  unfold State.offer; split
  · simp
  · split <;> simp
@[simp] theorem State.offer_handed : (s.offer r).handed = s.handed := by
  unfold State.offer; split
  · simp
  · split <;> simp
@[simp] theorem State.offer_notices : (s.offer r).notices = s.notices := by
  unfold State.offer; split
  · simp
  · split <;> simp
@[simp] theorem State.offer_drops : (s.offer r).drops = s.drops := by
  unfold State.offer; split
  · simp
  · split <;> simp
@[simp] theorem State.offer_choices : (s.offer r).choices = s.choices := by
  unfold State.offer; split
  · simp
  · split <;> simp
@[simp] theorem State.offer_pending : (s.offer r).pending = s.pending := by
  unfold State.offer; split
  · simp
  · split <;> simp

end

/-! ### `judgeFresh` -/

section

variable (s : State) (c : Fin 256) (q : Quality) (v sweep : Word)

@[simp] theorem State.judgeFresh_now : (s.judgeFresh c q v sweep).now = s.now := by
  unfold State.judgeFresh; dsimp only; split
  · simp
  · split <;> simp
@[simp] theorem State.judgeFresh_sweep : (s.judgeFresh c q v sweep).sweep = s.sweep := by
  unfold State.judgeFresh; dsimp only; split
  · simp
  · split <;> simp
@[simp] theorem State.judgeFresh_nodeCfg : (s.judgeFresh c q v sweep).nodeCfg = s.nodeCfg := by
  unfold State.judgeFresh; dsimp only; split
  · simp
  · split <;> simp
@[simp] theorem State.judgeFresh_nodeRun : (s.judgeFresh c q v sweep).nodeRun = s.nodeRun := by
  unfold State.judgeFresh; dsimp only; split
  · simp
  · split <;> simp
@[simp] theorem State.judgeFresh_chanCfg : (s.judgeFresh c q v sweep).chanCfg = s.chanCfg := by
  unfold State.judgeFresh; dsimp only; split
  · simp
  · split <;> simp
@[simp] theorem State.judgeFresh_settings : (s.judgeFresh c q v sweep).settings = s.settings := by
  unfold State.judgeFresh; dsimp only; split
  · simp
  · split <;> simp
@[simp] theorem State.judgeFresh_uplink : (s.judgeFresh c q v sweep).uplink = s.uplink := by
  unfold State.judgeFresh; dsimp only; split
  · simp
  · split <;> simp
@[simp] theorem State.judgeFresh_conf : (s.judgeFresh c q v sweep).conf = s.conf := by
  unfold State.judgeFresh; dsimp only; split
  · simp
  · split <;> simp
@[simp] theorem State.judgeFresh_links : (s.judgeFresh c q v sweep).links = s.links := by
  unfold State.judgeFresh; dsimp only; split
  · simp
  · split <;> simp
@[simp] theorem State.judgeFresh_trunk : (s.judgeFresh c q v sweep).trunk = s.trunk := by
  unfold State.judgeFresh; dsimp only; split
  · simp
  · split <;> simp
@[simp] theorem State.judgeFresh_relay : (s.judgeFresh c q v sweep).relay = s.relay := by
  unfold State.judgeFresh; dsimp only; split
  · simp
  · split <;> simp
@[simp] theorem State.judgeFresh_inbox : (s.judgeFresh c q v sweep).inbox = s.inbox := by
  unfold State.judgeFresh; dsimp only; split
  · simp
  · split <;> simp
@[simp] theorem State.judgeFresh_handed : (s.judgeFresh c q v sweep).handed = s.handed := by
  unfold State.judgeFresh; dsimp only; split
  · simp
  · split <;> simp
@[simp] theorem State.judgeFresh_notices : (s.judgeFresh c q v sweep).notices = s.notices := by
  unfold State.judgeFresh; dsimp only; split
  · simp
  · split <;> simp
@[simp] theorem State.judgeFresh_drops : (s.judgeFresh c q v sweep).drops = s.drops := by
  unfold State.judgeFresh; dsimp only; split
  · simp
  · split <;> simp
@[simp] theorem State.judgeFresh_choices : (s.judgeFresh c q v sweep).choices = s.choices := by
  unfold State.judgeFresh; dsimp only; split
  · simp
  · split <;> simp
@[simp] theorem State.judgeFresh_pending : (s.judgeFresh c q v sweep).pending = s.pending := by
  unfold State.judgeFresh; dsimp only; split
  · simp
  · split <;> simp

end

/-! ### `judgeSample` -/

section

variable (s : State) (c : Fin 256) (q : Quality) (v sweep : Word)

@[simp] theorem State.judgeSample_now : (s.judgeSample c q v sweep).now = s.now := by
  unfold State.judgeSample; split
  · simp
  · split <;> simp
@[simp] theorem State.judgeSample_sweep : (s.judgeSample c q v sweep).sweep = s.sweep := by
  unfold State.judgeSample; split
  · simp
  · split <;> simp
@[simp] theorem State.judgeSample_nodeCfg : (s.judgeSample c q v sweep).nodeCfg = s.nodeCfg := by
  unfold State.judgeSample; split
  · simp
  · split <;> simp
@[simp] theorem State.judgeSample_nodeRun : (s.judgeSample c q v sweep).nodeRun = s.nodeRun := by
  unfold State.judgeSample; split
  · simp
  · split <;> simp
@[simp] theorem State.judgeSample_chanCfg : (s.judgeSample c q v sweep).chanCfg = s.chanCfg := by
  unfold State.judgeSample; split
  · simp
  · split <;> simp
@[simp] theorem State.judgeSample_settings : (s.judgeSample c q v sweep).settings = s.settings := by
  unfold State.judgeSample; split
  · simp
  · split <;> simp
@[simp] theorem State.judgeSample_uplink : (s.judgeSample c q v sweep).uplink = s.uplink := by
  unfold State.judgeSample; split
  · simp
  · split <;> simp
@[simp] theorem State.judgeSample_conf : (s.judgeSample c q v sweep).conf = s.conf := by
  unfold State.judgeSample; split
  · simp
  · split <;> simp
@[simp] theorem State.judgeSample_links : (s.judgeSample c q v sweep).links = s.links := by
  unfold State.judgeSample; split
  · simp
  · split <;> simp
@[simp] theorem State.judgeSample_trunk : (s.judgeSample c q v sweep).trunk = s.trunk := by
  unfold State.judgeSample; split
  · simp
  · split <;> simp
@[simp] theorem State.judgeSample_relay : (s.judgeSample c q v sweep).relay = s.relay := by
  unfold State.judgeSample; split
  · simp
  · split <;> simp
@[simp] theorem State.judgeSample_inbox : (s.judgeSample c q v sweep).inbox = s.inbox := by
  unfold State.judgeSample; split
  · simp
  · split <;> simp
@[simp] theorem State.judgeSample_handed : (s.judgeSample c q v sweep).handed = s.handed := by
  unfold State.judgeSample; split
  · simp
  · split <;> simp
@[simp] theorem State.judgeSample_notices : (s.judgeSample c q v sweep).notices = s.notices := by
  unfold State.judgeSample; split
  · simp
  · split <;> simp
@[simp] theorem State.judgeSample_drops : (s.judgeSample c q v sweep).drops = s.drops := by
  unfold State.judgeSample; split
  · simp
  · split <;> simp
@[simp] theorem State.judgeSample_choices : (s.judgeSample c q v sweep).choices = s.choices := by
  unfold State.judgeSample; split
  · simp
  · split <;> simp
@[simp] theorem State.judgeSample_pending : (s.judgeSample c q v sweep).pending = s.pending := by
  unfold State.judgeSample; split
  · simp
  · split <;> simp

end

/-! ### `channelClose` -/

section

variable (s : State) (c : Fin 256) (closing : Word)

@[simp] theorem State.channelClose_now : (s.channelClose c closing).now = s.now := by
  unfold State.channelClose; split
  · rfl
  · dsimp only; split
    · simp
    · split <;> simp
@[simp] theorem State.channelClose_sweep : (s.channelClose c closing).sweep = s.sweep := by
  unfold State.channelClose; split
  · rfl
  · dsimp only; split
    · simp
    · split <;> simp
@[simp] theorem State.channelClose_nodeCfg : (s.channelClose c closing).nodeCfg = s.nodeCfg := by
  unfold State.channelClose; split
  · rfl
  · dsimp only; split
    · simp
    · split <;> simp
@[simp] theorem State.channelClose_nodeRun : (s.channelClose c closing).nodeRun = s.nodeRun := by
  unfold State.channelClose; split
  · rfl
  · dsimp only; split
    · simp
    · split <;> simp
@[simp] theorem State.channelClose_chanCfg : (s.channelClose c closing).chanCfg = s.chanCfg := by
  unfold State.channelClose; split
  · rfl
  · dsimp only; split
    · simp
    · split <;> simp
@[simp] theorem State.channelClose_settings : (s.channelClose c closing).settings = s.settings := by
  unfold State.channelClose; split
  · rfl
  · dsimp only; split
    · simp
    · split <;> simp
@[simp] theorem State.channelClose_uplink : (s.channelClose c closing).uplink = s.uplink := by
  unfold State.channelClose; split
  · rfl
  · dsimp only; split
    · simp
    · split <;> simp
@[simp] theorem State.channelClose_conf : (s.channelClose c closing).conf = s.conf := by
  unfold State.channelClose; split
  · rfl
  · dsimp only; split
    · simp
    · split <;> simp
@[simp] theorem State.channelClose_links : (s.channelClose c closing).links = s.links := by
  unfold State.channelClose; split
  · rfl
  · dsimp only; split
    · simp
    · split <;> simp
@[simp] theorem State.channelClose_trunk : (s.channelClose c closing).trunk = s.trunk := by
  unfold State.channelClose; split
  · rfl
  · dsimp only; split
    · simp
    · split <;> simp
@[simp] theorem State.channelClose_relay : (s.channelClose c closing).relay = s.relay := by
  unfold State.channelClose; split
  · rfl
  · dsimp only; split
    · simp
    · split <;> simp
@[simp] theorem State.channelClose_inbox : (s.channelClose c closing).inbox = s.inbox := by
  unfold State.channelClose; split
  · rfl
  · dsimp only; split
    · simp
    · split <;> simp
@[simp] theorem State.channelClose_handed : (s.channelClose c closing).handed = s.handed := by
  unfold State.channelClose; split
  · rfl
  · dsimp only; split
    · simp
    · split <;> simp
@[simp] theorem State.channelClose_notices : (s.channelClose c closing).notices = s.notices := by
  unfold State.channelClose; split
  · rfl
  · dsimp only; split
    · simp
    · split <;> simp
@[simp] theorem State.channelClose_drops : (s.channelClose c closing).drops = s.drops := by
  unfold State.channelClose; split
  · rfl
  · dsimp only; split
    · simp
    · split <;> simp
@[simp] theorem State.channelClose_choices : (s.channelClose c closing).choices = s.choices := by
  unfold State.channelClose; split
  · rfl
  · dsimp only; split
    · simp
    · split <;> simp
@[simp] theorem State.channelClose_pending : (s.channelClose c closing).pending = s.pending := by
  unfold State.channelClose; split
  · rfl
  · dsimp only; split
    · simp
    · split <;> simp

end

/-! ### `takeLoss` -/

section

variable (s : State) (n : LossNotice)

@[simp] theorem State.takeLoss_now : (s.takeLoss n).now = s.now := by
  unfold State.takeLoss; split
  · rfl
  · dsimp only; split <;> simp
@[simp] theorem State.takeLoss_sweep : (s.takeLoss n).sweep = s.sweep := by
  unfold State.takeLoss; split
  · rfl
  · dsimp only; split <;> simp
@[simp] theorem State.takeLoss_nodeCfg : (s.takeLoss n).nodeCfg = s.nodeCfg := by
  unfold State.takeLoss; split
  · rfl
  · dsimp only; split <;> simp
@[simp] theorem State.takeLoss_nodeRun : (s.takeLoss n).nodeRun = s.nodeRun := by
  unfold State.takeLoss; split
  · rfl
  · dsimp only; split <;> simp
@[simp] theorem State.takeLoss_chanCfg : (s.takeLoss n).chanCfg = s.chanCfg := by
  unfold State.takeLoss; split
  · rfl
  · dsimp only; split <;> simp
@[simp] theorem State.takeLoss_settings : (s.takeLoss n).settings = s.settings := by
  unfold State.takeLoss; split
  · rfl
  · dsimp only; split <;> simp
@[simp] theorem State.takeLoss_uplink : (s.takeLoss n).uplink = s.uplink := by
  unfold State.takeLoss; split
  · rfl
  · dsimp only; split <;> simp
@[simp] theorem State.takeLoss_conf : (s.takeLoss n).conf = s.conf := by
  unfold State.takeLoss; split
  · rfl
  · dsimp only; split <;> simp
@[simp] theorem State.takeLoss_links : (s.takeLoss n).links = s.links := by
  unfold State.takeLoss; split
  · rfl
  · dsimp only; split <;> simp
@[simp] theorem State.takeLoss_trunk : (s.takeLoss n).trunk = s.trunk := by
  unfold State.takeLoss; split
  · rfl
  · dsimp only; split <;> simp
@[simp] theorem State.takeLoss_relay : (s.takeLoss n).relay = s.relay := by
  unfold State.takeLoss; split
  · rfl
  · dsimp only; split <;> simp
@[simp] theorem State.takeLoss_inbox : (s.takeLoss n).inbox = s.inbox := by
  unfold State.takeLoss; split
  · rfl
  · dsimp only; split <;> simp
@[simp] theorem State.takeLoss_handed : (s.takeLoss n).handed = s.handed := by
  unfold State.takeLoss; split
  · rfl
  · dsimp only; split <;> simp
@[simp] theorem State.takeLoss_notices : (s.takeLoss n).notices = s.notices := by
  unfold State.takeLoss; split
  · rfl
  · dsimp only; split <;> simp
@[simp] theorem State.takeLoss_drops : (s.takeLoss n).drops = s.drops := by
  unfold State.takeLoss; split
  · rfl
  · dsimp only; split <;> simp
@[simp] theorem State.takeLoss_choices : (s.takeLoss n).choices = s.choices := by
  unfold State.takeLoss; split
  · rfl
  · dsimp only; split <;> simp
@[simp] theorem State.takeLoss_pending : (s.takeLoss n).pending = s.pending := by
  unfold State.takeLoss; split
  · rfl
  · dsimp only; split <;> simp

end

/-! ### `takeShare` -/

section

variable (resets : List (Fin 256)) (s : State) (n : LossNotice)

@[simp] theorem State.takeShare_now : (State.takeShare resets s n).now = s.now := by
  unfold State.takeShare; split <;> simp
@[simp] theorem State.takeShare_sweep : (State.takeShare resets s n).sweep = s.sweep := by
  unfold State.takeShare; split <;> simp
@[simp] theorem State.takeShare_nodeCfg : (State.takeShare resets s n).nodeCfg = s.nodeCfg := by
  unfold State.takeShare; split <;> simp
@[simp] theorem State.takeShare_nodeRun : (State.takeShare resets s n).nodeRun = s.nodeRun := by
  unfold State.takeShare; split <;> simp
@[simp] theorem State.takeShare_chanCfg : (State.takeShare resets s n).chanCfg = s.chanCfg := by
  unfold State.takeShare; split <;> simp
@[simp] theorem State.takeShare_settings : (State.takeShare resets s n).settings = s.settings := by
  unfold State.takeShare; split <;> simp
@[simp] theorem State.takeShare_uplink : (State.takeShare resets s n).uplink = s.uplink := by
  unfold State.takeShare; split <;> simp
@[simp] theorem State.takeShare_conf : (State.takeShare resets s n).conf = s.conf := by
  unfold State.takeShare; split <;> simp
@[simp] theorem State.takeShare_links : (State.takeShare resets s n).links = s.links := by
  unfold State.takeShare; split <;> simp
@[simp] theorem State.takeShare_trunk : (State.takeShare resets s n).trunk = s.trunk := by
  unfold State.takeShare; split <;> simp
@[simp] theorem State.takeShare_relay : (State.takeShare resets s n).relay = s.relay := by
  unfold State.takeShare; split <;> simp
@[simp] theorem State.takeShare_inbox : (State.takeShare resets s n).inbox = s.inbox := by
  unfold State.takeShare; split <;> simp
@[simp] theorem State.takeShare_handed : (State.takeShare resets s n).handed = s.handed := by
  unfold State.takeShare; split <;> simp
@[simp] theorem State.takeShare_notices : (State.takeShare resets s n).notices = s.notices := by
  unfold State.takeShare; split <;> simp
@[simp] theorem State.takeShare_drops : (State.takeShare resets s n).drops = s.drops := by
  unfold State.takeShare; split <;> simp
@[simp] theorem State.takeShare_choices : (State.takeShare resets s n).choices = s.choices := by
  unfold State.takeShare; split <;> simp
@[simp] theorem State.takeShare_pending : (State.takeShare resets s n).pending = s.pending := by
  unfold State.takeShare; split <;> simp

end

/-! ### `takeShareOf` -/

section

variable (s : State) (resets : List (Fin 256)) (c : Fin 256)

@[simp] theorem State.takeShareOf_now : (s.takeShareOf resets c).now = s.now := by
  unfold State.takeShareOf; split <;> simp
@[simp] theorem State.takeShareOf_sweep : (s.takeShareOf resets c).sweep = s.sweep := by
  unfold State.takeShareOf; split <;> simp
@[simp] theorem State.takeShareOf_nodeCfg : (s.takeShareOf resets c).nodeCfg = s.nodeCfg := by
  unfold State.takeShareOf; split <;> simp
@[simp] theorem State.takeShareOf_nodeRun : (s.takeShareOf resets c).nodeRun = s.nodeRun := by
  unfold State.takeShareOf; split <;> simp
@[simp] theorem State.takeShareOf_chanCfg : (s.takeShareOf resets c).chanCfg = s.chanCfg := by
  unfold State.takeShareOf; split <;> simp
@[simp] theorem State.takeShareOf_settings : (s.takeShareOf resets c).settings = s.settings := by
  unfold State.takeShareOf; split <;> simp
@[simp] theorem State.takeShareOf_uplink : (s.takeShareOf resets c).uplink = s.uplink := by
  unfold State.takeShareOf; split <;> simp
@[simp] theorem State.takeShareOf_conf : (s.takeShareOf resets c).conf = s.conf := by
  unfold State.takeShareOf; split <;> simp
@[simp] theorem State.takeShareOf_links : (s.takeShareOf resets c).links = s.links := by
  unfold State.takeShareOf; split <;> simp
@[simp] theorem State.takeShareOf_trunk : (s.takeShareOf resets c).trunk = s.trunk := by
  unfold State.takeShareOf; split <;> simp
@[simp] theorem State.takeShareOf_relay : (s.takeShareOf resets c).relay = s.relay := by
  unfold State.takeShareOf; split <;> simp
@[simp] theorem State.takeShareOf_inbox : (s.takeShareOf resets c).inbox = s.inbox := by
  unfold State.takeShareOf; split <;> simp
@[simp] theorem State.takeShareOf_handed : (s.takeShareOf resets c).handed = s.handed := by
  unfold State.takeShareOf; split <;> simp
@[simp] theorem State.takeShareOf_drops : (s.takeShareOf resets c).drops = s.drops := by
  unfold State.takeShareOf; split <;> simp
@[simp] theorem State.takeShareOf_choices : (s.takeShareOf resets c).choices = s.choices := by
  unfold State.takeShareOf; split <;> simp
@[simp] theorem State.takeShareOf_pending : (s.takeShareOf resets c).pending = s.pending := by
  unfold State.takeShareOf; split <;> simp

end

/-! ### `takeShares` -/

section

variable (s : State) (late resets : List (Fin 256))

@[simp] theorem State.takeShares_now : (s.takeShares late resets).now = s.now := by
  unfold State.takeShares
  rw [State.foldl_keeps State.now (State.takeShare resets) (fun _ _ => by simp)]
@[simp] theorem State.takeShares_sweep : (s.takeShares late resets).sweep = s.sweep := by
  unfold State.takeShares
  rw [State.foldl_keeps State.sweep (State.takeShare resets) (fun _ _ => by simp)]
@[simp] theorem State.takeShares_nodeCfg : (s.takeShares late resets).nodeCfg = s.nodeCfg := by
  unfold State.takeShares
  rw [State.foldl_keeps State.nodeCfg (State.takeShare resets) (fun _ _ => by simp)]
@[simp] theorem State.takeShares_nodeRun : (s.takeShares late resets).nodeRun = s.nodeRun := by
  unfold State.takeShares
  rw [State.foldl_keeps State.nodeRun (State.takeShare resets) (fun _ _ => by simp)]
@[simp] theorem State.takeShares_chanCfg : (s.takeShares late resets).chanCfg = s.chanCfg := by
  unfold State.takeShares
  rw [State.foldl_keeps State.chanCfg (State.takeShare resets) (fun _ _ => by simp)]
@[simp] theorem State.takeShares_settings : (s.takeShares late resets).settings = s.settings := by
  unfold State.takeShares
  rw [State.foldl_keeps State.settings (State.takeShare resets) (fun _ _ => by simp)]
@[simp] theorem State.takeShares_uplink : (s.takeShares late resets).uplink = s.uplink := by
  unfold State.takeShares
  rw [State.foldl_keeps State.uplink (State.takeShare resets) (fun _ _ => by simp)]
@[simp] theorem State.takeShares_conf : (s.takeShares late resets).conf = s.conf := by
  unfold State.takeShares
  rw [State.foldl_keeps State.conf (State.takeShare resets) (fun _ _ => by simp)]
@[simp] theorem State.takeShares_links : (s.takeShares late resets).links = s.links := by
  unfold State.takeShares
  rw [State.foldl_keeps State.links (State.takeShare resets) (fun _ _ => by simp)]
@[simp] theorem State.takeShares_trunk : (s.takeShares late resets).trunk = s.trunk := by
  unfold State.takeShares
  rw [State.foldl_keeps State.trunk (State.takeShare resets) (fun _ _ => by simp)]
@[simp] theorem State.takeShares_relay : (s.takeShares late resets).relay = s.relay := by
  unfold State.takeShares
  rw [State.foldl_keeps State.relay (State.takeShare resets) (fun _ _ => by simp)]
@[simp] theorem State.takeShares_inbox : (s.takeShares late resets).inbox = s.inbox := by
  unfold State.takeShares
  rw [State.foldl_keeps State.inbox (State.takeShare resets) (fun _ _ => by simp)]
@[simp] theorem State.takeShares_handed : (s.takeShares late resets).handed = s.handed := by
  unfold State.takeShares
  rw [State.foldl_keeps State.handed (State.takeShare resets) (fun _ _ => by simp)]
@[simp] theorem State.takeShares_drops : (s.takeShares late resets).drops = s.drops := by
  unfold State.takeShares
  rw [State.foldl_keeps State.drops (State.takeShare resets) (fun _ _ => by simp)]
@[simp] theorem State.takeShares_choices : (s.takeShares late resets).choices = s.choices := by
  unfold State.takeShares
  rw [State.foldl_keeps State.choices (State.takeShare resets) (fun _ _ => by simp)]
@[simp] theorem State.takeShares_pending : (s.takeShares late resets).pending = s.pending := by
  unfold State.takeShares
  rw [State.foldl_keeps State.pending (State.takeShare resets) (fun _ _ => by simp)]

end

/-! ### `takeNotice` -/

section

variable (s : State) (resets : List (Fin 256)) (n : Notice)

@[simp] theorem State.takeNotice_now : (s.takeNotice resets n).now = s.now := by cases n <;> simp [State.takeNotice]
@[simp] theorem State.takeNotice_sweep : (s.takeNotice resets n).sweep = s.sweep := by cases n <;> simp [State.takeNotice]
@[simp] theorem State.takeNotice_nodeCfg : (s.takeNotice resets n).nodeCfg = s.nodeCfg := by cases n <;> simp [State.takeNotice]
@[simp] theorem State.takeNotice_nodeRun : (s.takeNotice resets n).nodeRun = s.nodeRun := by cases n <;> simp [State.takeNotice]
@[simp] theorem State.takeNotice_chanCfg : (s.takeNotice resets n).chanCfg = s.chanCfg := by cases n <;> simp [State.takeNotice]
@[simp] theorem State.takeNotice_settings : (s.takeNotice resets n).settings = s.settings := by cases n <;> simp [State.takeNotice]
@[simp] theorem State.takeNotice_uplink : (s.takeNotice resets n).uplink = s.uplink := by cases n <;> simp [State.takeNotice]
@[simp] theorem State.takeNotice_conf : (s.takeNotice resets n).conf = s.conf := by cases n <;> simp [State.takeNotice]
@[simp] theorem State.takeNotice_links : (s.takeNotice resets n).links = s.links := by cases n <;> simp [State.takeNotice]
@[simp] theorem State.takeNotice_trunk : (s.takeNotice resets n).trunk = s.trunk := by cases n <;> simp [State.takeNotice]
@[simp] theorem State.takeNotice_relay : (s.takeNotice resets n).relay = s.relay := by cases n <;> simp [State.takeNotice]
@[simp] theorem State.takeNotice_inbox : (s.takeNotice resets n).inbox = s.inbox := by cases n <;> simp [State.takeNotice]
@[simp] theorem State.takeNotice_handed : (s.takeNotice resets n).handed = s.handed := by cases n <;> simp [State.takeNotice]
@[simp] theorem State.takeNotice_choices : (s.takeNotice resets n).choices = s.choices := by cases n <;> simp [State.takeNotice]
@[simp] theorem State.takeNotice_pending : (s.takeNotice resets n).pending = s.pending := by cases n <;> simp [State.takeNotice]

end

/-! ### `takeSample` -/

section

variable (s : State) (between : List (Fin 256 × Notice)) (resets : List (Fin 256)) (d : HandedSample)

@[simp] theorem State.takeSample_now : (s.takeSample between resets d).now = s.now := by
  unfold State.takeSample
  rw [State.judgeSample_now, State.foldl_keeps State.now _ (fun _ _ => by simp)]
@[simp] theorem State.takeSample_sweep : (s.takeSample between resets d).sweep = s.sweep := by
  unfold State.takeSample
  rw [State.judgeSample_sweep, State.foldl_keeps State.sweep _ (fun _ _ => by simp)]
@[simp] theorem State.takeSample_nodeCfg : (s.takeSample between resets d).nodeCfg = s.nodeCfg := by
  unfold State.takeSample
  rw [State.judgeSample_nodeCfg, State.foldl_keeps State.nodeCfg _ (fun _ _ => by simp)]
@[simp] theorem State.takeSample_nodeRun : (s.takeSample between resets d).nodeRun = s.nodeRun := by
  unfold State.takeSample
  rw [State.judgeSample_nodeRun, State.foldl_keeps State.nodeRun _ (fun _ _ => by simp)]
@[simp] theorem State.takeSample_chanCfg : (s.takeSample between resets d).chanCfg = s.chanCfg := by
  unfold State.takeSample
  rw [State.judgeSample_chanCfg, State.foldl_keeps State.chanCfg _ (fun _ _ => by simp)]
@[simp] theorem State.takeSample_settings : (s.takeSample between resets d).settings = s.settings := by
  unfold State.takeSample
  rw [State.judgeSample_settings, State.foldl_keeps State.settings _ (fun _ _ => by simp)]
@[simp] theorem State.takeSample_uplink : (s.takeSample between resets d).uplink = s.uplink := by
  unfold State.takeSample
  rw [State.judgeSample_uplink, State.foldl_keeps State.uplink _ (fun _ _ => by simp)]
@[simp] theorem State.takeSample_conf : (s.takeSample between resets d).conf = s.conf := by
  unfold State.takeSample
  rw [State.judgeSample_conf, State.foldl_keeps State.conf _ (fun _ _ => by simp)]
@[simp] theorem State.takeSample_links : (s.takeSample between resets d).links = s.links := by
  unfold State.takeSample
  rw [State.judgeSample_links, State.foldl_keeps State.links _ (fun _ _ => by simp)]
@[simp] theorem State.takeSample_trunk : (s.takeSample between resets d).trunk = s.trunk := by
  unfold State.takeSample
  rw [State.judgeSample_trunk, State.foldl_keeps State.trunk _ (fun _ _ => by simp)]
@[simp] theorem State.takeSample_relay : (s.takeSample between resets d).relay = s.relay := by
  unfold State.takeSample
  rw [State.judgeSample_relay, State.foldl_keeps State.relay _ (fun _ _ => by simp)]
@[simp] theorem State.takeSample_inbox : (s.takeSample between resets d).inbox = s.inbox := by
  unfold State.takeSample
  rw [State.judgeSample_inbox, State.foldl_keeps State.inbox _ (fun _ _ => by simp)]
@[simp] theorem State.takeSample_handed : (s.takeSample between resets d).handed = s.handed := by
  unfold State.takeSample
  rw [State.judgeSample_handed, State.foldl_keeps State.handed _ (fun _ _ => by simp)]
@[simp] theorem State.takeSample_choices : (s.takeSample between resets d).choices = s.choices := by
  unfold State.takeSample
  rw [State.judgeSample_choices, State.foldl_keeps State.choices _ (fun _ _ => by simp)]
@[simp] theorem State.takeSample_pending : (s.takeSample between resets d).pending = s.pending := by
  unfold State.takeSample
  rw [State.judgeSample_pending, State.foldl_keeps State.pending _ (fun _ _ => by simp)]

end

/-! ### `takeDelivery` -/

section

variable (s : State) (between : List (Fin 256 × Notice)) (resets : List (Fin 256))

@[simp] theorem State.takeDelivery_now : (s.takeDelivery between resets).now = s.now := by
  unfold State.takeDelivery; split
  · rfl
  · rw [State.foldl_keeps State.now _ (fun _ _ => by simp)]
@[simp] theorem State.takeDelivery_sweep : (s.takeDelivery between resets).sweep = s.sweep := by
  unfold State.takeDelivery; split
  · rfl
  · rw [State.foldl_keeps State.sweep _ (fun _ _ => by simp)]
@[simp] theorem State.takeDelivery_nodeCfg : (s.takeDelivery between resets).nodeCfg = s.nodeCfg := by
  unfold State.takeDelivery; split
  · rfl
  · rw [State.foldl_keeps State.nodeCfg _ (fun _ _ => by simp)]
@[simp] theorem State.takeDelivery_nodeRun : (s.takeDelivery between resets).nodeRun = s.nodeRun := by
  unfold State.takeDelivery; split
  · rfl
  · rw [State.foldl_keeps State.nodeRun _ (fun _ _ => by simp)]
@[simp] theorem State.takeDelivery_chanCfg : (s.takeDelivery between resets).chanCfg = s.chanCfg := by
  unfold State.takeDelivery; split
  · rfl
  · rw [State.foldl_keeps State.chanCfg _ (fun _ _ => by simp)]
@[simp] theorem State.takeDelivery_settings : (s.takeDelivery between resets).settings = s.settings := by
  unfold State.takeDelivery; split
  · rfl
  · rw [State.foldl_keeps State.settings _ (fun _ _ => by simp)]
@[simp] theorem State.takeDelivery_uplink : (s.takeDelivery between resets).uplink = s.uplink := by
  unfold State.takeDelivery; split
  · rfl
  · rw [State.foldl_keeps State.uplink _ (fun _ _ => by simp)]
@[simp] theorem State.takeDelivery_conf : (s.takeDelivery between resets).conf = s.conf := by
  unfold State.takeDelivery; split
  · rfl
  · rw [State.foldl_keeps State.conf _ (fun _ _ => by simp)]
@[simp] theorem State.takeDelivery_links : (s.takeDelivery between resets).links = s.links := by
  unfold State.takeDelivery; split
  · rfl
  · rw [State.foldl_keeps State.links _ (fun _ _ => by simp)]
@[simp] theorem State.takeDelivery_trunk : (s.takeDelivery between resets).trunk = s.trunk := by
  unfold State.takeDelivery; split
  · rfl
  · rw [State.foldl_keeps State.trunk _ (fun _ _ => by simp)]
@[simp] theorem State.takeDelivery_relay : (s.takeDelivery between resets).relay = s.relay := by
  unfold State.takeDelivery; split
  · rfl
  · rw [State.foldl_keeps State.relay _ (fun _ _ => by simp)]
@[simp] theorem State.takeDelivery_inbox : (s.takeDelivery between resets).inbox = s.inbox := by
  unfold State.takeDelivery; split
  · rfl
  · rw [State.foldl_keeps State.inbox _ (fun _ _ => by simp)]
@[simp] theorem State.takeDelivery_choices : (s.takeDelivery between resets).choices = s.choices := by
  unfold State.takeDelivery; split
  · rfl
  · rw [State.foldl_keeps State.choices _ (fun _ _ => by simp)]
@[simp] theorem State.takeDelivery_pending : (s.takeDelivery between resets).pending = s.pending := by
  unfold State.takeDelivery; split
  · rfl
  · rw [State.foldl_keeps State.pending _ (fun _ _ => by simp)]

end

/-! ### `takeDeliveries` -/

section

variable (s : State) (between : List (Fin 256 × Notice)) (resets : List (Fin 256))

@[simp] theorem State.takeDeliveries_now : (s.takeDeliveries between resets).now = s.now := by
  unfold State.takeDeliveries
  rw [State.foldl_keeps State.now _ (fun _ _ => by simp)]
@[simp] theorem State.takeDeliveries_sweep : (s.takeDeliveries between resets).sweep = s.sweep := by
  unfold State.takeDeliveries
  rw [State.foldl_keeps State.sweep _ (fun _ _ => by simp)]
@[simp] theorem State.takeDeliveries_nodeCfg : (s.takeDeliveries between resets).nodeCfg = s.nodeCfg := by
  unfold State.takeDeliveries
  rw [State.foldl_keeps State.nodeCfg _ (fun _ _ => by simp)]
@[simp] theorem State.takeDeliveries_nodeRun : (s.takeDeliveries between resets).nodeRun = s.nodeRun := by
  unfold State.takeDeliveries
  rw [State.foldl_keeps State.nodeRun _ (fun _ _ => by simp)]
@[simp] theorem State.takeDeliveries_chanCfg : (s.takeDeliveries between resets).chanCfg = s.chanCfg := by
  unfold State.takeDeliveries
  rw [State.foldl_keeps State.chanCfg _ (fun _ _ => by simp)]
@[simp] theorem State.takeDeliveries_settings : (s.takeDeliveries between resets).settings = s.settings := by
  unfold State.takeDeliveries
  rw [State.foldl_keeps State.settings _ (fun _ _ => by simp)]
@[simp] theorem State.takeDeliveries_uplink : (s.takeDeliveries between resets).uplink = s.uplink := by
  unfold State.takeDeliveries
  rw [State.foldl_keeps State.uplink _ (fun _ _ => by simp)]
@[simp] theorem State.takeDeliveries_conf : (s.takeDeliveries between resets).conf = s.conf := by
  unfold State.takeDeliveries
  rw [State.foldl_keeps State.conf _ (fun _ _ => by simp)]
@[simp] theorem State.takeDeliveries_links : (s.takeDeliveries between resets).links = s.links := by
  unfold State.takeDeliveries
  rw [State.foldl_keeps State.links _ (fun _ _ => by simp)]
@[simp] theorem State.takeDeliveries_trunk : (s.takeDeliveries between resets).trunk = s.trunk := by
  unfold State.takeDeliveries
  rw [State.foldl_keeps State.trunk _ (fun _ _ => by simp)]
@[simp] theorem State.takeDeliveries_relay : (s.takeDeliveries between resets).relay = s.relay := by
  unfold State.takeDeliveries
  rw [State.foldl_keeps State.relay _ (fun _ _ => by simp)]
@[simp] theorem State.takeDeliveries_inbox : (s.takeDeliveries between resets).inbox = s.inbox := by
  unfold State.takeDeliveries
  rw [State.foldl_keeps State.inbox _ (fun _ _ => by simp)]
@[simp] theorem State.takeDeliveries_choices : (s.takeDeliveries between resets).choices = s.choices := by
  unfold State.takeDeliveries
  rw [State.foldl_keeps State.choices _ (fun _ _ => by simp)]
@[simp] theorem State.takeDeliveries_pending : (s.takeDeliveries between resets).pending = s.pending := by
  unfold State.takeDeliveries
  rw [State.foldl_keeps State.pending _ (fun _ _ => by simp)]

end

/-! ### `take` -/

section

variable (s : State) (between : List (Fin 256 × Notice)) (resets : List (Fin 256)) (a : FilterAct)

@[simp] theorem State.take_now : (s.take between resets a).now = s.now := by cases a <;> simp [State.take]
@[simp] theorem State.take_sweep : (s.take between resets a).sweep = s.sweep := by cases a <;> simp [State.take]
@[simp] theorem State.take_nodeCfg : (s.take between resets a).nodeCfg = s.nodeCfg := by cases a <;> simp [State.take]
@[simp] theorem State.take_nodeRun : (s.take between resets a).nodeRun = s.nodeRun := by cases a <;> simp [State.take]
@[simp] theorem State.take_chanCfg : (s.take between resets a).chanCfg = s.chanCfg := by cases a <;> simp [State.take]
@[simp] theorem State.take_settings : (s.take between resets a).settings = s.settings := by cases a <;> simp [State.take]
@[simp] theorem State.take_uplink : (s.take between resets a).uplink = s.uplink := by cases a <;> simp [State.take]
@[simp] theorem State.take_conf : (s.take between resets a).conf = s.conf := by cases a <;> simp [State.take]
@[simp] theorem State.take_links : (s.take between resets a).links = s.links := by cases a <;> simp [State.take]
@[simp] theorem State.take_trunk : (s.take between resets a).trunk = s.trunk := by cases a <;> simp [State.take]
@[simp] theorem State.take_relay : (s.take between resets a).relay = s.relay := by cases a <;> simp [State.take]
@[simp] theorem State.take_inbox : (s.take between resets a).inbox = s.inbox := by cases a <;> simp [State.take]
@[simp] theorem State.take_choices : (s.take between resets a).choices = s.choices := by cases a <;> simp [State.take]
@[simp] theorem State.take_pending : (s.take between resets a).pending = s.pending := by cases a <;> simp [State.take]

end

/-! ### `keepShares` -/

section

variable (s : State) (resets : List (Fin 256))

@[simp] theorem State.keepShares_now : (s.keepShares resets).now = s.now := rfl
@[simp] theorem State.keepShares_sweep : (s.keepShares resets).sweep = s.sweep := rfl
@[simp] theorem State.keepShares_nodeCfg : (s.keepShares resets).nodeCfg = s.nodeCfg := rfl
@[simp] theorem State.keepShares_nodeRun : (s.keepShares resets).nodeRun = s.nodeRun := rfl
@[simp] theorem State.keepShares_chanCfg : (s.keepShares resets).chanCfg = s.chanCfg := rfl
@[simp] theorem State.keepShares_chanRun : (s.keepShares resets).chanRun = s.chanRun := rfl
@[simp] theorem State.keepShares_settings : (s.keepShares resets).settings = s.settings := rfl
@[simp] theorem State.keepShares_store : (s.keepShares resets).store = s.store := rfl
@[simp] theorem State.keepShares_uplink : (s.keepShares resets).uplink = s.uplink := rfl
@[simp] theorem State.keepShares_conf : (s.keepShares resets).conf = s.conf := rfl
@[simp] theorem State.keepShares_links : (s.keepShares resets).links = s.links := rfl
@[simp] theorem State.keepShares_trunk : (s.keepShares resets).trunk = s.trunk := rfl
@[simp] theorem State.keepShares_mgmt : (s.keepShares resets).mgmt = s.mgmt := rfl
@[simp] theorem State.keepShares_relay : (s.keepShares resets).relay = s.relay := rfl
@[simp] theorem State.keepShares_latch : (s.keepShares resets).latch = s.latch := rfl
@[simp] theorem State.keepShares_bank : (s.keepShares resets).bank = s.bank := rfl
@[simp] theorem State.keepShares_inbox : (s.keepShares resets).inbox = s.inbox := rfl
@[simp] theorem State.keepShares_handed : (s.keepShares resets).handed = s.handed := rfl
@[simp] theorem State.keepShares_drops : (s.keepShares resets).drops = s.drops := rfl
@[simp] theorem State.keepShares_choices : (s.keepShares resets).choices = s.choices := rfl
@[simp] theorem State.keepShares_pending : (s.keepShares resets).pending = s.pending := rfl

end

/-! ### `settle` -/

section

variable (s : State) (c : Choice)

@[simp] theorem State.settle_now : (s.settle c).now = s.now := by
  unfold State.settle; dsimp only; split <;> simp [State.foldl_keeps State.now (State.take c.between []) (fun _ _ => by simp)]
@[simp] theorem State.settle_sweep : (s.settle c).sweep = s.sweep := by
  unfold State.settle; dsimp only; split <;> simp [State.foldl_keeps State.sweep (State.take c.between []) (fun _ _ => by simp)]
@[simp] theorem State.settle_nodeCfg : (s.settle c).nodeCfg = s.nodeCfg := by
  unfold State.settle; dsimp only; split <;> simp [State.foldl_keeps State.nodeCfg (State.take c.between []) (fun _ _ => by simp)]
@[simp] theorem State.settle_nodeRun : (s.settle c).nodeRun = s.nodeRun := by
  unfold State.settle; dsimp only; split <;> simp [State.foldl_keeps State.nodeRun (State.take c.between []) (fun _ _ => by simp)]
@[simp] theorem State.settle_chanCfg : (s.settle c).chanCfg = s.chanCfg := by
  unfold State.settle; dsimp only; split <;> simp [State.foldl_keeps State.chanCfg (State.take c.between []) (fun _ _ => by simp)]
@[simp] theorem State.settle_settings : (s.settle c).settings = s.settings := by
  unfold State.settle; dsimp only; split <;> simp [State.foldl_keeps State.settings (State.take c.between []) (fun _ _ => by simp)]
@[simp] theorem State.settle_uplink : (s.settle c).uplink = s.uplink := by
  unfold State.settle; dsimp only; split <;> simp [State.foldl_keeps State.uplink (State.take c.between []) (fun _ _ => by simp)]
@[simp] theorem State.settle_conf : (s.settle c).conf = s.conf := by
  unfold State.settle; dsimp only; split <;> simp [State.foldl_keeps State.conf (State.take c.between []) (fun _ _ => by simp)]
@[simp] theorem State.settle_links : (s.settle c).links = s.links := by
  unfold State.settle; dsimp only; split <;> simp [State.foldl_keeps State.links (State.take c.between []) (fun _ _ => by simp)]
@[simp] theorem State.settle_trunk : (s.settle c).trunk = s.trunk := by
  unfold State.settle; dsimp only; split <;> simp [State.foldl_keeps State.trunk (State.take c.between []) (fun _ _ => by simp)]
@[simp] theorem State.settle_relay : (s.settle c).relay = s.relay := by
  unfold State.settle; dsimp only; split <;> simp [State.foldl_keeps State.relay (State.take c.between []) (fun _ _ => by simp)]
@[simp] theorem State.settle_inbox : (s.settle c).inbox = s.inbox := by
  unfold State.settle; dsimp only; split <;> simp [State.foldl_keeps State.inbox (State.take c.between []) (fun _ _ => by simp)]
@[simp] theorem State.settle_choices : (s.settle c).choices = s.choices := by
  unfold State.settle; dsimp only; split <;> simp [State.foldl_keeps State.choices (State.take c.between []) (fun _ _ => by simp)]
@[simp] theorem State.settle_pending : (s.settle c).pending = s.pending := by
  unfold State.settle; dsimp only; split <;> simp [State.foldl_keeps State.pending (State.take c.between []) (fun _ _ => by simp)]

end

/-! ### `sendLoss` -/

section

variable (s : State) (n : NodeConfig) (closing : Word)

@[simp] theorem State.sendLoss_now : (s.sendLoss n closing).now = s.now := rfl
@[simp] theorem State.sendLoss_sweep : (s.sendLoss n closing).sweep = s.sweep := rfl
@[simp] theorem State.sendLoss_nodeCfg : (s.sendLoss n closing).nodeCfg = s.nodeCfg := rfl
@[simp] theorem State.sendLoss_nodeRun : (s.sendLoss n closing).nodeRun = s.nodeRun := rfl
@[simp] theorem State.sendLoss_chanCfg : (s.sendLoss n closing).chanCfg = s.chanCfg := rfl
@[simp] theorem State.sendLoss_chanRun : (s.sendLoss n closing).chanRun = s.chanRun := rfl
@[simp] theorem State.sendLoss_settings : (s.sendLoss n closing).settings = s.settings := rfl
@[simp] theorem State.sendLoss_store : (s.sendLoss n closing).store = s.store := rfl
@[simp] theorem State.sendLoss_uplink : (s.sendLoss n closing).uplink = s.uplink := rfl
@[simp] theorem State.sendLoss_conf : (s.sendLoss n closing).conf = s.conf := rfl
@[simp] theorem State.sendLoss_links : (s.sendLoss n closing).links = s.links := rfl
@[simp] theorem State.sendLoss_trunk : (s.sendLoss n closing).trunk = s.trunk := rfl
@[simp] theorem State.sendLoss_mgmt : (s.sendLoss n closing).mgmt = s.mgmt := rfl
@[simp] theorem State.sendLoss_relay : (s.sendLoss n closing).relay = s.relay := rfl
@[simp] theorem State.sendLoss_latch : (s.sendLoss n closing).latch = s.latch := rfl
@[simp] theorem State.sendLoss_bank : (s.sendLoss n closing).bank = s.bank := rfl
@[simp] theorem State.sendLoss_inbox : (s.sendLoss n closing).inbox = s.inbox := rfl
@[simp] theorem State.sendLoss_handed : (s.sendLoss n closing).handed = s.handed := rfl
@[simp] theorem State.sendLoss_drops : (s.sendLoss n closing).drops = s.drops := rfl
@[simp] theorem State.sendLoss_choices : (s.sendLoss n closing).choices = s.choices := rfl
@[simp] theorem State.sendLoss_pending : (s.sendLoss n closing).pending = s.pending := rfl

end

/-! ### `judgeNode` -/

section

variable (s : State) (i : Fin 24) (closing : Word)

@[simp] theorem State.judgeNode_now : (s.judgeNode i closing).now = s.now := by
  unfold State.judgeNode; dsimp only; split_ifs <;> simp
@[simp] theorem State.judgeNode_sweep : (s.judgeNode i closing).sweep = s.sweep := by
  unfold State.judgeNode; dsimp only; split_ifs <;> simp
@[simp] theorem State.judgeNode_nodeCfg : (s.judgeNode i closing).nodeCfg = s.nodeCfg := by
  unfold State.judgeNode; dsimp only; split_ifs <;> simp
@[simp] theorem State.judgeNode_chanCfg : (s.judgeNode i closing).chanCfg = s.chanCfg := by
  unfold State.judgeNode; dsimp only; split_ifs <;> simp
@[simp] theorem State.judgeNode_chanRun : (s.judgeNode i closing).chanRun = s.chanRun := by
  unfold State.judgeNode; dsimp only; split_ifs <;> simp
@[simp] theorem State.judgeNode_settings : (s.judgeNode i closing).settings = s.settings := by
  unfold State.judgeNode; dsimp only; split_ifs <;> simp
@[simp] theorem State.judgeNode_store : (s.judgeNode i closing).store = s.store := by
  unfold State.judgeNode; dsimp only; split_ifs <;> simp
@[simp] theorem State.judgeNode_uplink : (s.judgeNode i closing).uplink = s.uplink := by
  unfold State.judgeNode; dsimp only; split_ifs <;> simp
@[simp] theorem State.judgeNode_conf : (s.judgeNode i closing).conf = s.conf := by
  unfold State.judgeNode; dsimp only; split_ifs <;> simp
@[simp] theorem State.judgeNode_links : (s.judgeNode i closing).links = s.links := by
  unfold State.judgeNode; dsimp only; split_ifs <;> simp
@[simp] theorem State.judgeNode_trunk : (s.judgeNode i closing).trunk = s.trunk := by
  unfold State.judgeNode; dsimp only; split_ifs <;> simp
@[simp] theorem State.judgeNode_relay : (s.judgeNode i closing).relay = s.relay := by
  unfold State.judgeNode; dsimp only; split_ifs <;> simp
@[simp] theorem State.judgeNode_inbox : (s.judgeNode i closing).inbox = s.inbox := by
  unfold State.judgeNode; dsimp only; split_ifs <;> simp
@[simp] theorem State.judgeNode_handed : (s.judgeNode i closing).handed = s.handed := by
  unfold State.judgeNode; dsimp only; split_ifs <;> simp
@[simp] theorem State.judgeNode_drops : (s.judgeNode i closing).drops = s.drops := by
  unfold State.judgeNode; dsimp only; split_ifs <;> simp
@[simp] theorem State.judgeNode_choices : (s.judgeNode i closing).choices = s.choices := by
  unfold State.judgeNode; dsimp only; split_ifs <;> simp
@[simp] theorem State.judgeNode_pending : (s.judgeNode i closing).pending = s.pending := by
  unfold State.judgeNode; dsimp only; split_ifs <;> simp

end

/-! ### `dropArrival` -/

section

variable (s : State) (f : SegFrame)

@[simp] theorem State.dropArrival_now : (s.dropArrival f).now = s.now := rfl
@[simp] theorem State.dropArrival_sweep : (s.dropArrival f).sweep = s.sweep := rfl
@[simp] theorem State.dropArrival_nodeCfg : (s.dropArrival f).nodeCfg = s.nodeCfg := rfl
@[simp] theorem State.dropArrival_nodeRun : (s.dropArrival f).nodeRun = s.nodeRun := rfl
@[simp] theorem State.dropArrival_chanCfg : (s.dropArrival f).chanCfg = s.chanCfg := rfl
@[simp] theorem State.dropArrival_chanRun : (s.dropArrival f).chanRun = s.chanRun := rfl
@[simp] theorem State.dropArrival_settings : (s.dropArrival f).settings = s.settings := rfl
@[simp] theorem State.dropArrival_store : (s.dropArrival f).store = s.store := rfl
@[simp] theorem State.dropArrival_uplink : (s.dropArrival f).uplink = s.uplink := rfl
@[simp] theorem State.dropArrival_conf : (s.dropArrival f).conf = s.conf := rfl
@[simp] theorem State.dropArrival_links : (s.dropArrival f).links = s.links := rfl
@[simp] theorem State.dropArrival_trunk : (s.dropArrival f).trunk = s.trunk := rfl
@[simp] theorem State.dropArrival_mgmt : (s.dropArrival f).mgmt = s.mgmt := rfl
@[simp] theorem State.dropArrival_relay : (s.dropArrival f).relay = s.relay := rfl
@[simp] theorem State.dropArrival_latch : (s.dropArrival f).latch = s.latch := rfl
@[simp] theorem State.dropArrival_bank : (s.dropArrival f).bank = s.bank := rfl
@[simp] theorem State.dropArrival_handed : (s.dropArrival f).handed = s.handed := rfl
@[simp] theorem State.dropArrival_notices : (s.dropArrival f).notices = s.notices := rfl
@[simp] theorem State.dropArrival_drops : (s.dropArrival f).drops = s.drops := rfl
@[simp] theorem State.dropArrival_choices : (s.dropArrival f).choices = s.choices := rfl
@[simp] theorem State.dropArrival_pending : (s.dropArrival f).pending = s.pending := rfl

end

/-! ### `removeEntry` -/

section

variable (s : State) (q : Byte)

@[simp] theorem State.removeEntry_now : (s.removeEntry q).now = s.now := by simp [State.removeEntry]
@[simp] theorem State.removeEntry_sweep : (s.removeEntry q).sweep = s.sweep := by simp [State.removeEntry]
@[simp] theorem State.removeEntry_nodeCfg : (s.removeEntry q).nodeCfg = s.nodeCfg := by simp [State.removeEntry]
@[simp] theorem State.removeEntry_nodeRun : (s.removeEntry q).nodeRun = s.nodeRun := by simp [State.removeEntry]
@[simp] theorem State.removeEntry_chanCfg : (s.removeEntry q).chanCfg = s.chanCfg := by simp [State.removeEntry]
@[simp] theorem State.removeEntry_chanRun : (s.removeEntry q).chanRun = s.chanRun := by simp [State.removeEntry]
@[simp] theorem State.removeEntry_settings : (s.removeEntry q).settings = s.settings := by simp [State.removeEntry]
@[simp] theorem State.removeEntry_uplink : (s.removeEntry q).uplink = s.uplink := by simp [State.removeEntry]
@[simp] theorem State.removeEntry_links : (s.removeEntry q).links = s.links := by simp [State.removeEntry]
@[simp] theorem State.removeEntry_trunk : (s.removeEntry q).trunk = s.trunk := by simp [State.removeEntry]
@[simp] theorem State.removeEntry_mgmt : (s.removeEntry q).mgmt = s.mgmt := by simp [State.removeEntry]
@[simp] theorem State.removeEntry_relay : (s.removeEntry q).relay = s.relay := by simp [State.removeEntry]
@[simp] theorem State.removeEntry_bank : (s.removeEntry q).bank = s.bank := by simp [State.removeEntry]
@[simp] theorem State.removeEntry_inbox : (s.removeEntry q).inbox = s.inbox := by simp [State.removeEntry]
@[simp] theorem State.removeEntry_handed : (s.removeEntry q).handed = s.handed := by simp [State.removeEntry]
@[simp] theorem State.removeEntry_notices : (s.removeEntry q).notices = s.notices := by simp [State.removeEntry]
@[simp] theorem State.removeEntry_drops : (s.removeEntry q).drops = s.drops := by simp [State.removeEntry]
@[simp] theorem State.removeEntry_choices : (s.removeEntry q).choices = s.choices := by simp [State.removeEntry]
@[simp] theorem State.removeEntry_pending : (s.removeEntry q).pending = s.pending := by simp [State.removeEntry]

end

/-! ### `deliverEntry` -/

section

variable (s : State) (q : Byte)

@[simp] theorem State.deliverEntry_now : (s.deliverEntry q).now = s.now := by simp [State.deliverEntry]
@[simp] theorem State.deliverEntry_sweep : (s.deliverEntry q).sweep = s.sweep := by simp [State.deliverEntry]
@[simp] theorem State.deliverEntry_nodeCfg : (s.deliverEntry q).nodeCfg = s.nodeCfg := by simp [State.deliverEntry]
@[simp] theorem State.deliverEntry_nodeRun : (s.deliverEntry q).nodeRun = s.nodeRun := by simp [State.deliverEntry]
@[simp] theorem State.deliverEntry_chanCfg : (s.deliverEntry q).chanCfg = s.chanCfg := by simp [State.deliverEntry]
@[simp] theorem State.deliverEntry_chanRun : (s.deliverEntry q).chanRun = s.chanRun := by simp [State.deliverEntry]
@[simp] theorem State.deliverEntry_settings : (s.deliverEntry q).settings = s.settings := by simp [State.deliverEntry]
@[simp] theorem State.deliverEntry_uplink : (s.deliverEntry q).uplink = s.uplink := by simp [State.deliverEntry]
@[simp] theorem State.deliverEntry_links : (s.deliverEntry q).links = s.links := by simp [State.deliverEntry]
@[simp] theorem State.deliverEntry_trunk : (s.deliverEntry q).trunk = s.trunk := by simp [State.deliverEntry]
@[simp] theorem State.deliverEntry_mgmt : (s.deliverEntry q).mgmt = s.mgmt := by simp [State.deliverEntry]
@[simp] theorem State.deliverEntry_relay : (s.deliverEntry q).relay = s.relay := by simp [State.deliverEntry]
@[simp] theorem State.deliverEntry_inbox : (s.deliverEntry q).inbox = s.inbox := by simp [State.deliverEntry]
@[simp] theorem State.deliverEntry_handed : (s.deliverEntry q).handed = s.handed := by simp [State.deliverEntry]
@[simp] theorem State.deliverEntry_notices : (s.deliverEntry q).notices = s.notices := by simp [State.deliverEntry]
@[simp] theorem State.deliverEntry_drops : (s.deliverEntry q).drops = s.drops := by simp [State.deliverEntry]
@[simp] theorem State.deliverEntry_choices : (s.deliverEntry q).choices = s.choices := by simp [State.deliverEntry]
@[simp] theorem State.deliverEntry_pending : (s.deliverEntry q).pending = s.pending := by simp [State.deliverEntry]

end

/-! ### `abandonEntry` -/

section

variable (s : State) (e : Entry)

@[simp] theorem State.abandonEntry_now : (s.abandonEntry e).now = s.now := by simp [State.abandonEntry]
@[simp] theorem State.abandonEntry_sweep : (s.abandonEntry e).sweep = s.sweep := by simp [State.abandonEntry]
@[simp] theorem State.abandonEntry_nodeCfg : (s.abandonEntry e).nodeCfg = s.nodeCfg := by simp [State.abandonEntry]
@[simp] theorem State.abandonEntry_nodeRun : (s.abandonEntry e).nodeRun = s.nodeRun := by simp [State.abandonEntry]
@[simp] theorem State.abandonEntry_chanCfg : (s.abandonEntry e).chanCfg = s.chanCfg := by simp [State.abandonEntry]
@[simp] theorem State.abandonEntry_settings : (s.abandonEntry e).settings = s.settings := by simp [State.abandonEntry]
@[simp] theorem State.abandonEntry_uplink : (s.abandonEntry e).uplink = s.uplink := by simp [State.abandonEntry]
@[simp] theorem State.abandonEntry_links : (s.abandonEntry e).links = s.links := by simp [State.abandonEntry]
@[simp] theorem State.abandonEntry_trunk : (s.abandonEntry e).trunk = s.trunk := by simp [State.abandonEntry]
@[simp] theorem State.abandonEntry_relay : (s.abandonEntry e).relay = s.relay := by simp [State.abandonEntry]
@[simp] theorem State.abandonEntry_inbox : (s.abandonEntry e).inbox = s.inbox := by simp [State.abandonEntry]
@[simp] theorem State.abandonEntry_handed : (s.abandonEntry e).handed = s.handed := by simp [State.abandonEntry]
@[simp] theorem State.abandonEntry_notices : (s.abandonEntry e).notices = s.notices := by simp [State.abandonEntry]
@[simp] theorem State.abandonEntry_pending : (s.abandonEntry e).pending = s.pending := by simp [State.abandonEntry]

end

/-! ### `acknowledge` -/

section

variable (s : State) (q : Byte)

@[simp] theorem State.acknowledge_now : (s.acknowledge q).now = s.now := by
  unfold State.acknowledge; split
  · simp
  · split <;> simp
@[simp] theorem State.acknowledge_sweep : (s.acknowledge q).sweep = s.sweep := by
  unfold State.acknowledge; split
  · simp
  · split <;> simp
@[simp] theorem State.acknowledge_nodeCfg : (s.acknowledge q).nodeCfg = s.nodeCfg := by
  unfold State.acknowledge; split
  · simp
  · split <;> simp
@[simp] theorem State.acknowledge_nodeRun : (s.acknowledge q).nodeRun = s.nodeRun := by
  unfold State.acknowledge; split
  · simp
  · split <;> simp
@[simp] theorem State.acknowledge_chanCfg : (s.acknowledge q).chanCfg = s.chanCfg := by
  unfold State.acknowledge; split
  · simp
  · split <;> simp
@[simp] theorem State.acknowledge_chanRun : (s.acknowledge q).chanRun = s.chanRun := by
  unfold State.acknowledge; split
  · simp
  · split <;> simp
@[simp] theorem State.acknowledge_settings : (s.acknowledge q).settings = s.settings := by
  unfold State.acknowledge; split
  · simp
  · split <;> simp
@[simp] theorem State.acknowledge_uplink : (s.acknowledge q).uplink = s.uplink := by
  unfold State.acknowledge; split
  · simp
  · split <;> simp
@[simp] theorem State.acknowledge_links : (s.acknowledge q).links = s.links := by
  unfold State.acknowledge; split
  · simp
  · split <;> simp
@[simp] theorem State.acknowledge_trunk : (s.acknowledge q).trunk = s.trunk := by
  unfold State.acknowledge; split
  · simp
  · split <;> simp
@[simp] theorem State.acknowledge_mgmt : (s.acknowledge q).mgmt = s.mgmt := by
  unfold State.acknowledge; split
  · simp
  · split <;> simp
@[simp] theorem State.acknowledge_relay : (s.acknowledge q).relay = s.relay := by
  unfold State.acknowledge; split
  · simp
  · split <;> simp
@[simp] theorem State.acknowledge_inbox : (s.acknowledge q).inbox = s.inbox := by
  unfold State.acknowledge; split
  · simp
  · split <;> simp
@[simp] theorem State.acknowledge_handed : (s.acknowledge q).handed = s.handed := by
  unfold State.acknowledge; split
  · simp
  · split <;> simp
@[simp] theorem State.acknowledge_notices : (s.acknowledge q).notices = s.notices := by
  unfold State.acknowledge; split
  · simp
  · split <;> simp
@[simp] theorem State.acknowledge_drops : (s.acknowledge q).drops = s.drops := by
  unfold State.acknowledge; split
  · simp
  · split <;> simp
@[simp] theorem State.acknowledge_choices : (s.acknowledge q).choices = s.choices := by
  unfold State.acknowledge; split
  · simp
  · split <;> simp
@[simp] theorem State.acknowledge_pending : (s.acknowledge q).pending = s.pending := by
  unfold State.acknowledge; split
  · simp
  · split <;> simp

end

/-! ### `takeAck` -/

section

variable (s : State) (payload : List Byte)

@[simp] theorem State.takeAck_now : (s.takeAck payload).now = s.now := by
  unfold State.takeAck; split
  · exact State.foldl_keeps State.now State.acknowledge (fun _ _ => by simp) _ s
  · simp
@[simp] theorem State.takeAck_sweep : (s.takeAck payload).sweep = s.sweep := by
  unfold State.takeAck; split
  · exact State.foldl_keeps State.sweep State.acknowledge (fun _ _ => by simp) _ s
  · simp
@[simp] theorem State.takeAck_nodeCfg : (s.takeAck payload).nodeCfg = s.nodeCfg := by
  unfold State.takeAck; split
  · exact State.foldl_keeps State.nodeCfg State.acknowledge (fun _ _ => by simp) _ s
  · simp
@[simp] theorem State.takeAck_nodeRun : (s.takeAck payload).nodeRun = s.nodeRun := by
  unfold State.takeAck; split
  · exact State.foldl_keeps State.nodeRun State.acknowledge (fun _ _ => by simp) _ s
  · simp
@[simp] theorem State.takeAck_chanCfg : (s.takeAck payload).chanCfg = s.chanCfg := by
  unfold State.takeAck; split
  · exact State.foldl_keeps State.chanCfg State.acknowledge (fun _ _ => by simp) _ s
  · simp
@[simp] theorem State.takeAck_chanRun : (s.takeAck payload).chanRun = s.chanRun := by
  unfold State.takeAck; split
  · exact State.foldl_keeps State.chanRun State.acknowledge (fun _ _ => by simp) _ s
  · simp
@[simp] theorem State.takeAck_settings : (s.takeAck payload).settings = s.settings := by
  unfold State.takeAck; split
  · exact State.foldl_keeps State.settings State.acknowledge (fun _ _ => by simp) _ s
  · simp
@[simp] theorem State.takeAck_uplink : (s.takeAck payload).uplink = s.uplink := by
  unfold State.takeAck; split
  · exact State.foldl_keeps State.uplink State.acknowledge (fun _ _ => by simp) _ s
  · simp
@[simp] theorem State.takeAck_links : (s.takeAck payload).links = s.links := by
  unfold State.takeAck; split
  · exact State.foldl_keeps State.links State.acknowledge (fun _ _ => by simp) _ s
  · simp
@[simp] theorem State.takeAck_trunk : (s.takeAck payload).trunk = s.trunk := by
  unfold State.takeAck; split
  · exact State.foldl_keeps State.trunk State.acknowledge (fun _ _ => by simp) _ s
  · simp
@[simp] theorem State.takeAck_mgmt : (s.takeAck payload).mgmt = s.mgmt := by
  unfold State.takeAck; split
  · exact State.foldl_keeps State.mgmt State.acknowledge (fun _ _ => by simp) _ s
  · simp
@[simp] theorem State.takeAck_relay : (s.takeAck payload).relay = s.relay := by
  unfold State.takeAck; split
  · exact State.foldl_keeps State.relay State.acknowledge (fun _ _ => by simp) _ s
  · simp
@[simp] theorem State.takeAck_inbox : (s.takeAck payload).inbox = s.inbox := by
  unfold State.takeAck; split
  · exact State.foldl_keeps State.inbox State.acknowledge (fun _ _ => by simp) _ s
  · simp
@[simp] theorem State.takeAck_handed : (s.takeAck payload).handed = s.handed := by
  unfold State.takeAck; split
  · exact State.foldl_keeps State.handed State.acknowledge (fun _ _ => by simp) _ s
  · simp
@[simp] theorem State.takeAck_notices : (s.takeAck payload).notices = s.notices := by
  unfold State.takeAck; split
  · exact State.foldl_keeps State.notices State.acknowledge (fun _ _ => by simp) _ s
  · simp
@[simp] theorem State.takeAck_drops : (s.takeAck payload).drops = s.drops := by
  unfold State.takeAck; split
  · exact State.foldl_keeps State.drops State.acknowledge (fun _ _ => by simp) _ s
  · simp
@[simp] theorem State.takeAck_choices : (s.takeAck payload).choices = s.choices := by
  unfold State.takeAck; split
  · exact State.foldl_keeps State.choices State.acknowledge (fun _ _ => by simp) _ s
  · simp
@[simp] theorem State.takeAck_pending : (s.takeAck payload).pending = s.pending := by
  unfold State.takeAck; split
  · exact State.foldl_keeps State.pending State.acknowledge (fun _ _ => by simp) _ s
  · simp

end

/-! ### `urgentCompleted` -/

section

variable (s : State) (q : Byte)

@[simp] theorem State.urgentCompleted_now : (s.urgentCompleted q).now = s.now := by
  unfold State.urgentCompleted; split
  · rfl
  · split <;> simp
@[simp] theorem State.urgentCompleted_sweep : (s.urgentCompleted q).sweep = s.sweep := by
  unfold State.urgentCompleted; split
  · rfl
  · split <;> simp
@[simp] theorem State.urgentCompleted_nodeCfg : (s.urgentCompleted q).nodeCfg = s.nodeCfg := by
  unfold State.urgentCompleted; split
  · rfl
  · split <;> simp
@[simp] theorem State.urgentCompleted_nodeRun : (s.urgentCompleted q).nodeRun = s.nodeRun := by
  unfold State.urgentCompleted; split
  · rfl
  · split <;> simp
@[simp] theorem State.urgentCompleted_chanCfg : (s.urgentCompleted q).chanCfg = s.chanCfg := by
  unfold State.urgentCompleted; split
  · rfl
  · split <;> simp
@[simp] theorem State.urgentCompleted_chanRun : (s.urgentCompleted q).chanRun = s.chanRun := by
  unfold State.urgentCompleted; split
  · rfl
  · split <;> simp
@[simp] theorem State.urgentCompleted_settings : (s.urgentCompleted q).settings = s.settings := by
  unfold State.urgentCompleted; split
  · rfl
  · split <;> simp
@[simp] theorem State.urgentCompleted_uplink : (s.urgentCompleted q).uplink = s.uplink := by
  unfold State.urgentCompleted; split
  · rfl
  · split <;> simp
@[simp] theorem State.urgentCompleted_links : (s.urgentCompleted q).links = s.links := by
  unfold State.urgentCompleted; split
  · rfl
  · split <;> simp
@[simp] theorem State.urgentCompleted_trunk : (s.urgentCompleted q).trunk = s.trunk := by
  unfold State.urgentCompleted; split
  · rfl
  · split <;> simp
@[simp] theorem State.urgentCompleted_mgmt : (s.urgentCompleted q).mgmt = s.mgmt := by
  unfold State.urgentCompleted; split
  · rfl
  · split <;> simp
@[simp] theorem State.urgentCompleted_relay : (s.urgentCompleted q).relay = s.relay := by
  unfold State.urgentCompleted; split
  · rfl
  · split <;> simp
@[simp] theorem State.urgentCompleted_inbox : (s.urgentCompleted q).inbox = s.inbox := by
  unfold State.urgentCompleted; split
  · rfl
  · split <;> simp
@[simp] theorem State.urgentCompleted_handed : (s.urgentCompleted q).handed = s.handed := by
  unfold State.urgentCompleted; split
  · rfl
  · split <;> simp
@[simp] theorem State.urgentCompleted_notices : (s.urgentCompleted q).notices = s.notices := by
  unfold State.urgentCompleted; split
  · rfl
  · split <;> simp
@[simp] theorem State.urgentCompleted_drops : (s.urgentCompleted q).drops = s.drops := by
  unfold State.urgentCompleted; split
  · rfl
  · split <;> simp
@[simp] theorem State.urgentCompleted_choices : (s.urgentCompleted q).choices = s.choices := by
  unfold State.urgentCompleted; split
  · rfl
  · split <;> simp
@[simp] theorem State.urgentCompleted_pending : (s.urgentCompleted q).pending = s.pending := by
  unfold State.urgentCompleted; split
  · rfl
  · split <;> simp

end

/-! ### `urgentAborted` -/

section

variable (s : State) (q : Byte)

@[simp] theorem State.urgentAborted_now : (s.urgentAborted q).now = s.now := by
  unfold State.urgentAborted; split
  · rfl
  · split <;> simp
@[simp] theorem State.urgentAborted_sweep : (s.urgentAborted q).sweep = s.sweep := by
  unfold State.urgentAborted; split
  · rfl
  · split <;> simp
@[simp] theorem State.urgentAborted_nodeCfg : (s.urgentAborted q).nodeCfg = s.nodeCfg := by
  unfold State.urgentAborted; split
  · rfl
  · split <;> simp
@[simp] theorem State.urgentAborted_nodeRun : (s.urgentAborted q).nodeRun = s.nodeRun := by
  unfold State.urgentAborted; split
  · rfl
  · split <;> simp
@[simp] theorem State.urgentAborted_chanCfg : (s.urgentAborted q).chanCfg = s.chanCfg := by
  unfold State.urgentAborted; split
  · rfl
  · split <;> simp
@[simp] theorem State.urgentAborted_chanRun : (s.urgentAborted q).chanRun = s.chanRun := by
  unfold State.urgentAborted; split
  · rfl
  · split <;> simp
@[simp] theorem State.urgentAborted_settings : (s.urgentAborted q).settings = s.settings := by
  unfold State.urgentAborted; split
  · rfl
  · split <;> simp
@[simp] theorem State.urgentAborted_uplink : (s.urgentAborted q).uplink = s.uplink := by
  unfold State.urgentAborted; split
  · rfl
  · split <;> simp
@[simp] theorem State.urgentAborted_links : (s.urgentAborted q).links = s.links := by
  unfold State.urgentAborted; split
  · rfl
  · split <;> simp
@[simp] theorem State.urgentAborted_trunk : (s.urgentAborted q).trunk = s.trunk := by
  unfold State.urgentAborted; split
  · rfl
  · split <;> simp
@[simp] theorem State.urgentAborted_mgmt : (s.urgentAborted q).mgmt = s.mgmt := by
  unfold State.urgentAborted; split
  · rfl
  · split <;> simp
@[simp] theorem State.urgentAborted_relay : (s.urgentAborted q).relay = s.relay := by
  unfold State.urgentAborted; split
  · rfl
  · split <;> simp
@[simp] theorem State.urgentAborted_inbox : (s.urgentAborted q).inbox = s.inbox := by
  unfold State.urgentAborted; split
  · rfl
  · split <;> simp
@[simp] theorem State.urgentAborted_handed : (s.urgentAborted q).handed = s.handed := by
  unfold State.urgentAborted; split
  · rfl
  · split <;> simp
@[simp] theorem State.urgentAborted_notices : (s.urgentAborted q).notices = s.notices := by
  unfold State.urgentAborted; split
  · rfl
  · split <;> simp
@[simp] theorem State.urgentAborted_drops : (s.urgentAborted q).drops = s.drops := by
  unfold State.urgentAborted; split
  · rfl
  · split <;> simp
@[simp] theorem State.urgentAborted_choices : (s.urgentAborted q).choices = s.choices := by
  unfold State.urgentAborted; split
  · rfl
  · split <;> simp
@[simp] theorem State.urgentAborted_pending : (s.urgentAborted q).pending = s.pending := by
  unfold State.urgentAborted; split
  · rfl
  · split <;> simp

end

/-! ### `endRelay` -/

section

variable (s : State) (status : Status) (results : List Byte)

@[simp] theorem State.endRelay_now : (s.endRelay status results).now = s.now := by simp [State.endRelay]
@[simp] theorem State.endRelay_sweep : (s.endRelay status results).sweep = s.sweep := by simp [State.endRelay]
@[simp] theorem State.endRelay_nodeCfg : (s.endRelay status results).nodeCfg = s.nodeCfg := by simp [State.endRelay]
@[simp] theorem State.endRelay_nodeRun : (s.endRelay status results).nodeRun = s.nodeRun := by simp [State.endRelay]
@[simp] theorem State.endRelay_chanCfg : (s.endRelay status results).chanCfg = s.chanCfg := by simp [State.endRelay]
@[simp] theorem State.endRelay_chanRun : (s.endRelay status results).chanRun = s.chanRun := by simp [State.endRelay]
@[simp] theorem State.endRelay_settings : (s.endRelay status results).settings = s.settings := by simp [State.endRelay]
@[simp] theorem State.endRelay_store : (s.endRelay status results).store = s.store := by simp [State.endRelay]
@[simp] theorem State.endRelay_uplink : (s.endRelay status results).uplink = s.uplink := by simp [State.endRelay]
@[simp] theorem State.endRelay_conf : (s.endRelay status results).conf = s.conf := by simp [State.endRelay]
@[simp] theorem State.endRelay_links : (s.endRelay status results).links = s.links := by simp [State.endRelay]
@[simp] theorem State.endRelay_trunk : (s.endRelay status results).trunk = s.trunk := by simp [State.endRelay]
@[simp] theorem State.endRelay_latch : (s.endRelay status results).latch = s.latch := by simp [State.endRelay]
@[simp] theorem State.endRelay_bank : (s.endRelay status results).bank = s.bank := by simp [State.endRelay]
@[simp] theorem State.endRelay_inbox : (s.endRelay status results).inbox = s.inbox := by simp [State.endRelay]
@[simp] theorem State.endRelay_handed : (s.endRelay status results).handed = s.handed := by simp [State.endRelay]
@[simp] theorem State.endRelay_notices : (s.endRelay status results).notices = s.notices := by simp [State.endRelay]
@[simp] theorem State.endRelay_drops : (s.endRelay status results).drops = s.drops := by simp [State.endRelay]
@[simp] theorem State.endRelay_choices : (s.endRelay status results).choices = s.choices := by simp [State.endRelay]
@[simp] theorem State.endRelay_pending : (s.endRelay status results).pending = s.pending := by simp [State.endRelay]

end

/-! ### `relayLinkDown` -/

section

variable (s : State)

@[simp] theorem State.relayLinkDown_now : (s.relayLinkDown).now = s.now := by
  unfold State.relayLinkDown; split <;> simp
@[simp] theorem State.relayLinkDown_sweep : (s.relayLinkDown).sweep = s.sweep := by
  unfold State.relayLinkDown; split <;> simp
@[simp] theorem State.relayLinkDown_nodeCfg : (s.relayLinkDown).nodeCfg = s.nodeCfg := by
  unfold State.relayLinkDown; split <;> simp
@[simp] theorem State.relayLinkDown_nodeRun : (s.relayLinkDown).nodeRun = s.nodeRun := by
  unfold State.relayLinkDown; split <;> simp
@[simp] theorem State.relayLinkDown_chanCfg : (s.relayLinkDown).chanCfg = s.chanCfg := by
  unfold State.relayLinkDown; split <;> simp
@[simp] theorem State.relayLinkDown_chanRun : (s.relayLinkDown).chanRun = s.chanRun := by
  unfold State.relayLinkDown; split <;> simp
@[simp] theorem State.relayLinkDown_settings : (s.relayLinkDown).settings = s.settings := by
  unfold State.relayLinkDown; split <;> simp
@[simp] theorem State.relayLinkDown_store : (s.relayLinkDown).store = s.store := by
  unfold State.relayLinkDown; split <;> simp
@[simp] theorem State.relayLinkDown_uplink : (s.relayLinkDown).uplink = s.uplink := by
  unfold State.relayLinkDown; split <;> simp
@[simp] theorem State.relayLinkDown_conf : (s.relayLinkDown).conf = s.conf := by
  unfold State.relayLinkDown; split <;> simp
@[simp] theorem State.relayLinkDown_links : (s.relayLinkDown).links = s.links := by
  unfold State.relayLinkDown; split <;> simp
@[simp] theorem State.relayLinkDown_trunk : (s.relayLinkDown).trunk = s.trunk := by
  unfold State.relayLinkDown; split <;> simp
@[simp] theorem State.relayLinkDown_latch : (s.relayLinkDown).latch = s.latch := by
  unfold State.relayLinkDown; split <;> simp
@[simp] theorem State.relayLinkDown_bank : (s.relayLinkDown).bank = s.bank := by
  unfold State.relayLinkDown; split <;> simp
@[simp] theorem State.relayLinkDown_inbox : (s.relayLinkDown).inbox = s.inbox := by
  unfold State.relayLinkDown; split <;> simp
@[simp] theorem State.relayLinkDown_handed : (s.relayLinkDown).handed = s.handed := by
  unfold State.relayLinkDown; split <;> simp
@[simp] theorem State.relayLinkDown_notices : (s.relayLinkDown).notices = s.notices := by
  unfold State.relayLinkDown; split <;> simp
@[simp] theorem State.relayLinkDown_drops : (s.relayLinkDown).drops = s.drops := by
  unfold State.relayLinkDown; split <;> simp
@[simp] theorem State.relayLinkDown_choices : (s.relayLinkDown).choices = s.choices := by
  unfold State.relayLinkDown; split <;> simp
@[simp] theorem State.relayLinkDown_pending : (s.relayLinkDown).pending = s.pending := by
  unfold State.relayLinkDown; split <;> simp

end

/-! ### `relayCompleted` -/

section

variable (s : State)

@[simp] theorem State.relayCompleted_now : (s.relayCompleted).now = s.now := by
  unfold State.relayCompleted; split <;> rfl
@[simp] theorem State.relayCompleted_sweep : (s.relayCompleted).sweep = s.sweep := by
  unfold State.relayCompleted; split <;> rfl
@[simp] theorem State.relayCompleted_nodeCfg : (s.relayCompleted).nodeCfg = s.nodeCfg := by
  unfold State.relayCompleted; split <;> rfl
@[simp] theorem State.relayCompleted_nodeRun : (s.relayCompleted).nodeRun = s.nodeRun := by
  unfold State.relayCompleted; split <;> rfl
@[simp] theorem State.relayCompleted_chanCfg : (s.relayCompleted).chanCfg = s.chanCfg := by
  unfold State.relayCompleted; split <;> rfl
@[simp] theorem State.relayCompleted_chanRun : (s.relayCompleted).chanRun = s.chanRun := by
  unfold State.relayCompleted; split <;> rfl
@[simp] theorem State.relayCompleted_settings : (s.relayCompleted).settings = s.settings := by
  unfold State.relayCompleted; split <;> rfl
@[simp] theorem State.relayCompleted_store : (s.relayCompleted).store = s.store := by
  unfold State.relayCompleted; split <;> rfl
@[simp] theorem State.relayCompleted_uplink : (s.relayCompleted).uplink = s.uplink := by
  unfold State.relayCompleted; split <;> rfl
@[simp] theorem State.relayCompleted_conf : (s.relayCompleted).conf = s.conf := by
  unfold State.relayCompleted; split <;> rfl
@[simp] theorem State.relayCompleted_links : (s.relayCompleted).links = s.links := by
  unfold State.relayCompleted; split <;> rfl
@[simp] theorem State.relayCompleted_trunk : (s.relayCompleted).trunk = s.trunk := by
  unfold State.relayCompleted; split <;> rfl
@[simp] theorem State.relayCompleted_mgmt : (s.relayCompleted).mgmt = s.mgmt := by
  unfold State.relayCompleted; split <;> rfl
@[simp] theorem State.relayCompleted_latch : (s.relayCompleted).latch = s.latch := by
  unfold State.relayCompleted; split <;> rfl
@[simp] theorem State.relayCompleted_bank : (s.relayCompleted).bank = s.bank := by
  unfold State.relayCompleted; split <;> rfl
@[simp] theorem State.relayCompleted_inbox : (s.relayCompleted).inbox = s.inbox := by
  unfold State.relayCompleted; split <;> rfl
@[simp] theorem State.relayCompleted_handed : (s.relayCompleted).handed = s.handed := by
  unfold State.relayCompleted; split <;> rfl
@[simp] theorem State.relayCompleted_notices : (s.relayCompleted).notices = s.notices := by
  unfold State.relayCompleted; split <;> rfl
@[simp] theorem State.relayCompleted_drops : (s.relayCompleted).drops = s.drops := by
  unfold State.relayCompleted; split <;> rfl
@[simp] theorem State.relayCompleted_choices : (s.relayCompleted).choices = s.choices := by
  unfold State.relayCompleted; split <;> rfl
@[simp] theorem State.relayCompleted_pending : (s.relayCompleted).pending = s.pending := by
  unfold State.relayCompleted; split <;> rfl

end

/-! ### `advanceBeacon` -/

section

variable (s : State)

@[simp] theorem State.advanceBeacon_now : (s.advanceBeacon).now = s.now := by
  unfold State.advanceBeacon; dsimp only; split
  · rfl
  · split <;> rfl
@[simp] theorem State.advanceBeacon_sweep : (s.advanceBeacon).sweep = s.sweep := by
  unfold State.advanceBeacon; dsimp only; split
  · rfl
  · split <;> rfl
@[simp] theorem State.advanceBeacon_nodeCfg : (s.advanceBeacon).nodeCfg = s.nodeCfg := by
  unfold State.advanceBeacon; dsimp only; split
  · rfl
  · split <;> rfl
@[simp] theorem State.advanceBeacon_nodeRun : (s.advanceBeacon).nodeRun = s.nodeRun := by
  unfold State.advanceBeacon; dsimp only; split
  · rfl
  · split <;> rfl
@[simp] theorem State.advanceBeacon_chanCfg : (s.advanceBeacon).chanCfg = s.chanCfg := by
  unfold State.advanceBeacon; dsimp only; split
  · rfl
  · split <;> rfl
@[simp] theorem State.advanceBeacon_chanRun : (s.advanceBeacon).chanRun = s.chanRun := by
  unfold State.advanceBeacon; dsimp only; split
  · rfl
  · split <;> rfl
@[simp] theorem State.advanceBeacon_settings : (s.advanceBeacon).settings = s.settings := by
  unfold State.advanceBeacon; dsimp only; split
  · rfl
  · split <;> rfl
@[simp] theorem State.advanceBeacon_store : (s.advanceBeacon).store = s.store := by
  unfold State.advanceBeacon; dsimp only; split
  · rfl
  · split <;> rfl
@[simp] theorem State.advanceBeacon_conf : (s.advanceBeacon).conf = s.conf := by
  unfold State.advanceBeacon; dsimp only; split
  · rfl
  · split <;> rfl
@[simp] theorem State.advanceBeacon_links : (s.advanceBeacon).links = s.links := by
  unfold State.advanceBeacon; dsimp only; split
  · rfl
  · split <;> rfl
@[simp] theorem State.advanceBeacon_trunk : (s.advanceBeacon).trunk = s.trunk := by
  unfold State.advanceBeacon; dsimp only; split
  · rfl
  · split <;> rfl
@[simp] theorem State.advanceBeacon_mgmt : (s.advanceBeacon).mgmt = s.mgmt := by
  unfold State.advanceBeacon; dsimp only; split
  · rfl
  · split <;> rfl
@[simp] theorem State.advanceBeacon_relay : (s.advanceBeacon).relay = s.relay := by
  unfold State.advanceBeacon; dsimp only; split
  · rfl
  · split <;> rfl
@[simp] theorem State.advanceBeacon_bank : (s.advanceBeacon).bank = s.bank := by
  unfold State.advanceBeacon; dsimp only; split
  · rfl
  · split <;> rfl
@[simp] theorem State.advanceBeacon_inbox : (s.advanceBeacon).inbox = s.inbox := by
  unfold State.advanceBeacon; dsimp only; split
  · rfl
  · split <;> rfl
@[simp] theorem State.advanceBeacon_handed : (s.advanceBeacon).handed = s.handed := by
  unfold State.advanceBeacon; dsimp only; split
  · rfl
  · split <;> rfl
@[simp] theorem State.advanceBeacon_notices : (s.advanceBeacon).notices = s.notices := by
  unfold State.advanceBeacon; dsimp only; split
  · rfl
  · split <;> rfl
@[simp] theorem State.advanceBeacon_drops : (s.advanceBeacon).drops = s.drops := by
  unfold State.advanceBeacon; dsimp only; split
  · rfl
  · split <;> rfl
@[simp] theorem State.advanceBeacon_choices : (s.advanceBeacon).choices = s.choices := by
  unfold State.advanceBeacon; dsimp only; split
  · rfl
  · split <;> rfl
@[simp] theorem State.advanceBeacon_pending : (s.advanceBeacon).pending = s.pending := by
  unfold State.advanceBeacon; dsimp only; split
  · rfl
  · split <;> rfl

end

/-! ### `periodTest` -/

section

variable (s : State)

@[simp] theorem State.periodTest_now : (s.periodTest).now = s.now := by
  unfold State.periodTest; split <;> simp
@[simp] theorem State.periodTest_nodeCfg : (s.periodTest).nodeCfg = s.nodeCfg := by
  unfold State.periodTest; split <;> simp
@[simp] theorem State.periodTest_nodeRun : (s.periodTest).nodeRun = s.nodeRun := by
  unfold State.periodTest; split <;> simp
@[simp] theorem State.periodTest_chanCfg : (s.periodTest).chanCfg = s.chanCfg := by
  unfold State.periodTest; split <;> simp
@[simp] theorem State.periodTest_chanRun : (s.periodTest).chanRun = s.chanRun := by
  unfold State.periodTest; split <;> simp
@[simp] theorem State.periodTest_settings : (s.periodTest).settings = s.settings := by
  unfold State.periodTest; split <;> simp
@[simp] theorem State.periodTest_store : (s.periodTest).store = s.store := by
  unfold State.periodTest; split <;> simp
@[simp] theorem State.periodTest_uplink : (s.periodTest).uplink = s.uplink := by
  unfold State.periodTest; split <;> simp
@[simp] theorem State.periodTest_conf : (s.periodTest).conf = s.conf := by
  unfold State.periodTest; split <;> simp
@[simp] theorem State.periodTest_links : (s.periodTest).links = s.links := by
  unfold State.periodTest; split <;> simp
@[simp] theorem State.periodTest_trunk : (s.periodTest).trunk = s.trunk := by
  unfold State.periodTest; split <;> simp
@[simp] theorem State.periodTest_mgmt : (s.periodTest).mgmt = s.mgmt := by
  unfold State.periodTest; split <;> simp
@[simp] theorem State.periodTest_relay : (s.periodTest).relay = s.relay := by
  unfold State.periodTest; split <;> simp
@[simp] theorem State.periodTest_latch : (s.periodTest).latch = s.latch := by
  unfold State.periodTest; split <;> simp
@[simp] theorem State.periodTest_bank : (s.periodTest).bank = s.bank := by
  unfold State.periodTest; split <;> simp
@[simp] theorem State.periodTest_inbox : (s.periodTest).inbox = s.inbox := by
  unfold State.periodTest; split <;> simp
@[simp] theorem State.periodTest_handed : (s.periodTest).handed = s.handed := by
  unfold State.periodTest; split <;> simp
@[simp] theorem State.periodTest_notices : (s.periodTest).notices = s.notices := by
  unfold State.periodTest; split <;> simp
@[simp] theorem State.periodTest_drops : (s.periodTest).drops = s.drops := by
  unfold State.periodTest; split <;> simp
@[simp] theorem State.periodTest_choices : (s.periodTest).choices = s.choices := by
  unfold State.periodTest; split <;> simp
@[simp] theorem State.periodTest_pending : (s.periodTest).pending = s.pending := by
  unfold State.periodTest; split <;> simp

end

/-! ### `settingsApplied` -/

section

variable (s : State) (old : Settings)

@[simp] theorem State.settingsApplied_now : (s.settingsApplied old).now = s.now := by
  unfold State.settingsApplied; dsimp only; split <;> split <;> (try split) <;> simp
@[simp] theorem State.settingsApplied_nodeCfg : (s.settingsApplied old).nodeCfg = s.nodeCfg := by
  unfold State.settingsApplied; dsimp only; split <;> split <;> (try split) <;> simp
@[simp] theorem State.settingsApplied_nodeRun : (s.settingsApplied old).nodeRun = s.nodeRun := by
  unfold State.settingsApplied; dsimp only; split <;> split <;> (try split) <;> simp
@[simp] theorem State.settingsApplied_chanCfg : (s.settingsApplied old).chanCfg = s.chanCfg := by
  unfold State.settingsApplied; dsimp only; split <;> split <;> (try split) <;> simp
@[simp] theorem State.settingsApplied_chanRun : (s.settingsApplied old).chanRun = s.chanRun := by
  unfold State.settingsApplied; dsimp only; split <;> split <;> (try split) <;> simp
@[simp] theorem State.settingsApplied_settings : (s.settingsApplied old).settings = s.settings := by
  unfold State.settingsApplied; dsimp only; split <;> split <;> (try split) <;> simp
@[simp] theorem State.settingsApplied_store : (s.settingsApplied old).store = s.store := by
  unfold State.settingsApplied; dsimp only; split <;> split <;> (try split) <;> simp
@[simp] theorem State.settingsApplied_uplink : (s.settingsApplied old).uplink = s.uplink := by
  unfold State.settingsApplied; dsimp only; split <;> split <;> (try split) <;> simp
@[simp] theorem State.settingsApplied_conf : (s.settingsApplied old).conf = s.conf := by
  unfold State.settingsApplied; dsimp only; split <;> split <;> (try split) <;> simp
@[simp] theorem State.settingsApplied_links : (s.settingsApplied old).links = s.links := by
  unfold State.settingsApplied; dsimp only; split <;> split <;> (try split) <;> simp
@[simp] theorem State.settingsApplied_trunk : (s.settingsApplied old).trunk = s.trunk := by
  unfold State.settingsApplied; dsimp only; split <;> split <;> (try split) <;> simp
@[simp] theorem State.settingsApplied_mgmt : (s.settingsApplied old).mgmt = s.mgmt := by
  unfold State.settingsApplied; dsimp only; split <;> split <;> (try split) <;> simp
@[simp] theorem State.settingsApplied_relay : (s.settingsApplied old).relay = s.relay := by
  unfold State.settingsApplied; dsimp only; split <;> split <;> (try split) <;> simp
@[simp] theorem State.settingsApplied_latch : (s.settingsApplied old).latch = s.latch := by
  unfold State.settingsApplied; dsimp only; split <;> split <;> (try split) <;> simp
@[simp] theorem State.settingsApplied_bank : (s.settingsApplied old).bank = s.bank := by
  unfold State.settingsApplied; dsimp only; split <;> split <;> (try split) <;> simp
@[simp] theorem State.settingsApplied_inbox : (s.settingsApplied old).inbox = s.inbox := by
  unfold State.settingsApplied; dsimp only; split <;> split <;> (try split) <;> simp
@[simp] theorem State.settingsApplied_handed : (s.settingsApplied old).handed = s.handed := by
  unfold State.settingsApplied; dsimp only; split <;> split <;> (try split) <;> simp
@[simp] theorem State.settingsApplied_notices : (s.settingsApplied old).notices = s.notices := by
  unfold State.settingsApplied; dsimp only; split <;> split <;> (try split) <;> simp
@[simp] theorem State.settingsApplied_drops : (s.settingsApplied old).drops = s.drops := by
  unfold State.settingsApplied; dsimp only; split <;> split <;> (try split) <;> simp
@[simp] theorem State.settingsApplied_choices : (s.settingsApplied old).choices = s.choices := by
  unfold State.settingsApplied; dsimp only; split <;> split <;> (try split) <;> simp
@[simp] theorem State.settingsApplied_pending : (s.settingsApplied old).pending = s.pending := by
  unfold State.settingsApplied; dsimp only; split <;> split <;> (try split) <;> simp

end

/-! ### `sourceApplied` -/

section

variable (s : State) (old : Settings)

@[simp] theorem State.sourceApplied_now : (s.sourceApplied old).now = s.now := by
  unfold State.sourceApplied; split <;> simp
@[simp] theorem State.sourceApplied_nodeCfg : (s.sourceApplied old).nodeCfg = s.nodeCfg := by
  unfold State.sourceApplied; split <;> simp
@[simp] theorem State.sourceApplied_nodeRun : (s.sourceApplied old).nodeRun = s.nodeRun := by
  unfold State.sourceApplied; split <;> simp
@[simp] theorem State.sourceApplied_chanCfg : (s.sourceApplied old).chanCfg = s.chanCfg := by
  unfold State.sourceApplied; split <;> simp
@[simp] theorem State.sourceApplied_chanRun : (s.sourceApplied old).chanRun = s.chanRun := by
  unfold State.sourceApplied; split <;> simp
@[simp] theorem State.sourceApplied_settings : (s.sourceApplied old).settings = s.settings := by
  unfold State.sourceApplied; split <;> simp
@[simp] theorem State.sourceApplied_store : (s.sourceApplied old).store = s.store := by
  unfold State.sourceApplied; split <;> simp
@[simp] theorem State.sourceApplied_uplink : (s.sourceApplied old).uplink = s.uplink := by
  unfold State.sourceApplied; split <;> simp
@[simp] theorem State.sourceApplied_conf : (s.sourceApplied old).conf = s.conf := by
  unfold State.sourceApplied; split <;> simp
@[simp] theorem State.sourceApplied_links : (s.sourceApplied old).links = s.links := by
  unfold State.sourceApplied; split <;> simp
@[simp] theorem State.sourceApplied_trunk : (s.sourceApplied old).trunk = s.trunk := by
  unfold State.sourceApplied; split <;> simp
@[simp] theorem State.sourceApplied_mgmt : (s.sourceApplied old).mgmt = s.mgmt := by
  unfold State.sourceApplied; split <;> simp
@[simp] theorem State.sourceApplied_relay : (s.sourceApplied old).relay = s.relay := by
  unfold State.sourceApplied; split <;> simp
@[simp] theorem State.sourceApplied_latch : (s.sourceApplied old).latch = s.latch := by
  unfold State.sourceApplied; split <;> simp
@[simp] theorem State.sourceApplied_bank : (s.sourceApplied old).bank = s.bank := by
  unfold State.sourceApplied; split <;> simp
@[simp] theorem State.sourceApplied_inbox : (s.sourceApplied old).inbox = s.inbox := by
  unfold State.sourceApplied; split <;> simp
@[simp] theorem State.sourceApplied_handed : (s.sourceApplied old).handed = s.handed := by
  unfold State.sourceApplied; split <;> simp
@[simp] theorem State.sourceApplied_notices : (s.sourceApplied old).notices = s.notices := by
  unfold State.sourceApplied; split <;> simp
@[simp] theorem State.sourceApplied_drops : (s.sourceApplied old).drops = s.drops := by
  unfold State.sourceApplied; split <;> simp
@[simp] theorem State.sourceApplied_choices : (s.sourceApplied old).choices = s.choices := by
  unfold State.sourceApplied; split <;> simp
@[simp] theorem State.sourceApplied_pending : (s.sourceApplied old).pending = s.pending := by
  unfold State.sourceApplied; split <;> simp

end

/-! ### `afterClose` -/

section

variable (s : State) (k : CloseKind)

@[simp] theorem State.afterClose_now : (s.afterClose k).now = s.now := by
  unfold State.afterClose; split
  · split <;> simp
  · simp
  · simp
@[simp] theorem State.afterClose_nodeCfg : (s.afterClose k).nodeCfg = s.nodeCfg := by
  unfold State.afterClose; split
  · split <;> simp
  · simp
  · simp
@[simp] theorem State.afterClose_nodeRun : (s.afterClose k).nodeRun = s.nodeRun := by
  unfold State.afterClose; split
  · split <;> simp
  · simp
  · simp
@[simp] theorem State.afterClose_chanCfg : (s.afterClose k).chanCfg = s.chanCfg := by
  unfold State.afterClose; split
  · split <;> simp
  · simp
  · simp
@[simp] theorem State.afterClose_chanRun : (s.afterClose k).chanRun = s.chanRun := by
  unfold State.afterClose; split
  · split <;> simp
  · simp
  · simp
@[simp] theorem State.afterClose_settings : (s.afterClose k).settings = s.settings := by
  unfold State.afterClose; split
  · split <;> simp
  · simp
  · simp
@[simp] theorem State.afterClose_store : (s.afterClose k).store = s.store := by
  unfold State.afterClose; split
  · split <;> simp
  · simp
  · simp
@[simp] theorem State.afterClose_uplink : (s.afterClose k).uplink = s.uplink := by
  unfold State.afterClose; split
  · split <;> simp
  · simp
  · simp
@[simp] theorem State.afterClose_conf : (s.afterClose k).conf = s.conf := by
  unfold State.afterClose; split
  · split <;> simp
  · simp
  · simp
@[simp] theorem State.afterClose_links : (s.afterClose k).links = s.links := by
  unfold State.afterClose; split
  · split <;> simp
  · simp
  · simp
@[simp] theorem State.afterClose_trunk : (s.afterClose k).trunk = s.trunk := by
  unfold State.afterClose; split
  · split <;> simp
  · simp
  · simp
@[simp] theorem State.afterClose_mgmt : (s.afterClose k).mgmt = s.mgmt := by
  unfold State.afterClose; split
  · split <;> simp
  · simp
  · simp
@[simp] theorem State.afterClose_relay : (s.afterClose k).relay = s.relay := by
  unfold State.afterClose; split
  · split <;> simp
  · simp
  · simp
@[simp] theorem State.afterClose_latch : (s.afterClose k).latch = s.latch := by
  unfold State.afterClose; split
  · split <;> simp
  · simp
  · simp
@[simp] theorem State.afterClose_bank : (s.afterClose k).bank = s.bank := by
  unfold State.afterClose; split
  · split <;> simp
  · simp
  · simp
@[simp] theorem State.afterClose_inbox : (s.afterClose k).inbox = s.inbox := by
  unfold State.afterClose; split
  · split <;> simp
  · simp
  · simp
@[simp] theorem State.afterClose_handed : (s.afterClose k).handed = s.handed := by
  unfold State.afterClose; split
  · split <;> simp
  · simp
  · simp
@[simp] theorem State.afterClose_notices : (s.afterClose k).notices = s.notices := by
  unfold State.afterClose; split
  · split <;> simp
  · simp
  · simp
@[simp] theorem State.afterClose_drops : (s.afterClose k).drops = s.drops := by
  unfold State.afterClose; split
  · split <;> simp
  · simp
  · simp
@[simp] theorem State.afterClose_choices : (s.afterClose k).choices = s.choices := by
  unfold State.afterClose; split
  · split <;> simp
  · simp
  · simp
@[simp] theorem State.afterClose_pending : (s.afterClose k).pending = s.pending := by
  unfold State.afterClose; split
  · split <;> simp
  · simp
  · simp

end

/-! ### `noteLoss` -/

section

variable (s : State) (p : Port)

@[simp] theorem State.noteLoss_now : (s.noteLoss p).now = s.now := by simp [State.noteLoss]
@[simp] theorem State.noteLoss_sweep : (s.noteLoss p).sweep = s.sweep := by simp [State.noteLoss]
@[simp] theorem State.noteLoss_nodeCfg : (s.noteLoss p).nodeCfg = s.nodeCfg := by simp [State.noteLoss]
@[simp] theorem State.noteLoss_nodeRun : (s.noteLoss p).nodeRun = s.nodeRun := by simp [State.noteLoss]
@[simp] theorem State.noteLoss_chanCfg : (s.noteLoss p).chanCfg = s.chanCfg := by simp [State.noteLoss]
@[simp] theorem State.noteLoss_chanRun : (s.noteLoss p).chanRun = s.chanRun := by simp [State.noteLoss]
@[simp] theorem State.noteLoss_settings : (s.noteLoss p).settings = s.settings := by simp [State.noteLoss]
@[simp] theorem State.noteLoss_store : (s.noteLoss p).store = s.store := by simp [State.noteLoss]
@[simp] theorem State.noteLoss_uplink : (s.noteLoss p).uplink = s.uplink := by simp [State.noteLoss]
@[simp] theorem State.noteLoss_conf : (s.noteLoss p).conf = s.conf := by simp [State.noteLoss]
@[simp] theorem State.noteLoss_links : (s.noteLoss p).links = s.links := by simp [State.noteLoss]
@[simp] theorem State.noteLoss_trunk : (s.noteLoss p).trunk = s.trunk := by simp [State.noteLoss]
@[simp] theorem State.noteLoss_relay : (s.noteLoss p).relay = s.relay := by simp [State.noteLoss]
@[simp] theorem State.noteLoss_inbox : (s.noteLoss p).inbox = s.inbox := by simp [State.noteLoss]
@[simp] theorem State.noteLoss_handed : (s.noteLoss p).handed = s.handed := by simp [State.noteLoss]
@[simp] theorem State.noteLoss_notices : (s.noteLoss p).notices = s.notices := by simp [State.noteLoss]
@[simp] theorem State.noteLoss_drops : (s.noteLoss p).drops = s.drops := by simp [State.noteLoss]
@[simp] theorem State.noteLoss_choices : (s.noteLoss p).choices = s.choices := by simp [State.noteLoss]
@[simp] theorem State.noteLoss_pending : (s.noteLoss p).pending = s.pending := by simp [State.noteLoss]

end

/-! ### `emptyDfq` -/

section

variable (s : State)

@[simp] theorem State.emptyDfq_now : (s.emptyDfq).now = s.now := by simp [State.emptyDfq]
@[simp] theorem State.emptyDfq_sweep : (s.emptyDfq).sweep = s.sweep := by simp [State.emptyDfq]
@[simp] theorem State.emptyDfq_nodeCfg : (s.emptyDfq).nodeCfg = s.nodeCfg := by simp [State.emptyDfq]
@[simp] theorem State.emptyDfq_nodeRun : (s.emptyDfq).nodeRun = s.nodeRun := by simp [State.emptyDfq]
@[simp] theorem State.emptyDfq_chanCfg : (s.emptyDfq).chanCfg = s.chanCfg := by simp [State.emptyDfq]
@[simp] theorem State.emptyDfq_chanRun : (s.emptyDfq).chanRun = s.chanRun := by simp [State.emptyDfq]
@[simp] theorem State.emptyDfq_settings : (s.emptyDfq).settings = s.settings := by simp [State.emptyDfq]
@[simp] theorem State.emptyDfq_store : (s.emptyDfq).store = s.store := by simp [State.emptyDfq]
@[simp] theorem State.emptyDfq_uplink : (s.emptyDfq).uplink = s.uplink := by simp [State.emptyDfq]
@[simp] theorem State.emptyDfq_conf : (s.emptyDfq).conf = s.conf := by simp [State.emptyDfq]
@[simp] theorem State.emptyDfq_links : (s.emptyDfq).links = s.links := by simp [State.emptyDfq]
@[simp] theorem State.emptyDfq_mgmt : (s.emptyDfq).mgmt = s.mgmt := by simp [State.emptyDfq]
@[simp] theorem State.emptyDfq_relay : (s.emptyDfq).relay = s.relay := by simp [State.emptyDfq]
@[simp] theorem State.emptyDfq_latch : (s.emptyDfq).latch = s.latch := by simp [State.emptyDfq]
@[simp] theorem State.emptyDfq_inbox : (s.emptyDfq).inbox = s.inbox := by simp [State.emptyDfq]
@[simp] theorem State.emptyDfq_handed : (s.emptyDfq).handed = s.handed := by simp [State.emptyDfq]
@[simp] theorem State.emptyDfq_notices : (s.emptyDfq).notices = s.notices := by simp [State.emptyDfq]
@[simp] theorem State.emptyDfq_drops : (s.emptyDfq).drops = s.drops := by simp [State.emptyDfq]
@[simp] theorem State.emptyDfq_choices : (s.emptyDfq).choices = s.choices := by simp [State.emptyDfq]
@[simp] theorem State.emptyDfq_pending : (s.emptyDfq).pending = s.pending := by simp [State.emptyDfq]

end

/-! ### `dropRequest` -/

section

variable (s : State)

@[simp] theorem State.dropRequest_now : (s.dropRequest).now = s.now := by simp [State.dropRequest]
@[simp] theorem State.dropRequest_sweep : (s.dropRequest).sweep = s.sweep := by simp [State.dropRequest]
@[simp] theorem State.dropRequest_nodeCfg : (s.dropRequest).nodeCfg = s.nodeCfg := by simp [State.dropRequest]
@[simp] theorem State.dropRequest_nodeRun : (s.dropRequest).nodeRun = s.nodeRun := by simp [State.dropRequest]
@[simp] theorem State.dropRequest_chanCfg : (s.dropRequest).chanCfg = s.chanCfg := by simp [State.dropRequest]
@[simp] theorem State.dropRequest_chanRun : (s.dropRequest).chanRun = s.chanRun := by simp [State.dropRequest]
@[simp] theorem State.dropRequest_settings : (s.dropRequest).settings = s.settings := by simp [State.dropRequest]
@[simp] theorem State.dropRequest_store : (s.dropRequest).store = s.store := by simp [State.dropRequest]
@[simp] theorem State.dropRequest_uplink : (s.dropRequest).uplink = s.uplink := by simp [State.dropRequest]
@[simp] theorem State.dropRequest_conf : (s.dropRequest).conf = s.conf := by simp [State.dropRequest]
@[simp] theorem State.dropRequest_links : (s.dropRequest).links = s.links := by simp [State.dropRequest]
@[simp] theorem State.dropRequest_trunk : (s.dropRequest).trunk = s.trunk := by simp [State.dropRequest]
@[simp] theorem State.dropRequest_relay : (s.dropRequest).relay = s.relay := by simp [State.dropRequest]
@[simp] theorem State.dropRequest_inbox : (s.dropRequest).inbox = s.inbox := by simp [State.dropRequest]
@[simp] theorem State.dropRequest_handed : (s.dropRequest).handed = s.handed := by simp [State.dropRequest]
@[simp] theorem State.dropRequest_notices : (s.dropRequest).notices = s.notices := by simp [State.dropRequest]
@[simp] theorem State.dropRequest_drops : (s.dropRequest).drops = s.drops := by simp [State.dropRequest]
@[simp] theorem State.dropRequest_choices : (s.dropRequest).choices = s.choices := by simp [State.dropRequest]
@[simp] theorem State.dropRequest_pending : (s.dropRequest).pending = s.pending := by simp [State.dropRequest]

end

/-! ### `markForced` -/

section

variable (s : State) (cs : List (Fin 256))

@[simp] theorem State.markForced_now : (s.markForced cs).now = s.now := State.foldl_keeps State.now (fun x c => x.setChanRun c { x.chanRun[c] with forcePending := true }) (fun _ _ => rfl) cs s
@[simp] theorem State.markForced_sweep : (s.markForced cs).sweep = s.sweep := State.foldl_keeps State.sweep (fun x c => x.setChanRun c { x.chanRun[c] with forcePending := true }) (fun _ _ => rfl) cs s
@[simp] theorem State.markForced_nodeCfg : (s.markForced cs).nodeCfg = s.nodeCfg := State.foldl_keeps State.nodeCfg (fun x c => x.setChanRun c { x.chanRun[c] with forcePending := true }) (fun _ _ => rfl) cs s
@[simp] theorem State.markForced_nodeRun : (s.markForced cs).nodeRun = s.nodeRun := State.foldl_keeps State.nodeRun (fun x c => x.setChanRun c { x.chanRun[c] with forcePending := true }) (fun _ _ => rfl) cs s
@[simp] theorem State.markForced_chanCfg : (s.markForced cs).chanCfg = s.chanCfg := State.foldl_keeps State.chanCfg (fun x c => x.setChanRun c { x.chanRun[c] with forcePending := true }) (fun _ _ => rfl) cs s
@[simp] theorem State.markForced_settings : (s.markForced cs).settings = s.settings := State.foldl_keeps State.settings (fun x c => x.setChanRun c { x.chanRun[c] with forcePending := true }) (fun _ _ => rfl) cs s
@[simp] theorem State.markForced_store : (s.markForced cs).store = s.store := State.foldl_keeps State.store (fun x c => x.setChanRun c { x.chanRun[c] with forcePending := true }) (fun _ _ => rfl) cs s
@[simp] theorem State.markForced_uplink : (s.markForced cs).uplink = s.uplink := State.foldl_keeps State.uplink (fun x c => x.setChanRun c { x.chanRun[c] with forcePending := true }) (fun _ _ => rfl) cs s
@[simp] theorem State.markForced_conf : (s.markForced cs).conf = s.conf := State.foldl_keeps State.conf (fun x c => x.setChanRun c { x.chanRun[c] with forcePending := true }) (fun _ _ => rfl) cs s
@[simp] theorem State.markForced_links : (s.markForced cs).links = s.links := State.foldl_keeps State.links (fun x c => x.setChanRun c { x.chanRun[c] with forcePending := true }) (fun _ _ => rfl) cs s
@[simp] theorem State.markForced_trunk : (s.markForced cs).trunk = s.trunk := State.foldl_keeps State.trunk (fun x c => x.setChanRun c { x.chanRun[c] with forcePending := true }) (fun _ _ => rfl) cs s
@[simp] theorem State.markForced_mgmt : (s.markForced cs).mgmt = s.mgmt := State.foldl_keeps State.mgmt (fun x c => x.setChanRun c { x.chanRun[c] with forcePending := true }) (fun _ _ => rfl) cs s
@[simp] theorem State.markForced_relay : (s.markForced cs).relay = s.relay := State.foldl_keeps State.relay (fun x c => x.setChanRun c { x.chanRun[c] with forcePending := true }) (fun _ _ => rfl) cs s
@[simp] theorem State.markForced_latch : (s.markForced cs).latch = s.latch := State.foldl_keeps State.latch (fun x c => x.setChanRun c { x.chanRun[c] with forcePending := true }) (fun _ _ => rfl) cs s
@[simp] theorem State.markForced_bank : (s.markForced cs).bank = s.bank := State.foldl_keeps State.bank (fun x c => x.setChanRun c { x.chanRun[c] with forcePending := true }) (fun _ _ => rfl) cs s
@[simp] theorem State.markForced_inbox : (s.markForced cs).inbox = s.inbox := State.foldl_keeps State.inbox (fun x c => x.setChanRun c { x.chanRun[c] with forcePending := true }) (fun _ _ => rfl) cs s
@[simp] theorem State.markForced_handed : (s.markForced cs).handed = s.handed := State.foldl_keeps State.handed (fun x c => x.setChanRun c { x.chanRun[c] with forcePending := true }) (fun _ _ => rfl) cs s
@[simp] theorem State.markForced_notices : (s.markForced cs).notices = s.notices := State.foldl_keeps State.notices (fun x c => x.setChanRun c { x.chanRun[c] with forcePending := true }) (fun _ _ => rfl) cs s
@[simp] theorem State.markForced_drops : (s.markForced cs).drops = s.drops := State.foldl_keeps State.drops (fun x c => x.setChanRun c { x.chanRun[c] with forcePending := true }) (fun _ _ => rfl) cs s
@[simp] theorem State.markForced_choices : (s.markForced cs).choices = s.choices := State.foldl_keeps State.choices (fun x c => x.setChanRun c { x.chanRun[c] with forcePending := true }) (fun _ _ => rfl) cs s
@[simp] theorem State.markForced_pending : (s.markForced cs).pending = s.pending := State.foldl_keeps State.pending (fun x c => x.setChanRun c { x.chanRun[c] with forcePending := true }) (fun _ _ => rfl) cs s

end

/-! ### `flush` -/

section

variable (s : State) (k : ReportClass)

@[simp] theorem State.flush_now : (s.flush k).now = s.now := by simp [State.flush]
@[simp] theorem State.flush_sweep : (s.flush k).sweep = s.sweep := by simp [State.flush]
@[simp] theorem State.flush_nodeCfg : (s.flush k).nodeCfg = s.nodeCfg := by simp [State.flush]
@[simp] theorem State.flush_nodeRun : (s.flush k).nodeRun = s.nodeRun := by simp [State.flush]
@[simp] theorem State.flush_chanCfg : (s.flush k).chanCfg = s.chanCfg := by simp [State.flush]
@[simp] theorem State.flush_settings : (s.flush k).settings = s.settings := by simp [State.flush]
@[simp] theorem State.flush_uplink : (s.flush k).uplink = s.uplink := by simp [State.flush]
@[simp] theorem State.flush_conf : (s.flush k).conf = s.conf := by simp [State.flush]
@[simp] theorem State.flush_links : (s.flush k).links = s.links := by simp [State.flush]
@[simp] theorem State.flush_trunk : (s.flush k).trunk = s.trunk := by simp [State.flush]
@[simp] theorem State.flush_mgmt : (s.flush k).mgmt = s.mgmt := by simp [State.flush]
@[simp] theorem State.flush_relay : (s.flush k).relay = s.relay := by simp [State.flush]
@[simp] theorem State.flush_inbox : (s.flush k).inbox = s.inbox := by simp [State.flush]
@[simp] theorem State.flush_handed : (s.flush k).handed = s.handed := by simp [State.flush]
@[simp] theorem State.flush_notices : (s.flush k).notices = s.notices := by simp [State.flush]
@[simp] theorem State.flush_pending : (s.flush k).pending = s.pending := by simp [State.flush]

end

/-! ### `trimClass` -/

section

variable (limits : Quad Nat) (s : State) (k : ReportClass)

@[simp] theorem State.trimClass_now : (State.trimClass limits s k).now = s.now := by simp [State.trimClass]
@[simp] theorem State.trimClass_sweep : (State.trimClass limits s k).sweep = s.sweep := by simp [State.trimClass]
@[simp] theorem State.trimClass_nodeCfg : (State.trimClass limits s k).nodeCfg = s.nodeCfg := by simp [State.trimClass]
@[simp] theorem State.trimClass_nodeRun : (State.trimClass limits s k).nodeRun = s.nodeRun := by simp [State.trimClass]
@[simp] theorem State.trimClass_chanCfg : (State.trimClass limits s k).chanCfg = s.chanCfg := by simp [State.trimClass]
@[simp] theorem State.trimClass_chanRun : (State.trimClass limits s k).chanRun = s.chanRun := by simp [State.trimClass]
@[simp] theorem State.trimClass_settings : (State.trimClass limits s k).settings = s.settings := by simp [State.trimClass]
@[simp] theorem State.trimClass_uplink : (State.trimClass limits s k).uplink = s.uplink := by simp [State.trimClass]
@[simp] theorem State.trimClass_conf : (State.trimClass limits s k).conf = s.conf := by simp [State.trimClass]
@[simp] theorem State.trimClass_links : (State.trimClass limits s k).links = s.links := by simp [State.trimClass]
@[simp] theorem State.trimClass_trunk : (State.trimClass limits s k).trunk = s.trunk := by simp [State.trimClass]
@[simp] theorem State.trimClass_mgmt : (State.trimClass limits s k).mgmt = s.mgmt := by simp [State.trimClass]
@[simp] theorem State.trimClass_relay : (State.trimClass limits s k).relay = s.relay := by simp [State.trimClass]
@[simp] theorem State.trimClass_inbox : (State.trimClass limits s k).inbox = s.inbox := by simp [State.trimClass]
@[simp] theorem State.trimClass_handed : (State.trimClass limits s k).handed = s.handed := by simp [State.trimClass]
@[simp] theorem State.trimClass_notices : (State.trimClass limits s k).notices = s.notices := by simp [State.trimClass]
@[simp] theorem State.trimClass_drops : (State.trimClass limits s k).drops = s.drops := by simp [State.trimClass]
@[simp] theorem State.trimClass_choices : (State.trimClass limits s k).choices = s.choices := by simp [State.trimClass]
@[simp] theorem State.trimClass_pending : (State.trimClass limits s k).pending = s.pending := by simp [State.trimClass]

end

/-! ### `trim` -/

section

variable (s : State) (limits : Quad Nat)

@[simp] theorem State.trim_now : (s.trim limits).now = s.now := State.foldl_keeps State.now (State.trimClass limits) (fun _ _ => by simp) _ s
@[simp] theorem State.trim_sweep : (s.trim limits).sweep = s.sweep := State.foldl_keeps State.sweep (State.trimClass limits) (fun _ _ => by simp) _ s
@[simp] theorem State.trim_nodeCfg : (s.trim limits).nodeCfg = s.nodeCfg := State.foldl_keeps State.nodeCfg (State.trimClass limits) (fun _ _ => by simp) _ s
@[simp] theorem State.trim_nodeRun : (s.trim limits).nodeRun = s.nodeRun := State.foldl_keeps State.nodeRun (State.trimClass limits) (fun _ _ => by simp) _ s
@[simp] theorem State.trim_chanCfg : (s.trim limits).chanCfg = s.chanCfg := State.foldl_keeps State.chanCfg (State.trimClass limits) (fun _ _ => by simp) _ s
@[simp] theorem State.trim_chanRun : (s.trim limits).chanRun = s.chanRun := State.foldl_keeps State.chanRun (State.trimClass limits) (fun _ _ => by simp) _ s
@[simp] theorem State.trim_settings : (s.trim limits).settings = s.settings := State.foldl_keeps State.settings (State.trimClass limits) (fun _ _ => by simp) _ s
@[simp] theorem State.trim_uplink : (s.trim limits).uplink = s.uplink := State.foldl_keeps State.uplink (State.trimClass limits) (fun _ _ => by simp) _ s
@[simp] theorem State.trim_conf : (s.trim limits).conf = s.conf := State.foldl_keeps State.conf (State.trimClass limits) (fun _ _ => by simp) _ s
@[simp] theorem State.trim_links : (s.trim limits).links = s.links := State.foldl_keeps State.links (State.trimClass limits) (fun _ _ => by simp) _ s
@[simp] theorem State.trim_trunk : (s.trim limits).trunk = s.trunk := State.foldl_keeps State.trunk (State.trimClass limits) (fun _ _ => by simp) _ s
@[simp] theorem State.trim_mgmt : (s.trim limits).mgmt = s.mgmt := State.foldl_keeps State.mgmt (State.trimClass limits) (fun _ _ => by simp) _ s
@[simp] theorem State.trim_relay : (s.trim limits).relay = s.relay := State.foldl_keeps State.relay (State.trimClass limits) (fun _ _ => by simp) _ s
@[simp] theorem State.trim_inbox : (s.trim limits).inbox = s.inbox := State.foldl_keeps State.inbox (State.trimClass limits) (fun _ _ => by simp) _ s
@[simp] theorem State.trim_handed : (s.trim limits).handed = s.handed := State.foldl_keeps State.handed (State.trimClass limits) (fun _ _ => by simp) _ s
@[simp] theorem State.trim_notices : (s.trim limits).notices = s.notices := State.foldl_keeps State.notices (State.trimClass limits) (fun _ _ => by simp) _ s
@[simp] theorem State.trim_drops : (s.trim limits).drops = s.drops := State.foldl_keeps State.drops (State.trimClass limits) (fun _ _ => by simp) _ s
@[simp] theorem State.trim_choices : (s.trim limits).choices = s.choices := State.foldl_keeps State.choices (State.trimClass limits) (fun _ _ => by simp) _ s
@[simp] theorem State.trim_pending : (s.trim limits).pending = s.pending := State.foldl_keeps State.pending (State.trimClass limits) (fun _ _ => by simp) _ s

end

/-! ### `applyItems` -/

section

variable (s : State) (plan : ApplyPlan) (early late : List (Fin 256))

@[simp] theorem State.applyItems_now : (s.applyItems plan early late).now = s.now := by simp [State.applyItems, State.install]
@[simp] theorem State.applyItems_sweep : (s.applyItems plan early late).sweep = s.sweep := by simp [State.applyItems, State.install]
@[simp] theorem State.applyItems_uplink : (s.applyItems plan early late).uplink = s.uplink := by simp [State.applyItems, State.install]
@[simp] theorem State.applyItems_conf : (s.applyItems plan early late).conf = s.conf := by simp [State.applyItems, State.install]
@[simp] theorem State.applyItems_links : (s.applyItems plan early late).links = s.links := by simp [State.applyItems, State.install]
@[simp] theorem State.applyItems_trunk : (s.applyItems plan early late).trunk = s.trunk := by simp [State.applyItems, State.install]
@[simp] theorem State.applyItems_relay : (s.applyItems plan early late).relay = s.relay := by simp [State.applyItems, State.install]
@[simp] theorem State.applyItems_inbox : (s.applyItems plan early late).inbox = s.inbox := by simp [State.applyItems, State.install]
@[simp] theorem State.applyItems_handed : (s.applyItems plan early late).handed = s.handed := by simp [State.applyItems, State.install]
@[simp] theorem State.applyItems_notices : (s.applyItems plan early late).notices = s.notices := by simp [State.applyItems, State.install]
@[simp] theorem State.applyItems_choices : (s.applyItems plan early late).choices = s.choices := by simp [State.applyItems, State.install]
@[simp] theorem State.applyItems_pending : (s.applyItems plan early late).pending = s.pending := by simp [State.applyItems, State.install]

end

end Sys2Proof.Machine
end

