-- ==== Sys2Proof/Laws/Ops.lean ====
section
/-! SUPPORT. What each shared operation does, said once: counters, the latch, MQ, slots, and the handling of a request. -/

namespace Sys2Proof.Machine

/-! ### Links and class queues -/

@[simp] theorem PerPort.get_set_self {α : Type} (x : PerPort α) (p : Port) (a : α) : (x.set p a).get p = a := by
  cases p <;> rfl

theorem PerPort.get_set_other {α : Type} (x : PerPort α) (p q : Port) (a : α) (h : q ≠ p) :
    (x.set p a).get q = x.get q := by
  cases p <;> cases q <;> first | rfl | exact absurd rfl h

@[simp] theorem PerPort.set_set {α : Type} (x : PerPort α) (p : Port) (a b : α) : (x.set p a).set p b = x.set p b := by
  cases p <;> rfl

@[simp] theorem Quad.get_set_self {α : Type} (x : Quad α) (k : ReportClass) (a : α) : (x.set k a).get k = a := by
  cases k <;> rfl

theorem Quad.get_set_other {α : Type} (x : Quad α) (k j : ReportClass) (a : α) (h : j ≠ k) :
    (x.set k a).get j = x.get j := by
  cases k <;> cases j <;> first | rfl | exact absurd rfl h

@[simp] theorem State.setLink_link (s : State) (p : Port) (lp : LinkPort) : (s.setLink p lp).link p = lp := by
  simp [State.link]

theorem State.setLink_link_other (s : State) (p q : Port) (lp : LinkPort) (h : q ≠ p) :
    (s.setLink p lp).link q = s.link q := by
  simp [State.link, PerPort.get_set_other _ _ _ _ h]

/-! ### Transmission (R121, R126) -/

@[simp] theorem frameSymbols_length (bytes : List Byte) : (frameSymbols bytes).length = bytes.length + 4 := by
  simp [frameSymbols]

@[simp] theorem Transmission.symbols_length (t : Transmission) : t.symbols.length = t.bytes.length + 4 :=
  frameSymbols_length t.bytes

/-- Of a frame in transmission a symbol is still to leave, however many the supply lets go (R126). -/
theorem Transmission.send_lt (t : Transmission) (n : Nat) : (t.send n).sent < (t.send n).symbols.length := by
  simp [Transmission.send, Transmission.symbols]

/-- Symbols that leave change the frame in transmission alone, and of it the number sent (R121). -/
theorem LinkPort.transmit_does (p : Port) (n : Nat) (lp : LinkPort) :
    lp.transmit p n = { lp with tx := lp.tx.map (fun t => { t with
      sent := min (t.bytes.length + 3) (t.sent + min (symbolsPerTick p) n) }) } := by
  rcases lp with ⟨_, _, _, _, _, _ | t⟩ <;> simp [LinkPort.transmit, Transmission.send]

/-- With no frame in transmission no transmitter changes: each sends IDLE (R121). -/
theorem State.transmit_idle (s : State) (h : s.lineIdle) (supplied : PerPort Nat) : s.transmit supplied = s := by
  rcases s with @⟨_, _, _, _, _, _, _, _, _, _, ⟨⟨_, _, _, _, _, a⟩, ⟨_, _, _, _, _, b⟩, ⟨_, _, _, _, _, c⟩⟩⟩
  obtain ⟨rfl, rfl, rfl⟩ := h
  rfl

/-! ### Counters (R182) -/

/-- No two counters share a place. -/
theorem Counter.index_injective : Function.Injective Counter.index := by
  intro a b h
  cases a <;> (try (rename_i x; cases x)) <;> cases b <;> (try (rename_i y; cases y)) <;>
    first | rfl | exact absurd h (by decide)

/-- `n` increments of a counter, and of no other (R182). -/
theorem State.counter_countBy (s : State) (c d : Counter) (n : Nat) :
    (s.countBy c n).counter d = if d = c then min 4294967295 (s.counter c + n) else s.counter d := by
  by_cases h : d = c
  · subst h; simp [State.counter, State.countBy, Config.counterMax]
  · have : c.index ≠ d.index := fun e => h (Counter.index_injective e).symm
    simp [State.counter, State.countBy, h, Fin.val_inj, this]

theorem State.counter_count (s : State) (c d : Counter) :
    (s.count c).counter d = if d = c then min 4294967295 (s.counter c + 1) else s.counter d :=
  s.counter_countBy c d 1

/-! ### MQ (R148) and the latch (R177) -/

theorem State.offerMq_free (s : State) (i : MqItem) (h : s.mgmt.items.length + s.mgmt.reserved.length < 8) :
    s.offerMq i = s.pushMq i := by
  have : 0 < s.mqFree := by unfold State.mqFree; simp only [Config.mqSlots]; omega
  simp [State.offerMq, this]

theorem State.offerMq_full (s : State) (i : MqItem) (h : 8 ≤ s.mgmt.items.length + s.mgmt.reserved.length) :
    s.offerMq i = s.count .noticeLost := by
  have : ¬ 0 < s.mqFree := by unfold State.mqFree; simp only [Config.mqSlots]; omega
  simp [State.offerMq, this]

/-- A kind that is latched already: nothing changes. -/
theorem State.raise_latched (s : State) (k : EventKind) (d : Byte) (w : Word) (o : Occurrence)
    (h : s.latch.latched[k.index] = some o) : s.raise k d w = s := by
  unfold State.raise; rw [h]

/-- A kind that is not latched: it latches, and its notice is offered to MQ where the notify set names it. -/
theorem State.raise_fresh (s : State) (k : EventKind) (d : Byte) (w : Word) (h : s.latch.latched[k.index] = none) :
    s.raise k d w =
      if names s.latch.notify k then
        ({ s with latch := { s.latch with latched := s.latch.latched.set k.index (some ⟨d, w⟩) } } : State).offerMq
          (.event k w d)
      else { s with latch := { s.latch with latched := s.latch.latched.set k.index (some ⟨d, w⟩) } } := by
  unfold State.raise; rw [h]

/-- After a raise its kind is latched, with the earlier occurrence where there was one. -/
theorem State.raise_isLatched (s : State) (k : EventKind) (d : Byte) (w : Word) :
    (s.raise k d w).latch.latched[k.index] = some ((s.latch.latched[k.index]).getD ⟨d, w⟩) := by
  cases h : s.latch.latched[k.index] with
  | some o => rw [s.raise_latched k d w o h, h]; rfl
  | none =>
    rw [s.raise_fresh k d w h]
    split
    · unfold State.offerMq; split <;> simp [State.pushMq, State.count, State.countBy]
    · simp

/-! ### Requests (R149, R151) -/

/-- The response to the request whose slot stands first among the reserved ones. -/
theorem State.respond_first (s : State) (tag code : Byte) (st : Status) (res : List Byte) (old : List Reservation)
    (h : s.mgmt.reserved = ⟨tag, code⟩ :: old) :
    s.respond tag code st res = { s with mgmt := { s.mgmt with
      reserved := old, items := s.mgmt.items ++ [.response tag code st res] } } := by
  simp [State.respond, h]

/-- A slot reserved and at once filled by its response. -/
@[simp] theorem State.respond_reserve (s : State) (tag code : Byte) (st : Status) (res : List Byte) :
    (s.reserve tag code).respond tag code st res = s.pushMq (.response tag code st res) := by
  rw [State.respond_first _ _ _ _ _ s.mgmt.reserved rfl]; rfl

/-- An addressed request that is admitted with no reset pending and the right length: its own rule runs on the state with
the slot reserved, and what it answers fills the slot. -/
theorem State.runRequest_admitted (s : State) (code : Byte) (r : Request) (permitted formOk : Bool)
    (body : State → State × Answer) (h : s.admits r) (hf : formOk = true) :
    s.runRequest code r permitted formOk body =
      match body ((s.tookRequest code r).reserve r.tag code) with
      | (s1, .done st res) => s1.respond r.tag code st res
      | (s1, .deferred) => s1 := by
  obtain ⟨hb, hq, hp⟩ := h
  have hm : ¬ (s.takeHanded false (r.tag :: code :: r.fields)).mqFree = 0 := by
    simp only [State.mqFree, State.takeHanded_mgmt, Config.mqSlots] at *; omega
  simp only [State.runRequest, hb, State.addressed, hm, State.tookRequest, hf, State.answerRequest,
    State.reserve_resetPending, State.takeHanded_mgmt, hp]
  simp <;> rfl

/-- The same with the wrong length: BAD_FORMAT. -/
theorem State.runRequest_badFormat (s : State) (code : Byte) (r : Request) (permitted formOk : Bool)
    (body : State → State × Answer) (h : s.admits r) (hf : formOk = false) :
    s.runRequest code r permitted formOk body = (s.tookRequest code r).answered r code .badFormat [] := by
  obtain ⟨hb, hq, hp⟩ := h
  have hm : ¬ (s.takeHanded false (r.tag :: code :: r.fields)).mqFree = 0 := by
    simp only [State.mqFree, State.takeHanded_mgmt, Config.mqSlots] at *; omega
  simp only [State.runRequest, hb, State.addressed, hm, State.tookRequest, hf, State.answerRequest,
    State.reserve_resetPending, State.takeHanded_mgmt, hp]
  simp [State.answered]

/-- A rule that answers at once and leaves the slot alone: the response joins MQ. -/
theorem State.runRequest_reading (s : State) (code : Byte) (r : Request) (permitted formOk : Bool)
    (body : State → State × Answer) (st : Status) (res : List Byte) (h : s.admits r) (hf : formOk = true)
    (hb : body ((s.tookRequest code r).reserve r.tag code) = ((s.tookRequest code r).reserve r.tag code, .done st res)) :
    s.runRequest code r permitted formOk body = (s.tookRequest code r).answered r code st res := by
  rw [s.runRequest_admitted code r permitted formOk body h hf, hb]
  simp [State.answered]

/-! ### Slots, forwarding, notices -/

/-- Slots that return to the free list leave STORE_EMPTY false (R83). -/
theorem State.freeSlots_pos (s : State) (n : Nat) (h : n ≠ 0) :
    s.freeSlots n = { s with
      store := { s.store with free := s.store.free + n }
      latch := { s.latch with storeEmpty := false } } := by
  simp [State.freeSlots, h]

/-- The free count after slots return, whatever their number. -/
@[simp] theorem State.freeSlots_free (s : State) (n : Nat) : (s.freeSlots n).store.free = s.store.free + n := by
  unfold State.freeSlots; split <;> simp_all

@[simp] theorem State.freeSlots_cq (s : State) (n : Nat) : (s.freeSlots n).store.cq = s.store.cq := by
  unfold State.freeSlots; split <;> rfl

/-- A frame that finds TD UP and room in DFQ joins its tail (R142). -/
theorem State.forwardOffer_joins (s : State) (f : TrunkFrame) (hu : s.isUp .td = true) (hd : s.trunk.dfq.length < 16) :
    s.forwardOffer f = { s with trunk := { s.trunk with dfq := s.trunk.dfq ++ [f] } } := by
  simp [State.forwardOffer, hu, hd, Config.dfqSlots]

/-- A frame that finds TD not UP or DFQ full is discarded, counted and raised (R142). -/
theorem State.forwardOffer_refused (s : State) (f : TrunkFrame) (h : s.isUp .td = false ∨ 16 ≤ s.trunk.dfq.length) :
    s.forwardOffer f = (s.count .forwardDrop).raiseNow .forwardDrop 0 := by
  have : (s.isUp .td && decide (s.trunk.dfq.length < Config.dfqSlots)) = false := by
    rcases h with h | h
    · simp [h]
    · simp [Config.dfqSlots, Nat.not_lt.mpr h]
  simp [State.forwardOffer, this]

/-- A drop notice sets its channel's gap flag and touches no other (R57). -/
theorem State.dropNotice_chanRun (s : State) (c i : Fin 256) :
    (s.dropNotice c).chanRun[i] = if i = c then { s.chanRun[i] with gap := true } else s.chanRun[i] := by
  by_cases h : i = c
  · subst h; simp [State.dropNotice]
  · have : c.val ≠ i.val := fun e => h (Fin.ext e.symm)
    simp [State.dropNotice, this, h]

/-- Drop notices for a list of channels: their gap flags, and no other field (R57). -/
theorem State.dropNotices_chanRun (s : State) (cs : List (Fin 256)) (i : Fin 256) :
    (s.dropNotices cs).chanRun[i] = { s.chanRun[i] with gap := s.chanRun[i].gap || decide (i ∈ cs) } := by
  induction cs generalizing s with
  | nil => simp [State.dropNotices]
  | cons c rest ih =>
    have : s.dropNotices (c :: rest) = (s.dropNotice c).dropNotices rest := rfl
    rw [this, ih, State.dropNotice_chanRun]
    by_cases h : i = c <;> simp [h]

/-- Drop notices touch the channels' records alone (R57). -/
theorem State.dropNotices_frame (s : State) (cs : List (Fin 256)) :
    s.dropNotices cs = { s with chanRun := (s.dropNotices cs).chanRun } := by
  unfold State.dropNotices
  induction cs generalizing s with
  | nil => rfl
  | cons c rest ih => rw [List.foldl_cons, ih]; rfl

/-- Drop notices sent: those put off wait behind the others, in order, and the rest set gap flags (R57). -/
theorem State.sendDrops_does (s : State) (late cs : List (Fin 256)) :
    s.sendDrops late cs = { s with
        drops := s.drops ++ cs.filter (fun c => decide (c ∈ late))
        chanRun := (s.sendDrops late cs).chanRun } ∧
      ∀ i : Fin 256, (s.sendDrops late cs).chanRun[i] =
        { s.chanRun[i] with gap := s.chanRun[i].gap || decide (i ∈ cs ∧ i ∉ late) } := by
  unfold State.sendDrops
  refine ⟨?_, fun i => ?_⟩
  · rw [State.dropNotices_frame]
  · rw [State.dropNotices_chanRun]; simp [List.mem_filter]

@[simp] theorem State.sendDrops_drops (s : State) (late cs : List (Fin 256)) :
    (s.sendDrops late cs).drops = s.drops ++ cs.filter (fun c => decide (c ∈ late)) := by
  rw [(s.sendDrops_does late cs).1]

/-- What goes on waiting is the drop notices put off, in their order. -/
@[simp] theorem State.takeDrops_drops (s : State) (late : List (Fin 256)) :
    (s.takeDrops late).drops = s.drops.filter (fun c => decide (c ∈ late)) := by
  simp [State.takeDrops]

/-- With no drop notice waiting there is nothing to take. -/
@[simp] theorem State.takeDrops_none (s : State) (late : List (Fin 256)) (h : s.drops = []) : s.takeDrops late = s := by
  simp only [State.takeDrops, State.sendDrops, h, List.filter_nil, List.append_nil, State.dropNotices, List.foldl_nil]
  rw [← h]

/-- A drop notice of a channel for which none waits is not taken. -/
@[simp] theorem State.takeDropOf_none (s : State) (c : Fin 256) (h : c ∉ s.drops) : s.takeDropOf c = s := by
  simp [State.takeDropOf, h]

/-- Force pending on a list of channels, and on no other (R59). -/
theorem State.markForced_chanRun (s : State) (cs : List (Fin 256)) (i : Fin 256) :
    (s.markForced cs).chanRun[i] = if i ∈ cs then { s.chanRun[i] with forcePending := true } else s.chanRun[i] := by
  induction cs generalizing s with
  | nil => simp [State.markForced]
  | cons c rest ih =>
    have : s.markForced (c :: rest) = (s.setChanRun c { s.chanRun[c] with forcePending := true }).markForced rest := rfl
    rw [this, ih]
    by_cases h : i = c
    · subst h; simp [State.setChanRun]
    · have : c.val ≠ i.val := fun e => h (Fin.ext e.symm)
      simp [State.setChanRun, this, h]

/-! ### Shares of node-loss notices (R54, R73) and what waits for the filter -/

/-- With no share waiting there is nothing to take. -/
@[simp] theorem State.takeShares_none (s : State) (late resets : List (Fin 256)) (h : s.notices = []) :
    s.takeShares late resets = s := by
  simp only [State.takeShares, h, List.filter_nil, List.foldl_nil]
  rw [← h]

/-- What goes on waiting is the shares put off, in their order. -/
@[simp] theorem State.takeShares_notices (s : State) (late resets : List (Fin 256)) :
    (s.takeShares late resets).notices = s.notices.filter (fun n => decide (n.channel ∈ late)) := by
  unfold State.takeShares
  rw [State.foldl_keeps State.notices (State.takeShare resets) (fun _ _ => by simp)]

/-- With no share waiting at its end, a close puts none past it. -/
@[simp] theorem State.keepShares_none (s : State) (resets : List (Fin 256)) (h : s.notices = []) : s.keepShares resets = s := by
  simp only [State.keepShares, h, List.filter_nil, List.map_nil]
  rw [← h]

/-- A share of its own close passes by a channel that the apply of this close has reset. -/
theorem State.takeShare_passes (resets : List (Fin 256)) (s : State) (n : LossNotice) (hp : n.past = false)
    (hr : n.channel ∈ resets) : State.takeShare resets s n = s := by
  simp [State.takeShare, hp, hr]

/-- Every other share is taken as R54 says. -/
theorem State.takeShare_takes (resets : List (Fin 256)) (s : State) (n : LossNotice) (h : n.past = true ∨ n.channel ∉ resets) :
    State.takeShare resets s n = s.takeLoss n := by
  rcases h with h | h <;> simp [State.takeShare, h]

/-- With no delivery waiting there is nothing to judge. -/
@[simp] theorem State.takeDeliveries_none (s : State) (between : List (Fin 256 × Notice)) (resets : List (Fin 256))
    (h : s.handed = []) : s.takeDeliveries between resets = s := by
  simp only [State.takeDeliveries, h, List.flatten_nil, List.foldl_nil]
  rw [← h]

/-- The samples that wait are taken delivery by delivery, each in its order (R27, R40). -/
theorem State.takeDeliveries_cons (s : State) (between : List (Fin 256 × Notice)) (resets : List (Fin 256))
    (ds : List HandedSample) (rest : List (List HandedSample)) (h : s.handed = ds :: rest) :
    s.takeDeliveries between resets = rest.flatten.foldl (State.takeSample between resets)
      (ds.foldl (State.takeSample between resets) { s with handed := [] }) := by
  rw [State.takeDeliveries, h, List.flatten_cons, List.foldl_append]

/-- Nothing waits any more once every delivery is taken. -/
@[simp] theorem State.takeDeliveries_handed (s : State) (between : List (Fin 256 × Notice)) (resets : List (Fin 256)) :
    (s.takeDeliveries between resets).handed = [] := by
  unfold State.takeDeliveries
  rw [State.foldl_keeps State.handed _ (fun _ _ => by simp)]

/-- A sample before which the supply places no notice is judged as it comes (R40). -/
theorem State.takeSample_plain (s : State) (between : List (Fin 256 × Notice)) (resets : List (Fin 256)) (d : HandedSample)
    (h : ∀ p ∈ between, p.1 ≠ d.channel) :
    State.takeSample between resets s d = s.judgeSample d.channel d.quality d.value d.sweep := by
  have : between.filter (fun p => p.1 == d.channel) = [] := by
    rw [List.filter_eq_nil_iff]; intro p hp; simpa using h p hp
  rw [State.takeSample, this, List.foldl_nil]

/-- The limit step touches the limit record alone (R65). -/
theorem limitStep_keeps (cfg : ChanConfig) (run : ChanRuntime) (q : Quality) (v : Word) :
    (limitStep cfg run q v).1 = { run with
      limit := (limitStep cfg run q v).1.limit
      count := (limitStep cfg run q v).1.count
      candidate := (limitStep cfg run q v).1.candidate } := by
  have track : ∀ found, trackCandidate run found = { run with
      limit := (trackCandidate run found).limit
      count := (trackCandidate run found).count
      candidate := (trackCandidate run found).candidate } := by
    intro found; unfold trackCandidate; split_ifs <;> rfl
  unfold limitStep
  split_ifs
  · rfl
  · unfold limitFromKnown
    dsimp only
    rw [track]
    split
    · rfl
    · split_ifs <;> rfl
  · rfl

/-! ### Reception in UP (R128) -/

/-- A symbol with no frame in reception: START opens one, any other ends the silence alone. -/
theorem State.receiveUp_outside (s : State) (p : Port) (sym : ValidSymbol) (h : (s.link p).rx = none) :
    s.receiveUp p sym = s.setLink p { s.link p with
      silence := some 0, rx := if sym = .startFrame then some {} else none } := by
  unfold State.receiveUp; cases sym <;> simp only [h] <;> rfl

/-- END with a frame in reception: the frame is closed and judged (R129). -/
theorem State.receiveUp_end (s : State) (p : Port) (rx : Reception) (h : (s.link p).rx = some rx) :
    s.receiveUp p .endFrame = (s.setLink p { s.link p with silence := some 0, rx := none }).judgeFrame p rx := by
  unfold State.receiveUp; simp only [h]

/-- A DATA byte with a frame in reception joins it. -/
theorem State.receiveUp_data (s : State) (p : Port) (rx : Reception) (b : Byte) (h : (s.link p).rx = some rx) :
    s.receiveUp p (.data b) = s.setLink p { s.link p with silence := some 0, rx := some (rx.add p b) } := by
  unfold State.receiveUp; simp only [h]

/-- The response of the request whose slot is the first reserved for its code, whatever is reserved beside it. -/
theorem State.respondTo_first (s : State) (tag code : Byte) (st : Status) (res : List Byte)
    (h : s.mgmt.reserved.find? (fun r => r.code == code) = some ⟨tag, code⟩) :
    s.respondTo code st res = { s with mgmt := { s.mgmt with
      reserved := s.mgmt.reserved.erase ⟨tag, code⟩, items := s.mgmt.items ++ [.response tag code st res] } } := by
  simp only [State.respondTo, h, State.respond, List.mem_of_find?_eq_some h, if_true]

/-- A relay in any phase that ends as SG leaves UP is answered LINK_DOWN in the slot reserved for it (R173). -/
theorem State.relayLinkDown_ends (s : State) (r : PendingRelay) (tag : Byte) (h : s.relay = some r)
    (hf : s.mgmt.reserved.find? (fun x => x.code == 15) = some ⟨tag, 15⟩) :
    s.relayLinkDown = { s with
      relay := none
      mgmt := { s.mgmt with
        reserved := s.mgmt.reserved.erase ⟨tag, 15⟩
        items := s.mgmt.items ++ [.response tag 15 .linkDown []] } } := by
  unfold State.relayLinkDown; rw [h]
  exact State.respondTo_first ({ s with relay := none } : State) tag 15 .linkDown [] hf

/-- A raise adds at most its own notice to MQ (R177). -/
theorem State.raise_mgmt (s : State) (k : EventKind) (detail : Byte) (sweep : Word) :
    ∃ notices : List MqItem, (∀ i ∈ notices, i = .event k sweep detail) ∧
      (s.raise k detail sweep).mgmt = { s.mgmt with items := s.mgmt.items ++ notices } := by
  unfold State.raise; split
  · exact ⟨[], by simp, by simp⟩
  · dsimp only; split
    · unfold State.offerMq; split
      · exact ⟨[.event k sweep detail], by simp, rfl⟩
      · exact ⟨[], by simp, by simp [State.count, State.countBy]⟩
    · exact ⟨[], by simp, by simp⟩

/-! ### The CRC (R129, R131) -/

/-- Two bytes are those of a word exactly where they make it up, most significant first. -/
theorem be16_eq_iff (x y : Byte) (w : Word) : be16 w.toNat = [x, y] ↔ x ++ y = w := by
  have hw := w.isLt
  have hx := x.isLt
  have hy := y.isLt
  have joined : (x ++ y).toNat = 256 * x.toNat + y.toNat := by
    rw [BitVec.toNat_append, Nat.shiftLeft_eq, Nat.mul_comm, ← Nat.two_pow_add_eq_or_of_lt (by omega)]
  simp only [be16, List.cons.injEq, and_true, BitVec.toNat_eq, BitVec.toNat_ofNat, joined]
  omega

/-- Check 2 of R129: the last two bytes, most significant first, are the CRC of those before them. -/
theorem crcGood_iff (bs : List Byte) (h : 2 ≤ bs.length) :
    crcGood bs = true ↔ bs.getD (bs.length - 2) 0 ++ bs.getD (bs.length - 1) 0 = crc16 (bs.take (bs.length - 2)) := by
  have front : bs.dropLast.dropLast = bs.take (bs.length - 2) := by
    simp only [List.dropLast_eq_take, List.take_take, List.length_take]; congr 1; omega
  have last : bs.drop (bs.length - 2) = [bs.getD (bs.length - 2) 0, bs.getD (bs.length - 1) 0] := by
    have next : bs.length - 2 + 1 = bs.length - 1 := by omega
    rw [List.drop_eq_getElem_cons (by omega), next, List.drop_eq_getElem_cons (by omega),
      List.drop_of_length_le (by omega)]
    simp [List.getD_eq_getElem?_getD, show bs.length - 2 < bs.length by omega, show bs.length - 1 < bs.length by omega]
  rw [crcGood, front, last, beq_iff_eq, be16_eq_iff]

/-! ### The step -/

/-- A step with a command at the front is that command on the queue's rest. -/
theorem step_of_pending (s : State) (c : Instr) (rest : List Instr) (h : s.pending = c :: rest) :
    step s = exec c { s with pending := rest } := by
  unfold step; rw [h]

/-- A step on an empty queue is one tick. -/
theorem step_of_empty (s : State) (h : s.pending = []) : step s = .next s.idle := by
  unfold step; rw [h]

/-- A tick with nothing waiting for the filter and no frame in transmission is the passing of time alone. -/
theorem State.idle_calm (s : State) (h : s.filterIdle) (hl : s.lineIdle) : s.idle = s.advance 1 := by
  rw [State.idle]; exact if_pos ⟨h, hl⟩

/-- A law that every command keeps, that a tick keeps and that does not read the queue is kept by every step. -/
theorem keptByStep_of_exec (law : State → Prop) (hq : ∀ s l, law s → law { s with pending := l })
    (hc : ∀ c s t, law s → exec c s = .next t → law t) (ht : ∀ s, law s → law s.idle) : KeptByStep law := by
  intro s t hs hstep
  cases h : s.pending with
  | nil =>
    rw [step_of_empty s h] at hstep
    exact Host.Outcome.next.inj hstep ▸ ht s hs
  | cons c rest =>
    rw [step_of_pending s c rest h] at hstep
    exact hc c _ t (hq s rest hs) hstep

end Sys2Proof.Machine
end

