-- ==== Sys2Proof/Laws/Apply.lean ====
section
/-! SUPPORT. What the commit apply does to the class queues, their counters, the free slots and the gap flags (R89, R61). -/

namespace Sys2Proof.Machine

/-- The length of what a limit removes from a queue. -/
theorem State.excess_length (s : State) (limits : Quad Nat) (k : ReportClass) :
    (s.excess limits k).length = (s.queue k).length - limits.get k := by
  rw [State.excess, List.length_take]; omega

/-- The trim of one class queue, and of no other (R89). -/
theorem State.trimClass_queue (limits : Quad Nat) (s : State) (k j : ReportClass) :
    (State.trimClass limits s k).queue j =
      if j = k then (s.queue k).drop ((s.queue k).length - limits.get k) else s.queue j := by
  simp only [State.trimClass, State.queue, State.freeSlots_cq, State.countBy_store, State.excess_length]
  split
  · next h => subst h; exact Quad.get_set_self _ _ _
  · next h => exact Quad.get_set_other _ _ _ _ h

/-- What the trim of one class queue frees and counts (R89). -/
theorem State.trimClass_rest (limits : Quad Nat) (s : State) (k : ReportClass) :
    ∃ n, n = (s.queue k).length - limits.get k ∧ (State.trimClass limits s k).store.free = s.store.free + n ∧
      (State.trimClass limits s k).latch =
        { s.latch with storeEmpty := if n = 0 then s.latch.storeEmpty else false } ∧
      (State.trimClass limits s k).chanRun = s.chanRun ∧
      ∀ c, (State.trimClass limits s k).counter c =
        if c = .reportsDropped k then min 4294967295 (s.counter c + n) else s.counter c := by
  refine ⟨_, rfl, ?_, ?_, ?_, ?_⟩
  · simp only [State.trimClass, State.excess_length, State.freeSlots_free]; rfl
  · simp only [State.trimClass, State.excess_length, State.freeSlots]
    split <;> rename_i hn <;> simp [hn, State.setQueue, State.countBy]
  · simp only [State.trimClass, State.freeSlots]; split <;> rfl
  · intro c
    have same : (State.trimClass limits s k).counter c =
        (s.countBy (.reportsDropped k) ((s.queue k).length - limits.get k)).counter c := by
      simp only [State.trimClass, State.excess_length, State.freeSlots]; split <;> rfl
    rw [same, State.counter_countBy]
    split
    · next h => subst h; rfl
    · rfl

/-- The trim of the four class queues (R89): what leaves each, what is counted, and the slots that are free. -/
theorem State.trim_does (s : State) (limits : Quad Nat) :
    (∀ k, (s.trim limits).queue k = (s.queue k).drop ((s.queue k).length - limits.get k) ∧
      (s.trim limits).counter (.reportsDropped k) =
        min 4294967295 (s.counter (.reportsDropped k) + ((s.queue k).length - limits.get k))) ∧
    (∃ n, n = ((s.queue .c0).length - limits.get .c0) + ((s.queue .c1).length - limits.get .c1) +
        ((s.queue .c2).length - limits.get .c2) + ((s.queue .c3).length - limits.get .c3) ∧
      (s.trim limits).store.free = s.store.free + n ∧
      (s.trim limits).latch = { s.latch with storeEmpty := if n = 0 then s.latch.storeEmpty else false }) ∧
    (s.trim limits).chanRun = s.chanRun := by
  unfold State.trim classes
  simp only [List.foldl_cons, List.foldl_nil]
  have qa := State.trimClass_queue limits s .c0
  obtain ⟨na, ea, fa, la, ra, ca⟩ := State.trimClass_rest limits s .c0
  generalize State.trimClass limits s .c0 = a at *
  have qb := State.trimClass_queue limits a .c1
  obtain ⟨nb, eb, fb, lb, rb, cb⟩ := State.trimClass_rest limits a .c1
  generalize State.trimClass limits a .c1 = b at *
  have qc := State.trimClass_queue limits b .c2
  obtain ⟨nc, ec, fc, lc, rc, cc⟩ := State.trimClass_rest limits b .c2
  generalize State.trimClass limits b .c2 = c at *
  have qd := State.trimClass_queue limits c .c3
  obtain ⟨nd, ed, fd, ld, rd, cd⟩ := State.trimClass_rest limits c .c3
  generalize State.trimClass limits c .c3 = d at *
  have a1 : a.queue .c1 = s.queue .c1 := by simp [qa]
  have b2 : b.queue .c2 = s.queue .c2 := by simp [qb, qa]
  have c3 : c.queue .c3 = s.queue .c3 := by simp [qc, qb, qa]
  rw [a1] at eb; rw [b2] at ec; rw [c3] at ed
  refine ⟨?_, ⟨na + nb + nc + nd, by omega, by omega, ?_⟩, by rw [rd, rc, rb, ra]⟩
  · intro k
    rw [cd, cc, cb, ca]
    cases k <;> simp [qd, qc, qb, qa, ea, eb, ec, ed]
  · rw [ld, lc, lb, la]
    simp only [Latch.mk.injEq, true_and, and_true]
    split_ifs <;> first | rfl | omega

/-- A response touches MQ alone. -/
theorem State.respondTo_frame (s : State) (code : Byte) (status : Status) (results : List Byte) :
    s.respondTo code status results = { s with mgmt := (s.respondTo code status results).mgmt } := by
  unfold State.respondTo; split
  · unfold State.respond; split <;> rfl
  · rfl

/-- The plan of an apply names the channels whose records it resets (R61). -/
theorem State.mem_applyPlan_resets (s : State) (c : Fin 256) : c ∈ s.applyPlan.resets ↔ s.resetsChannel c := by
  simp only [State.applyPlan, List.mem_filter, List.mem_finRange, true_and, channelReset, coveredByChange, changedNodes,
    State.resetsChannel, Bool.or_eq_true, Bool.and_eq_true, Bool.not_eq_true', List.any_eq_true, decide_eq_true_eq]

/-- The channels of the trimmed reports. -/
theorem State.mem_trimmed (s : State) (c : Fin 256) :
    c ∈ (s.trimmed s.mergedSettings.limits).map Report.channel ↔ s.trims c := by
  simp only [List.mem_map, State.trimmed, classes, List.map_cons, List.map_nil, List.flatten_cons, List.flatten_nil,
    List.mem_append, List.append_nil, State.excess, State.trims, State.excessOf]
  constructor
  · rintro ⟨r, h | h | h | h, rfl⟩
    exacts [⟨.c0, r, h, rfl⟩, ⟨.c1, r, h, rfl⟩, ⟨.c2, r, h, rfl⟩, ⟨.c3, r, h, rfl⟩]
  · rintro ⟨k, r, h, rfl⟩
    exact ⟨r, by cases k <;> simp [h], rfl⟩

/-- The apply trims the class queues to the staged limits (R89, R57, R61). -/
theorem State.applyItems_trims (s : State) (early late : List (Fin 256)) :
    TrimmedBy s (s.applyItems s.applyPlan early late) early late := by
  unfold State.applyItems
  dsimp only
  set lost := (s.trimmed s.mergedSettings.limits).map Report.channel with hlost
  set s1 := s.dropNotices (lost.filter (fun c => decide (c ∈ early))) with hs1
  have e1 : s1 = { s with chanRun := s1.chanRun } := State.dropNotices_frame _ _
  obtain ⟨ha, ⟨n, hn, hf, hl⟩, hc⟩ := State.trim_does (s1.install s.applyPlan) s.mergedSettings.limits
  set x := (s1.install s.applyPlan).trim s.mergedSettings.limits with hx
  obtain ⟨sent, gaps⟩ := State.sendDrops_does x late (lost.filter (fun c => decide (c ∉ early)))
  rw [State.respondTo_frame, sent]
  have queues : ∀ k, (s1.install s.applyPlan).queue k = s.queue k := by intro k; rw [e1]; rfl
  have counters : ∀ c, (s1.install s.applyPlan).counter c = s.counter c := by intro k; rw [e1]; rfl
  have free : (s1.install s.applyPlan).store.free = s.store.free := by rw [e1]; rfl
  have latch : (s1.install s.applyPlan).latch = s.latch := by rw [e1]; rfl
  refine ⟨fun k => ?_, ⟨n, ?_, hf.trans (by rw [free]), (congrArg Latch.storeEmpty hl).trans (by rw [latch])⟩,
    congrArg (fun x => x[EventKind.classDrop.index]) ((congrArg Latch.latched hl).trans (by rw [latch])), fun c => ?_⟩
  · have := ha k
    rw [queues, counters] at this
    exact this
  · rw [hn]; simp only [queues]; rfl
  · have gap := congrArg ChanRuntime.gap (gaps c)
    have first : s1.chanRun[c].gap = true ↔ s.chanRun[c].gap = true ∨ (s.trims c ∧ c ∈ early) := by
      rw [hs1, State.dropNotices_chanRun]
      simp [hlost, State.mem_trimmed]
    have named := State.mem_applyPlan_resets s c
    have record : x.chanRun[c].gap = if c ∈ s.applyPlan.resets then false else s1.chanRun[c].gap := by
      simp only [hc]
      show (s1.appliedChanRun s.applyPlan)[c].gap = _
      simp only [State.appliedChanRun, Fin.getElem_fin, Vector.getElem_ofFn, Fin.eta]
      split_ifs <;> rfl
    refine ⟨fun h => ?_, fun h => ?_, fun he hd ht => ?_⟩
    · show (x.sendDrops late _).chanRun[c].gap = true ↔ _
      rw [gap, record, if_neg (fun h' => h (named.1 h')), Bool.or_eq_true, first]
      simp only [List.mem_filter, hlost, State.mem_trimmed, decide_eq_true_eq]
      by_cases he : c ∈ early <;> simp [he]
    · show (x.sendDrops late _).chanRun[c].gap = true ↔ _
      rw [gap, record, if_pos (named.2 h)]
      simp [List.mem_filter, hlost, State.mem_trimmed, and_assoc]
    · show c ∈ x.drops ++ _
      simp [List.mem_filter, hlost, State.mem_trimmed, he, hd, ht]

end Sys2Proof.Machine
end

