-- ==== Sys2Proof/Laws/Intake.lean ====
section
/-! SUPPORT. What an accepted SAMPLE frame does before the filter takes its samples, and the counters of Sample Intake, which
the filter leaves (R21, R26, R27). -/

namespace Sys2Proof.Machine

/-- A raise touches the latch, MQ and, where its notice is lost, the counters alone (R177). -/
theorem State.raise_frame (s : State) (k : EventKind) (detail : Byte) (sweep : Word) :
    s.raise k detail sweep = { s with
      latch := (s.raise k detail sweep).latch
      mgmt := (s.raise k detail sweep).mgmt
      bank := (s.raise k detail sweep).bank } := by
  unfold State.raise; split
  · rfl
  · dsimp only; split
    · unfold State.offerMq; split <;> rfl
    · rfl

/-- The node's record after an accepted frame: answered, and PRESENT again where it was ABSENT (R26, R33). -/
theorem State.acceptNode_does (s : State) (i : Fin 24) (ended : Nat) :
    ∃ run : NodeRuntime, run = s.nodeRun[i].answered (s.latency i ended) ∧
      s.acceptNode i ended = { s with
        nodeRun := s.nodeRun.set i (if s.nodeRun[i].presence = .absent then { run with presence := .present, misses := 0 }
          else run)
        latch := (s.acceptNode i ended).latch
        mgmt := (s.acceptNode i ended).mgmt
        bank := (s.acceptNode i ended).bank } ∧
      (s.nodeRun[i].presence ≠ .absent →
        (s.acceptNode i ended).latch = s.latch ∧ (s.acceptNode i ended).mgmt = s.mgmt) ∧
      (s.nodeRun[i].presence = .absent →
        ((s.acceptNode i ended).latch.latched[EventKind.nodeBack.index]).isSome = true) := by
  have kept : (s.nodeRun[i].answered (s.latency i ended)).presence = s.nodeRun[i].presence := by
    unfold NodeRuntime.answered; split; rfl; split <;> rfl
  refine ⟨_, rfl, ?_⟩
  unfold State.acceptNode; dsimp only
  rw [kept]
  by_cases h : s.nodeRun[i].presence = .absent
  · rw [if_pos h, if_pos h]
    refine ⟨?_, fun n => absurd h n, fun _ => by rw [State.raiseNow, State.raise_isLatched]; rfl⟩
    rw [State.raiseNow]; exact State.raise_frame _ _ _ _
  · rw [if_neg h, if_neg h]
    exact ⟨rfl, fun _ => ⟨rfl, rfl⟩, fun n => absurd n h⟩

/-- The counting of a frame's samples (R27): those within the node's channels in SAMPLES_ACCEPTED, the others in UNMAPPED; a
counter with nothing to add stays as it is. -/
theorem State.countSamples_does (n : NodeConfig) (samples : List Sample) (s : State) :
    ∃ given : List Sample, given = samples.filter (fun x => decide (x.number < n.count)) ∧
      samples.foldl (State.countSample n) s = { s with bank := (samples.foldl (State.countSample n) s).bank } ∧
      ((samples.foldl (State.countSample n) s).counter .samplesAccepted =
        if given = [] then s.counter .samplesAccepted
        else min 4294967295 (s.counter .samplesAccepted + given.length)) ∧
      ((samples.foldl (State.countSample n) s).counter .unmapped =
        if given.length = samples.length then s.counter .unmapped
        else min 4294967295 (s.counter .unmapped + (samples.length - given.length))) ∧
      ∀ c, c ≠ .samplesAccepted → c ≠ .unmapped →
        (samples.foldl (State.countSample n) s).counter c = s.counter c := by
  induction samples generalizing s with
  | nil => exact ⟨[], rfl, by simp⟩
  | cons x xs ih =>
    obtain ⟨g, hg, h1, h2, h3, h4⟩ := ih (State.countSample n s x)
    have short : g.length ≤ xs.length := hg ▸ List.length_filter_le _ _
    by_cases hx : x.number < n.count
    · have one : State.countSample n s x = s.count .samplesAccepted := by simp only [State.countSample, hx, if_true]
      refine ⟨x :: g, by simp [hx, hg], ?_, ?_, ?_, ?_⟩
      · rw [List.foldl_cons, h1]
        simp [one, State.count, State.countBy]
      · rw [List.foldl_cons, h2, one, State.counter_count]
        simp only [reduceCtorEq, if_true, if_false, List.length_cons]
        split_ifs with hh
        · simp [hh]
        · omega
      · rw [List.foldl_cons, h3, one, State.counter_count]; simp
      · intro c hc1 hc2
        rw [List.foldl_cons, h4 c hc1 hc2, one, State.counter_count, if_neg hc1]
    · have one : State.countSample n s x = s.count .unmapped := by simp only [State.countSample, hx, if_false]
      refine ⟨g, by simp [hx, hg], ?_, ?_, ?_, ?_⟩
      · rw [List.foldl_cons, h1]
        simp [one, State.count, State.countBy]
      · rw [List.foldl_cons, h2, one, State.counter_count]; simp
      · rw [List.foldl_cons, h3, one, State.counter_count]
        simp only [if_true, List.length_cons]
        rw [if_neg (show ¬ g.length = xs.length + 1 by omega)]
        split_ifs with hh
        · congr 2; omega
        · omega
      · intro c hc1 hc2
        rw [List.foldl_cons, h4 c hc1 hc2, one, State.counter_count, if_neg hc2]

/-- The hand-over of a frame's samples (R27): one delivery joins those that wait, and the counters alone change besides. -/
theorem State.handOver_frame (n : NodeConfig) (sweep : Word) (s : State) (xs : List Sample) :
    State.handOver n sweep s xs = { s with
      handed := s.handed ++ [delivery n sweep xs]
      bank := (State.handOver n sweep s xs).bank } := by
  obtain ⟨-, -, h, -⟩ := State.countSamples_does n xs s
  rw [State.handOver, h]

/-! ### The counters of Sample Intake, which the filter leaves -/

/-- A counter that Sample Intake alone increments for an accepted frame (R21, R27). -/
def Counter.ofIntake (c : Counter) : Prop := c = .sampleFrames ∨ c = .samplesAccepted ∨ c = .unmapped

section
variable (c : Counter) (h : c.ofIntake)
include h

theorem State.count_ofIntake (s : State) (d : Counter) (hd : ¬ d.ofIntake) : (s.count d).counter c = s.counter c := by
  rw [State.counter_count, if_neg]; rintro rfl; exact hd h

theorem State.offerMq_ofIntake (s : State) (i : MqItem) : (s.offerMq i).counter c = s.counter c := by
  unfold State.offerMq; split
  · rfl
  · exact State.count_ofIntake c h _ _ (by simp [Counter.ofIntake])

theorem State.raise_ofIntake (s : State) (k : EventKind) (detail : Byte) (sweep : Word) :
    (s.raise k detail sweep).counter c = s.counter c := by
  unfold State.raise; split
  · rfl
  · dsimp only; split
    · rw [State.offerMq_ofIntake c h]; rfl
    · rfl

theorem State.refuse_ofIntake (s : State) (r : Report) : (s.refuse r).counter c = s.counter c := by
  unfold State.refuse
  show State.counter (if _ then _ else _) c = _
  split
  · rw [State.count_ofIntake c h _ _ (by simp [Counter.ofIntake]), State.raiseNow, State.raise_ofIntake c h]
    exact State.count_ofIntake c h _ _ (by simp [Counter.ofIntake])
  · rw [State.raiseNow, State.raise_ofIntake c h]
    exact State.count_ofIntake c h _ _ (by simp [Counter.ofIntake])

theorem State.offer_ofIntake (s : State) (r : Report) : (s.offer r).counter c = s.counter c := by
  unfold State.offer
  split
  · unfold State.admitReport
    show State.counter (if _ then _ else _) c = _
    split
    · rw [State.tellStoreEmpty, State.raiseNow, State.raise_ofIntake c h]
      exact State.count_ofIntake c h _ _ (by simp [Counter.ofIntake])
    · exact State.count_ofIntake c h _ _ (by simp [Counter.ofIntake])
  · split
    · unfold State.evict
      show State.counter (State.raiseNow _ _ _) c = _
      rw [State.raiseNow, State.raise_ofIntake c h, State.count_ofIntake c h _ _ (by simp [Counter.ofIntake])]
      exact State.count_ofIntake c h _ _ (by simp [Counter.ofIntake])
    · exact State.refuse_ofIntake c h s r
    · exact State.refuse_ofIntake c h s r

theorem State.judgeSample_ofIntake (s : State) (i : Fin 256) (q : Quality) (v sweep : Word) :
    (s.judgeSample i q v sweep).counter c = s.counter c := by
  unfold State.judgeSample
  split
  · exact State.count_ofIntake c h _ _ (by simp [Counter.ofIntake])
  · split
    · rw [State.raise_ofIntake c h]; exact State.count_ofIntake c h _ _ (by simp [Counter.ofIntake])
    · unfold State.judgeFresh; dsimp only
      split
      · rfl
      · split
        · rw [State.offer_ofIntake c h]; rfl
        · rfl

theorem State.takeLoss_ofIntake (s : State) (n : LossNotice) : (s.takeLoss n).counter c = s.counter c := by
  unfold State.takeLoss
  split
  · rfl
  · dsimp only; split
    · rfl
    · rw [State.offer_ofIntake c h]; rfl

theorem State.takeShare_ofIntake (resets : List (Fin 256)) (s : State) (n : LossNotice) :
    (State.takeShare resets s n).counter c = s.counter c := by
  unfold State.takeShare; split
  · rfl
  · exact State.takeLoss_ofIntake c h _ _

theorem State.takeShares_ofIntake (s : State) (late resets : List (Fin 256)) :
    (s.takeShares late resets).counter c = s.counter c := by
  rw [State.takeShares, State.foldl_keeps (fun x => x.counter c) _ (State.takeShare_ofIntake c h resets)]; rfl

theorem State.takeNotice_ofIntake (resets : List (Fin 256)) (s : State) (n : Notice) :
    (State.takeNotice resets s n).counter c = s.counter c := by
  cases n with
  | share i =>
    show (s.takeShareOf resets i).counter c = _
    unfold State.takeShareOf; split
    · rfl
    · rw [State.takeShare_ofIntake c h]; rfl
  | drop i =>
    show (s.takeDropOf i).counter c = _
    unfold State.takeDropOf; split <;> rfl

theorem State.takeSample_ofIntake (between : List (Fin 256 × Notice)) (resets : List (Fin 256)) (s : State)
    (d : HandedSample) : (State.takeSample between resets s d).counter c = s.counter c := by
  rw [State.takeSample, State.judgeSample_ofIntake c h,
    State.foldl_keeps (fun x => x.counter c) (fun x (p : Fin 256 × Notice) => x.takeNotice resets p.2)
      (fun x p => State.takeNotice_ofIntake c h resets x p.2)]

theorem State.takeDeliveries_ofIntake (between : List (Fin 256 × Notice)) (resets : List (Fin 256)) (s : State) :
    (s.takeDeliveries between resets).counter c = s.counter c := by
  rw [State.takeDeliveries, State.foldl_keeps (fun x => x.counter c) _ (State.takeSample_ofIntake c h between resets)]; rfl

theorem State.take_ofIntake (between : List (Fin 256 × Notice)) (resets : List (Fin 256)) (s : State) (a : FilterAct) :
    (State.take between resets s a).counter c = s.counter c := by
  cases a with
  | notice n => exact State.takeNotice_ofIntake c h resets s n
  | delivery =>
    show (s.takeDelivery between resets).counter c = _
    unfold State.takeDelivery; split
    · rfl
    · rw [State.foldl_keeps (fun x => x.counter c) _ (State.takeSample_ofIntake c h between resets)]; rfl

/-- What the filter takes at a frame or a tick leaves the counters of Sample Intake (R27, R40). -/
theorem State.settle_ofIntake (s : State) (supply : Choice) : (s.settle supply).counter c = s.counter c := by
  have kept : (((supply.takes.foldl (State.take supply.between []) s).takeShares supply.late []).takeDrops
      supply.lateDrops).counter c = s.counter c := by
    rw [State.counter, State.takeDrops_bank, ← State.counter, State.takeShares_ofIntake c h,
      State.foldl_keeps (fun x => x.counter c) _ (State.take_ofIntake c h supply.between [])]
  unfold State.settle; dsimp only; split
  · exact kept
  · rw [State.takeDeliveries_ofIntake c h, kept]

end

end Sys2Proof.Machine
end

