-- ==== Sys2Proof/Laws/Sweep.lean ====
section
/-! SUPPORT. The frame of a sweep close, in every order of its acts. -/

namespace Sys2Proof.Machine

/-! ### One act, and the close: fields no act touches -/

section

variable (k : CloseKind) (w : Word) (supply : Choice) (x : Closing) (a : CloseAct)

@[simp] theorem Closing.act_now : (Closing.act k w supply x a).state.now = x.state.now := by
  cases a <;> simp [Closing.act, Closing.judge, Closing.apply] <;> split_ifs <;> (try split) <;> simp
@[simp] theorem Closing.act_conf : (Closing.act k w supply x a).state.conf = x.state.conf := by
  cases a <;> simp [Closing.act, Closing.judge, Closing.apply] <;> split_ifs <;> (try split) <;> simp
@[simp] theorem Closing.act_links : (Closing.act k w supply x a).state.links = x.state.links := by
  cases a <;> simp [Closing.act, Closing.judge, Closing.apply] <;> split_ifs <;> (try split) <;> simp
@[simp] theorem Closing.act_trunk : (Closing.act k w supply x a).state.trunk = x.state.trunk := by
  cases a <;> simp [Closing.act, Closing.judge, Closing.apply] <;> split_ifs <;> (try split) <;> simp
@[simp] theorem Closing.act_relay : (Closing.act k w supply x a).state.relay = x.state.relay := by
  cases a <;> simp [Closing.act, Closing.judge, Closing.apply] <;> split_ifs <;> (try split) <;> simp
@[simp] theorem Closing.act_inbox : (Closing.act k w supply x a).state.inbox = x.state.inbox := by
  cases a <;> simp [Closing.act, Closing.judge, Closing.apply] <;> split_ifs <;> (try split) <;> simp
@[simp] theorem Closing.act_choices : (Closing.act k w supply x a).state.choices = x.state.choices := by
  cases a <;> simp [Closing.act, Closing.judge, Closing.apply] <;> split_ifs <;> (try split) <;> simp
@[simp] theorem Closing.act_pending : (Closing.act k w supply x a).state.pending = x.state.pending := by
  cases a <;> simp [Closing.act, Closing.judge, Closing.apply] <;> split_ifs <;> (try split) <;> simp

end

/-- A fold of acts that each keep a value keeps it. -/
theorem Closing.foldActs_keeps {β : Type} (f : State → β) (k : CloseKind) (w : Word) (supply : Choice)
    (h : ∀ (x : Closing) a, f (Closing.act k w supply x a).state = f x.state) (l : List CloseAct) (x : Closing) :
    f (l.foldl (Closing.act k w supply) x).state = f x.state := by
  induction l generalizing x with
  | nil => rfl
  | cons a rest ih => rw [List.foldl_cons, ih, h]

section

variable (s : State) (k : CloseKind)

@[simp] theorem State.sweepClose_now : (s.sweepClose k).now = s.now := by
  unfold State.sweepClose
  rw [State.keepShares_now, State.takeShares_now, Closing.foldActs_keeps State.now _ _ _ (fun x a => Closing.act_now _ _ _ x a)]; rfl
@[simp] theorem State.sweepClose_conf : (s.sweepClose k).conf = s.conf := by
  unfold State.sweepClose
  rw [State.keepShares_conf, State.takeShares_conf, Closing.foldActs_keeps State.conf _ _ _ (fun x a => Closing.act_conf _ _ _ x a)]; rfl
@[simp] theorem State.sweepClose_links : (s.sweepClose k).links = s.links := by
  unfold State.sweepClose
  rw [State.keepShares_links, State.takeShares_links, Closing.foldActs_keeps State.links _ _ _ (fun x a => Closing.act_links _ _ _ x a)]; rfl
@[simp] theorem State.sweepClose_trunk : (s.sweepClose k).trunk = s.trunk := by
  unfold State.sweepClose
  rw [State.keepShares_trunk, State.takeShares_trunk, Closing.foldActs_keeps State.trunk _ _ _ (fun x a => Closing.act_trunk _ _ _ x a)]; rfl
@[simp] theorem State.sweepClose_relay : (s.sweepClose k).relay = s.relay := by
  unfold State.sweepClose
  rw [State.keepShares_relay, State.takeShares_relay, Closing.foldActs_keeps State.relay _ _ _ (fun x a => Closing.act_relay _ _ _ x a)]; rfl
@[simp] theorem State.sweepClose_inbox : (s.sweepClose k).inbox = s.inbox := by
  unfold State.sweepClose
  rw [State.keepShares_inbox, State.takeShares_inbox, Closing.foldActs_keeps State.inbox _ _ _ (fun x a => Closing.act_inbox _ _ _ x a)]; rfl
@[simp] theorem State.sweepClose_choices : (s.sweepClose k).choices = s.choices.tail := by
  unfold State.sweepClose
  rw [State.keepShares_choices, State.takeShares_choices, Closing.foldActs_keeps State.choices _ _ _ (fun x a => Closing.act_choices _ _ _ x a)]; rfl
@[simp] theorem State.sweepClose_pending : (s.sweepClose k).pending = s.pending := by
  unfold State.sweepClose
  rw [State.keepShares_pending, State.takeShares_pending, Closing.foldActs_keeps State.pending _ _ _ (fun x a => Closing.act_pending _ _ _ x a)]; rfl

end

end Sys2Proof.Machine
end

