-- ==== Sys2Proof/Laws/Management.lean ====
section
/-! SUPPORT. What the shared operations do to the Executor's record besides MQ: nothing to the session or a pending reset,
and to the reserved slots only where a response fills one. -/

namespace Sys2Proof.Machine

/-! ### `offerMq` -/

section

variable (s : State) (i : MqItem)

@[simp] theorem State.offerMq_mgmt_session : (s.offerMq i).mgmt.session = s.mgmt.session := by
  unfold State.offerMq; split <;> rfl
@[simp] theorem State.offerMq_mgmt_resetPending : (s.offerMq i).mgmt.resetPending = s.mgmt.resetPending := by
  unfold State.offerMq; split <;> rfl
@[simp] theorem State.offerMq_mgmt_reserved : (s.offerMq i).mgmt.reserved = s.mgmt.reserved := by
  unfold State.offerMq; split <;> rfl

end

/-! ### `raise` -/

section

variable (s : State) (k : EventKind) (detail : Byte) (sweep : Word)

@[simp] theorem State.raise_mgmt_session : (s.raise k detail sweep).mgmt.session = s.mgmt.session := by
  unfold State.raise; split
  · rfl
  · dsimp only; split <;> simp
@[simp] theorem State.raise_mgmt_resetPending : (s.raise k detail sweep).mgmt.resetPending = s.mgmt.resetPending := by
  unfold State.raise; split
  · rfl
  · dsimp only; split <;> simp
@[simp] theorem State.raise_mgmt_reserved : (s.raise k detail sweep).mgmt.reserved = s.mgmt.reserved := by
  unfold State.raise; split
  · rfl
  · dsimp only; split <;> simp

end

/-! ### `raiseNow` -/

section

variable (s : State) (k : EventKind) (detail : Byte)

@[simp] theorem State.raiseNow_mgmt_session : (s.raiseNow k detail).mgmt.session = s.mgmt.session := by simp [State.raiseNow]
@[simp] theorem State.raiseNow_mgmt_resetPending : (s.raiseNow k detail).mgmt.resetPending = s.mgmt.resetPending := by simp [State.raiseNow]
@[simp] theorem State.raiseNow_mgmt_reserved : (s.raiseNow k detail).mgmt.reserved = s.mgmt.reserved := by simp [State.raiseNow]

end

/-! ### `tellStoreEmpty` -/

section

variable (s : State)

@[simp] theorem State.tellStoreEmpty_mgmt_session : (s.tellStoreEmpty).mgmt.session = s.mgmt.session := by simp [State.tellStoreEmpty]
@[simp] theorem State.tellStoreEmpty_mgmt_resetPending : (s.tellStoreEmpty).mgmt.resetPending = s.mgmt.resetPending := by simp [State.tellStoreEmpty]
@[simp] theorem State.tellStoreEmpty_mgmt_reserved : (s.tellStoreEmpty).mgmt.reserved = s.mgmt.reserved := by simp [State.tellStoreEmpty]

end

/-! ### `respond` -/

section

variable (s : State) (tag code : Byte) (status : Status) (results : List Byte)

@[simp] theorem State.respond_mgmt_session : (s.respond tag code status results).mgmt.session = s.mgmt.session := by
  unfold State.respond; split <;> rfl
@[simp] theorem State.respond_mgmt_resetPending : (s.respond tag code status results).mgmt.resetPending = s.mgmt.resetPending := by
  unfold State.respond; split <;> rfl

end

/-! ### `respondTo` -/

section

variable (s : State) (code : Byte) (status : Status) (results : List Byte)

@[simp] theorem State.respondTo_mgmt_session : (s.respondTo code status results).mgmt.session = s.mgmt.session := by
  unfold State.respondTo; split <;> simp
@[simp] theorem State.respondTo_mgmt_resetPending : (s.respondTo code status results).mgmt.resetPending = s.mgmt.resetPending := by
  unfold State.respondTo; split <;> simp

end

/-! ### `forwardOffer` -/

section

variable (s : State) (f : TrunkFrame)

@[simp] theorem State.forwardOffer_mgmt_session : (s.forwardOffer f).mgmt.session = s.mgmt.session := by
  unfold State.forwardOffer; split <;> simp
@[simp] theorem State.forwardOffer_mgmt_resetPending : (s.forwardOffer f).mgmt.resetPending = s.mgmt.resetPending := by
  unfold State.forwardOffer; split <;> simp
@[simp] theorem State.forwardOffer_mgmt_reserved : (s.forwardOffer f).mgmt.reserved = s.mgmt.reserved := by
  unfold State.forwardOffer; split <;> simp

end

/-! ### `admitReport` -/

section

variable (s : State) (r : Report)

@[simp] theorem State.admitReport_mgmt_session : (s.admitReport r).mgmt.session = s.mgmt.session := by
  unfold State.admitReport State.applyAdmission; dsimp only; split <;> simp
@[simp] theorem State.admitReport_mgmt_resetPending : (s.admitReport r).mgmt.resetPending = s.mgmt.resetPending := by
  unfold State.admitReport State.applyAdmission; dsimp only; split <;> simp
@[simp] theorem State.admitReport_mgmt_reserved : (s.admitReport r).mgmt.reserved = s.mgmt.reserved := by
  unfold State.admitReport State.applyAdmission; dsimp only; split <;> simp

end

/-! ### `evict` -/

section

variable (s : State) (r head : Report) (rest : List Report)

@[simp] theorem State.evict_mgmt_session : (s.evict r head rest).mgmt.session = s.mgmt.session := by simp [State.evict, State.applyAdmission]
@[simp] theorem State.evict_mgmt_resetPending : (s.evict r head rest).mgmt.resetPending = s.mgmt.resetPending := by simp [State.evict, State.applyAdmission]
@[simp] theorem State.evict_mgmt_reserved : (s.evict r head rest).mgmt.reserved = s.mgmt.reserved := by simp [State.evict, State.applyAdmission]

end

/-! ### `refuse` -/

section

variable (s : State) (r : Report)

@[simp] theorem State.refuse_mgmt_session : (s.refuse r).mgmt.session = s.mgmt.session := by
  unfold State.refuse State.applyRefusal; dsimp only; split <;> simp
@[simp] theorem State.refuse_mgmt_resetPending : (s.refuse r).mgmt.resetPending = s.mgmt.resetPending := by
  unfold State.refuse State.applyRefusal; dsimp only; split <;> simp
@[simp] theorem State.refuse_mgmt_reserved : (s.refuse r).mgmt.reserved = s.mgmt.reserved := by
  unfold State.refuse State.applyRefusal; dsimp only; split <;> simp

end

/-! ### `offer` -/

section

variable (s : State) (r : Report)

@[simp] theorem State.offer_mgmt_session : (s.offer r).mgmt.session = s.mgmt.session := by
  unfold State.offer; split
  · simp
  · split <;> simp
@[simp] theorem State.offer_mgmt_resetPending : (s.offer r).mgmt.resetPending = s.mgmt.resetPending := by
  unfold State.offer; split
  · simp
  · split <;> simp
@[simp] theorem State.offer_mgmt_reserved : (s.offer r).mgmt.reserved = s.mgmt.reserved := by
  unfold State.offer; split
  · simp
  · split <;> simp

end

/-! ### `judgeFresh` -/

section

variable (s : State) (c : Fin 256) (q : Quality) (v sweep : Word)

@[simp] theorem State.judgeFresh_mgmt_session : (s.judgeFresh c q v sweep).mgmt.session = s.mgmt.session := by
  unfold State.judgeFresh; dsimp only; split
  · simp
  · split <;> simp
@[simp] theorem State.judgeFresh_mgmt_resetPending : (s.judgeFresh c q v sweep).mgmt.resetPending = s.mgmt.resetPending := by
  unfold State.judgeFresh; dsimp only; split
  · simp
  · split <;> simp
@[simp] theorem State.judgeFresh_mgmt_reserved : (s.judgeFresh c q v sweep).mgmt.reserved = s.mgmt.reserved := by
  unfold State.judgeFresh; dsimp only; split
  · simp
  · split <;> simp

end

/-! ### `judgeSample` -/

section

variable (s : State) (c : Fin 256) (q : Quality) (v sweep : Word)

@[simp] theorem State.judgeSample_mgmt_session : (s.judgeSample c q v sweep).mgmt.session = s.mgmt.session := by
  unfold State.judgeSample; split
  · simp
  · split <;> simp
@[simp] theorem State.judgeSample_mgmt_resetPending : (s.judgeSample c q v sweep).mgmt.resetPending = s.mgmt.resetPending := by
  unfold State.judgeSample; split
  · simp
  · split <;> simp
@[simp] theorem State.judgeSample_mgmt_reserved : (s.judgeSample c q v sweep).mgmt.reserved = s.mgmt.reserved := by
  unfold State.judgeSample; split
  · simp
  · split <;> simp

end

/-! ### `channelClose` -/

section

variable (s : State) (c : Fin 256) (closing : Word)

@[simp] theorem State.channelClose_mgmt_session : (s.channelClose c closing).mgmt.session = s.mgmt.session := by
  unfold State.channelClose; split
  · rfl
  · dsimp only; split
    · simp
    · split <;> simp
@[simp] theorem State.channelClose_mgmt_resetPending : (s.channelClose c closing).mgmt.resetPending = s.mgmt.resetPending := by
  unfold State.channelClose; split
  · rfl
  · dsimp only; split
    · simp
    · split <;> simp
@[simp] theorem State.channelClose_mgmt_reserved : (s.channelClose c closing).mgmt.reserved = s.mgmt.reserved := by
  unfold State.channelClose; split
  · rfl
  · dsimp only; split
    · simp
    · split <;> simp

end

/-! ### `takeLoss` -/

section

variable (s : State) (n : LossNotice)

@[simp] theorem State.takeLoss_mgmt_session : (s.takeLoss n).mgmt.session = s.mgmt.session := by
  unfold State.takeLoss; split
  · rfl
  · dsimp only; split <;> simp
@[simp] theorem State.takeLoss_mgmt_resetPending : (s.takeLoss n).mgmt.resetPending = s.mgmt.resetPending := by
  unfold State.takeLoss; split
  · rfl
  · dsimp only; split <;> simp
@[simp] theorem State.takeLoss_mgmt_reserved : (s.takeLoss n).mgmt.reserved = s.mgmt.reserved := by
  unfold State.takeLoss; split
  · rfl
  · dsimp only; split <;> simp

end

/-! ### `takeShareOf` -/

section

variable (s : State) (resets : List (Fin 256)) (c : Fin 256)

@[simp] theorem State.takeShare_mgmt_session (n : LossNotice) :
    (State.takeShare resets s n).mgmt.session = s.mgmt.session := by
  unfold State.takeShare; split <;> simp
@[simp] theorem State.takeShareOf_mgmt_session : (s.takeShareOf resets c).mgmt.session = s.mgmt.session := by
  unfold State.takeShareOf; split <;> simp
@[simp] theorem State.takeShare_mgmt_resetPending (n : LossNotice) :
    (State.takeShare resets s n).mgmt.resetPending = s.mgmt.resetPending := by
  unfold State.takeShare; split <;> simp
@[simp] theorem State.takeShareOf_mgmt_resetPending : (s.takeShareOf resets c).mgmt.resetPending = s.mgmt.resetPending := by
  unfold State.takeShareOf; split <;> simp
@[simp] theorem State.takeShare_mgmt_reserved (n : LossNotice) :
    (State.takeShare resets s n).mgmt.reserved = s.mgmt.reserved := by
  unfold State.takeShare; split <;> simp
@[simp] theorem State.takeShareOf_mgmt_reserved : (s.takeShareOf resets c).mgmt.reserved = s.mgmt.reserved := by
  unfold State.takeShareOf; split <;> simp

end

/-! ### `takeShares` -/

section

variable (s : State) (late resets : List (Fin 256))

@[simp] theorem State.takeShares_mgmt_session : (s.takeShares late resets).mgmt.session = s.mgmt.session := by
  unfold State.takeShares
  exact State.foldl_keeps (fun x => x.mgmt.session) (State.takeShare resets) (fun _ _ => by simp) _ _
@[simp] theorem State.takeShares_mgmt_resetPending : (s.takeShares late resets).mgmt.resetPending = s.mgmt.resetPending := by
  unfold State.takeShares
  exact State.foldl_keeps (fun x => x.mgmt.resetPending) (State.takeShare resets) (fun _ _ => by simp) _ _
@[simp] theorem State.takeShares_mgmt_reserved : (s.takeShares late resets).mgmt.reserved = s.mgmt.reserved := by
  unfold State.takeShares
  exact State.foldl_keeps (fun x => x.mgmt.reserved) (State.takeShare resets) (fun _ _ => by simp) _ _

end

/-! ### `takeNotice` -/

section

variable (s : State) (resets : List (Fin 256)) (n : Notice)

@[simp] theorem State.takeNotice_mgmt_session : (s.takeNotice resets n).mgmt.session = s.mgmt.session := by cases n <;> simp [State.takeNotice]
@[simp] theorem State.takeNotice_mgmt_resetPending : (s.takeNotice resets n).mgmt.resetPending = s.mgmt.resetPending := by cases n <;> simp [State.takeNotice]
@[simp] theorem State.takeNotice_mgmt_reserved : (s.takeNotice resets n).mgmt.reserved = s.mgmt.reserved := by cases n <;> simp [State.takeNotice]

end

/-! ### `takeSample` -/

section

variable (s : State) (between : List (Fin 256 × Notice)) (resets : List (Fin 256)) (d : HandedSample)

@[simp] theorem State.takeSample_mgmt_session : (s.takeSample between resets d).mgmt.session = s.mgmt.session := by
  unfold State.takeSample
  rw [State.judgeSample_mgmt_session]
  exact State.foldl_keeps (fun x => x.mgmt.session) _ (fun _ _ => by simp) _ _
@[simp] theorem State.takeSample_mgmt_resetPending : (s.takeSample between resets d).mgmt.resetPending = s.mgmt.resetPending := by
  unfold State.takeSample
  rw [State.judgeSample_mgmt_resetPending]
  exact State.foldl_keeps (fun x => x.mgmt.resetPending) _ (fun _ _ => by simp) _ _
@[simp] theorem State.takeSample_mgmt_reserved : (s.takeSample between resets d).mgmt.reserved = s.mgmt.reserved := by
  unfold State.takeSample
  rw [State.judgeSample_mgmt_reserved]
  exact State.foldl_keeps (fun x => x.mgmt.reserved) _ (fun _ _ => by simp) _ _

end

/-! ### `takeDelivery` -/

section

variable (s : State) (between : List (Fin 256 × Notice)) (resets : List (Fin 256))

@[simp] theorem State.takeDelivery_mgmt_session : (s.takeDelivery between resets).mgmt.session = s.mgmt.session := by
  unfold State.takeDelivery; split
  · rfl
  · exact State.foldl_keeps (fun x => x.mgmt.session) _ (fun _ _ => by simp) _ _
@[simp] theorem State.takeDelivery_mgmt_resetPending : (s.takeDelivery between resets).mgmt.resetPending = s.mgmt.resetPending := by
  unfold State.takeDelivery; split
  · rfl
  · exact State.foldl_keeps (fun x => x.mgmt.resetPending) _ (fun _ _ => by simp) _ _
@[simp] theorem State.takeDelivery_mgmt_reserved : (s.takeDelivery between resets).mgmt.reserved = s.mgmt.reserved := by
  unfold State.takeDelivery; split
  · rfl
  · exact State.foldl_keeps (fun x => x.mgmt.reserved) _ (fun _ _ => by simp) _ _

end

/-! ### `takeDeliveries` -/

section

variable (s : State) (between : List (Fin 256 × Notice)) (resets : List (Fin 256))

@[simp] theorem State.takeDeliveries_mgmt_session : (s.takeDeliveries between resets).mgmt.session = s.mgmt.session := by
  unfold State.takeDeliveries
  exact State.foldl_keeps (fun x => x.mgmt.session) _ (fun _ _ => by simp) _ _
@[simp] theorem State.takeDeliveries_mgmt_resetPending : (s.takeDeliveries between resets).mgmt.resetPending = s.mgmt.resetPending := by
  unfold State.takeDeliveries
  exact State.foldl_keeps (fun x => x.mgmt.resetPending) _ (fun _ _ => by simp) _ _
@[simp] theorem State.takeDeliveries_mgmt_reserved : (s.takeDeliveries between resets).mgmt.reserved = s.mgmt.reserved := by
  unfold State.takeDeliveries
  exact State.foldl_keeps (fun x => x.mgmt.reserved) _ (fun _ _ => by simp) _ _

end

/-! ### `take` -/

section

variable (s : State) (between : List (Fin 256 × Notice)) (resets : List (Fin 256)) (a : FilterAct)

@[simp] theorem State.take_mgmt_session : (s.take between resets a).mgmt.session = s.mgmt.session := by cases a <;> simp [State.take]
@[simp] theorem State.take_mgmt_resetPending : (s.take between resets a).mgmt.resetPending = s.mgmt.resetPending := by cases a <;> simp [State.take]
@[simp] theorem State.take_mgmt_reserved : (s.take between resets a).mgmt.reserved = s.mgmt.reserved := by cases a <;> simp [State.take]

end

/-! ### `keepShares` -/

section

variable (s : State) (resets : List (Fin 256))

@[simp] theorem State.keepShares_mgmt_session : (s.keepShares resets).mgmt.session = s.mgmt.session := rfl
@[simp] theorem State.keepShares_mgmt_resetPending : (s.keepShares resets).mgmt.resetPending = s.mgmt.resetPending := rfl
@[simp] theorem State.keepShares_mgmt_reserved : (s.keepShares resets).mgmt.reserved = s.mgmt.reserved := rfl

end

/-! ### `settle` -/

section

variable (s : State) (c : Choice)

@[simp] theorem State.settle_mgmt_session : (s.settle c).mgmt.session = s.mgmt.session := by
  have first : (c.takes.foldl (State.take c.between []) s).mgmt.session = s.mgmt.session :=
    State.foldl_keeps (fun x => x.mgmt.session) _ (fun _ _ => by simp) _ _
  unfold State.settle; dsimp only; split <;> simp [first]
@[simp] theorem State.settle_mgmt_resetPending : (s.settle c).mgmt.resetPending = s.mgmt.resetPending := by
  have first : (c.takes.foldl (State.take c.between []) s).mgmt.resetPending = s.mgmt.resetPending :=
    State.foldl_keeps (fun x => x.mgmt.resetPending) _ (fun _ _ => by simp) _ _
  unfold State.settle; dsimp only; split <;> simp [first]
@[simp] theorem State.settle_mgmt_reserved : (s.settle c).mgmt.reserved = s.mgmt.reserved := by
  have first : (c.takes.foldl (State.take c.between []) s).mgmt.reserved = s.mgmt.reserved :=
    State.foldl_keeps (fun x => x.mgmt.reserved) _ (fun _ _ => by simp) _ _
  unfold State.settle; dsimp only; split <;> simp [first]

end

/-! ### `sendLoss` -/

section

variable (s : State) (n : NodeConfig) (closing : Word)

@[simp] theorem State.sendLoss_mgmt_session : (s.sendLoss n closing).mgmt.session = s.mgmt.session := rfl
@[simp] theorem State.sendLoss_mgmt_resetPending : (s.sendLoss n closing).mgmt.resetPending = s.mgmt.resetPending := rfl
@[simp] theorem State.sendLoss_mgmt_reserved : (s.sendLoss n closing).mgmt.reserved = s.mgmt.reserved := rfl

end

/-! ### `judgeNode` -/

section

variable (s : State) (i : Fin 24) (closing : Word)

@[simp] theorem State.judgeNode_mgmt_session : (s.judgeNode i closing).mgmt.session = s.mgmt.session := by
  unfold State.judgeNode; dsimp only; split_ifs <;> simp
@[simp] theorem State.judgeNode_mgmt_resetPending : (s.judgeNode i closing).mgmt.resetPending = s.mgmt.resetPending := by
  unfold State.judgeNode; dsimp only; split_ifs <;> simp
@[simp] theorem State.judgeNode_mgmt_reserved : (s.judgeNode i closing).mgmt.reserved = s.mgmt.reserved := by
  unfold State.judgeNode; dsimp only; split_ifs <;> simp

end

/-! ### `abandonEntry` -/

section

variable (s : State) (e : Entry)

@[simp] theorem State.abandonEntry_mgmt_session : (s.abandonEntry e).mgmt.session = s.mgmt.session := by simp [State.abandonEntry]
@[simp] theorem State.abandonEntry_mgmt_resetPending : (s.abandonEntry e).mgmt.resetPending = s.mgmt.resetPending := by simp [State.abandonEntry]
@[simp] theorem State.abandonEntry_mgmt_reserved : (s.abandonEntry e).mgmt.reserved = s.mgmt.reserved := by simp [State.abandonEntry]

end

/-! ### `endRelay` -/

section

variable (s : State) (status : Status) (results : List Byte)

@[simp] theorem State.endRelay_mgmt_session : (s.endRelay status results).mgmt.session = s.mgmt.session := by simp [State.endRelay]
@[simp] theorem State.endRelay_mgmt_resetPending : (s.endRelay status results).mgmt.resetPending = s.mgmt.resetPending := by simp [State.endRelay]

end

/-! ### `relayLinkDown` -/

section

variable (s : State)

@[simp] theorem State.relayLinkDown_mgmt_session : (s.relayLinkDown).mgmt.session = s.mgmt.session := by
  unfold State.relayLinkDown; split <;> simp
@[simp] theorem State.relayLinkDown_mgmt_resetPending : (s.relayLinkDown).mgmt.resetPending = s.mgmt.resetPending := by
  unfold State.relayLinkDown; split <;> simp

end

/-! ### `noteLoss` -/

section

variable (s : State) (p : Port)

@[simp] theorem State.noteLoss_mgmt_session : (s.noteLoss p).mgmt.session = s.mgmt.session := by simp [State.noteLoss]
@[simp] theorem State.noteLoss_mgmt_resetPending : (s.noteLoss p).mgmt.resetPending = s.mgmt.resetPending := by simp [State.noteLoss]
@[simp] theorem State.noteLoss_mgmt_reserved : (s.noteLoss p).mgmt.reserved = s.mgmt.reserved := by simp [State.noteLoss]

end

/-! ### `dropRequest` -/

section

variable (s : State)

@[simp] theorem State.dropRequest_mgmt_session : (s.dropRequest).mgmt.session = s.mgmt.session := by simp [State.dropRequest]
@[simp] theorem State.dropRequest_mgmt_resetPending : (s.dropRequest).mgmt.resetPending = s.mgmt.resetPending := by simp [State.dropRequest]
@[simp] theorem State.dropRequest_mgmt_reserved : (s.dropRequest).mgmt.reserved = s.mgmt.reserved := by simp [State.dropRequest]

end

/-! ### A close -/

/-- With no commit pending, an act of a close leaves the session, the tables and the plan of what an apply changed. -/
theorem Closing.act_noCommit (k : CloseKind) (w : Word) (supply : Choice) (x : Closing) (a : CloseAct)
    (h : x.state.mgmt.session.state ≠ .commitPending) :
    (Closing.act k w supply x a).state.mgmt.session = x.state.mgmt.session ∧
      (Closing.act k w supply x a).state.settings = x.state.settings ∧
      (Closing.act k w supply x a).state.nodeCfg = x.state.nodeCfg ∧
      (Closing.act k w supply x a).state.chanCfg = x.state.chanCfg ∧ (Closing.act k w supply x a).plan = x.plan := by
  cases a <;> simp [Closing.act, Closing.judge, Closing.apply, h] <;> split_ifs <;> simp

/-- The same for a fold of acts. -/
theorem Closing.foldActs_noCommit (k : CloseKind) (w : Word) (supply : Choice) (l : List CloseAct) (x : Closing)
    (h : x.state.mgmt.session.state ≠ .commitPending) :
    (l.foldl (Closing.act k w supply) x).state.mgmt.session = x.state.mgmt.session ∧
      (l.foldl (Closing.act k w supply) x).state.settings = x.state.settings ∧
      (l.foldl (Closing.act k w supply) x).state.nodeCfg = x.state.nodeCfg ∧
      (l.foldl (Closing.act k w supply) x).state.chanCfg = x.state.chanCfg ∧
      (l.foldl (Closing.act k w supply) x).plan = x.plan := by
  induction l generalizing x with
  | nil => simp
  | cons a rest ih =>
    obtain ⟨h1, h2, h3, h4, h5⟩ := Closing.act_noCommit k w supply x a h
    obtain ⟨g1, g2, g3, g4, g5⟩ := ih (Closing.act k w supply x a) (by rw [h1]; exact h)
    exact ⟨g1.trans h1, g2.trans h2, g3.trans h3, g4.trans h4, g5.trans h5⟩

/-- With no commit pending a close leaves the session, the settings and the tables as they were (R8, R31). -/
theorem State.sweepClose_noCommit (s : State) (k : CloseKind) (h : s.mgmt.session.state ≠ .commitPending) :
    (s.sweepClose k).mgmt.session = s.mgmt.session ∧ (s.sweepClose k).settings = s.settings ∧
      (s.sweepClose k).nodeCfg = s.nodeCfg ∧ (s.sweepClose k).chanCfg = s.chanCfg := by
  unfold State.sweepClose
  obtain ⟨h1, h2, h3, h4, -⟩ := Closing.foldActs_noCommit k s.sweep.number s.choice (closeOrder s.choice.acts)
    { state := s.dropChoice.endCollection } h
  simp only [State.keepShares_mgmt, State.keepShares_settings, State.keepShares_nodeCfg, State.keepShares_chanCfg,
    State.takeShares_mgmt_session, State.takeShares_settings, State.takeShares_nodeCfg, State.takeShares_chanCfg, h1, h2,
    h3, h4]
  exact ⟨rfl, rfl, rfl, rfl⟩

end Sys2Proof.Machine
end

