-- ==== Sys2Proof/Tests/Slice0.lean ====
section
/-! SUPPORT. Tests on small states: the well-formedness check refuses an ill-formed term for each of its conditions; the
spec's worked figures; and for each statement a state and operands that meet its premises, at the ends of their ranges. -/

namespace Sys2Proof.Tests

open Sys2Proof.Machine

set_option Elab.async false

/-! ### Small states -/

def upLink : LinkPort := { state := .up, silence := some 0 }

/-- All three links UP. -/
def up : State := { State.reset with links := ⟨upLink, upLink, upLink⟩ }

/-- Node entry 0, address 5, channels 0 to 3, of which 0 is enabled. -/
def node5 : NodeConfig := ⟨true, 5, 0, 4, true⟩

def mapped : State := { up with
  nodeCfg := up.nodeCfg.set 0 node5
  chanCfg := up.chanCfg.set 0 { enabled := true } }

/-- Sweep 7 in progress, its TRIGGER on the segment at tick 0. -/
def sweeping : State := { mapped with
  now := 100
  sweep := { state := .collecting, number := 7, lastTrigger := some 0, triggerStart := some 10, window := some 700 } }

def req (fields : List Byte) : Request := ⟨false, 9, fields⟩

def toAll (fields : List Byte) : Request := ⟨true, 9, fields⟩

def header : TrunkHeader := ⟨0, 31, 0⟩

def sampleReport : Report :=
  { node := 5, channel := 0, number := 0, causes := { initial := true }, cls := .c2, value := 3, quality := .good, sweep := 7,
    limit := .unknown, aged := false, gap := false }

def outstanding (st : EntryState) : Entry := ⟨sampleReport, 4, 1, st, false⟩

def receiving (p : Port) (bytes : List Byte) : State := up.setLink p { upLink with rx := some ⟨bytes, false, false⟩ }

def sending (p : Port) (o : Owner) : State := up.setLink p { upLink with tx := some ⟨[1], o, 0⟩ }

def inFlight (f : Flight) : State := { sending .tu .scheduler with uplink := { flight := some f } }

def trunkFrame (kind flags dest : Byte) (payload : List Byte) : TrunkFrame := ⟨kind, flags, dest, 0, payload⟩

/-- The state a command leads to. -/
def after (c : Instr) (s : State) : State :=
  match exec c s with
  | .next t => t
  | .fault _ => s
  | .refused _ => s

def items (n : Nat) : List MqItem := List.replicate n .announce

/-! ### Well-formedness: one ill-formed term for each check -/

theorem test_wellFormed_header : (Instr.sync ⟨0, 31, 31⟩ 5).wellFormed = true ∧
    (Instr.sync ⟨0, 32, 0⟩ 5).wellFormed = false ∧ (Instr.sync ⟨0, 0, 32⟩ 5).wellFormed = false ∧
    (Instr.enumerateClear ⟨0, 32, 0⟩ 5).wellFormed = false := by decide

theorem test_wellFormed_restartFlag : (Instr.enumerateRestart header 1 1).wellFormed = true ∧
    (Instr.enumerateRestart header 0 1).wellFormed = false ∧
    (Instr.enumerateRestart ⟨0, 0, 32⟩ 1 1).wellFormed = false := by decide

theorem test_wellFormed_segment : (Instr.sampleFrame 63 []).wellFormed = true ∧
    (Instr.sampleFrame 64 []).wellFormed = false ∧ (Instr.sampleFrame 5 (List.replicate 65 0)).wellFormed = false ∧
    (Instr.nodeReply 64 []).wellFormed = false ∧ (Instr.nodeReply 5 (List.replicate 65 0)).wellFormed = false := by decide

theorem test_wellFormed_payloads : (Instr.ack (List.replicate 96 0)).wellFormed = true ∧
    (Instr.ack (List.replicate 97 0)).wellFormed = false ∧
    (Instr.startSweeps (req (List.replicate 94 0))).wellFormed = true ∧
    (Instr.startSweeps (req (List.replicate 95 0))).wellFormed = false ∧
    (Instr.unknownRequest false (List.replicate 97 0)).wellFormed = false := by decide

theorem test_wellFormed_unknownCode : (Instr.unknownRequest false [1, 24]).wellFormed = true ∧
    (Instr.unknownRequest false [1]).wellFormed = true ∧ (Instr.unknownRequest false [1, 23]).wellFormed = false ∧
    (Instr.unknownRequest true [1, 1]).wellFormed = false := by decide

/-! ### Figures of the spec -/

/-- R131's generator, start value and bit order on the customary check string "123456789". -/
theorem test_crc16_checkString : crc16 [0x31, 0x32, 0x33, 0x34, 0x35, 0x36, 0x37, 0x38, 0x39] = 0x29B1 := by decide +kernel

theorem test_identityBytes : identityBytes = [74, 5, 24, 1, 24, 1, 0, 1, 128, 16, 32] := by decide

theorem test_noWordSpellsACommand : decodeTableWord 8 0 = none ∧ up.withFetchWord 8 0 = up := ⟨rfl, rfl⟩

theorem test_step_front :
    step { up with pending := [.sgArbiterStart, .dfqSend] } = exec .sgArbiterStart { up with pending := [.dfqSend] } := rfl

/-! ### Premises of the statements, clause by clause, at the ends of the ranges -/

/-- A share of a node-loss notice for channel 0 that waits past its close. -/
def lossWaits (s : State) : State := { s with notices := [⟨0, 5, 0, 6, true⟩] }

theorem test_stepRunsFrontCommandOrTick : up.pending = [] ∧ up.filterIdle ∧ up.lineIdle ∧ (lossWaits up).notices ≠ [] ∧
    ({ up with drops := [0] } : State).idle.chanRun[0].gap = true ∧
    ({ up with drops := [0], choices := [{ lateDrops := [0] }] } : State).idle.drops = [0] ∧
    (lossWaits up).choice.deliverLate = false ∧ ({ up with choices := [{ deliverLate := true }] } : State).choice.deliverLate = true ∧
    (lossWaits up).idle.notices = [] ∧ (lossWaits { up with choices := [{ late := [0] }] }).idle.notices.length = 1 := by
  decide +kernel

theorem test_resetPartRequest : up.admits (req [0]) ∧ up.isUp .tu = true ∧ State.reset.admits (req [1]) ∧
    State.reset.isUp .tu = false ∧ (1 : Nat) < (2 : Byte).toNat ∧ (after (.resetPart (req [1])) up).mgmt.resetPending = some .tables ∧
    (after (.resetPart (req [1])) sweeping).sweep.state = .collecting := by decide +kernel

theorem test_countersAndEvents : up.latch.latched[EventKind.linkLoss.index] = none ∧
    (up.raise .linkLoss 2 7).latch.latched[EventKind.linkLoss.index] = some ⟨2, 7⟩ ∧
    names (0x0100 : Word) .linkLoss = true ∧ names (0 : Word) .linkLoss = false ∧ (items 7).length + 0 < 8 ∧
    8 ≤ (items 8).length + 0 := by decide +kernel

theorem test_linkAlignment : (State.reset.link .td).state = .down ∧
    ((State.reset.setLink .td ⟨.aligning, 62, some 1, [], none, none⟩).link .td).idleRun < 63 ∧
    (after (.idleSymbol .td) (State.reset.setLink .td ⟨.aligning, 63, some 1, [], none, none⟩)).link .td = upLink ∧
    (after (.frameReceived .td) State.reset).link .td = ⟨.aligning, 0, some 0, [], none, none⟩ ∧
    ((after (.frameReceived .td) (State.reset.setLink .td ⟨.aligning, 63, some 1, [], none, none⟩)).link .td).idleRun = 0 := by
  decide +kernel

theorem test_receptionInUp : (up.link .sg).state = .up ∧ (up.link .sg).rx = none ∧
    ((receiving .sg (List.replicate 66 0)).link .sg).rx = some ⟨List.replicate 66 0, false, false⟩ ∧
    ((after (.dataSymbol .sg 1) (receiving .sg (List.replicate 67 0))).link .sg).rx =
      some ⟨List.replicate 67 0, false, true⟩ := by decide +kernel

theorem test_frameJudged : failedCheck .sg ⟨(SegFrame.mk 0x31 5 []).bytes, false, false⟩ = none ∧
    failedCheck .td ⟨(trunkFrame 1 1 0 []).bytes, false, false⟩ = none ∧
    failedCheck .td ⟨[1, 2, 3], false, false⟩ = some (.lengthErrors .td) ∧
    (after (.frameReceived .td) (receiving .td (trunkFrame 1 1 0 []).bytes)).trunk.tqU = [trunkFrame 1 1 0 []] ∧
    (after (.frameReceived .td) (receiving .td (trunkFrame 1 0 0 []).bytes)).trunk.tqN = [trunkFrame 1 0 0 []] ∧
    (List.replicate 15 (trunkFrame 1 1 0 [])).length < 16 ∧ 32 ≤ (List.replicate 32 (trunkFrame 1 0 0 [])).length := by
  decide +kernel

theorem test_frameJudged_checks : failedCheck .sg ⟨withCrc [0x31, 5], false, false⟩ = some (.lengthErrors .sg) ∧
    failedCheck .tu ⟨[0x11, 0, 4, 0, 0, 1, 2], false, false⟩ = some (.crcErrors .tu) ∧
    failedCheck .tu ⟨withCrc [0x11, 0, 4, 0, 1], false, false⟩ = some (.lengthErrors .tu) ∧
    failedCheck .tu ⟨withCrc [0x01, 0, 4, 0, 0], false, false⟩ = some .misdirected ∧
    failedCheck .tu ⟨withCrc [0x31, 0, 4, 0, 0], false, false⟩ = some .misdirected ∧
    failedCheck .td ⟨withCrc [0x01, 0, 32, 0, 0], false, false⟩ = some .misdirected ∧
    failedCheck .td ⟨withCrc [0x01, 0, 31, 31, 0], false, false⟩ = none ∧
    failedCheck .sg ⟨withCrc [0x32, 64, 0], false, false⟩ = some .misdirected ∧
    failedCheck .tu ⟨withCrc [0x13, 0, 31, 0, 3, 1, 2, 3], false, false⟩ = some (.lengthErrors .tu) := by decide +kernel

theorem test_trunkRouting : failedCheck .tu ⟨(trunkFrame 0x11 0 4 [9, 10]).bytes, false, false⟩ = none ∧
    failedCheck .tu ⟨(trunkFrame 0x13 0 31 [0, 1]).bytes, false, false⟩ = none ∧
    readTrunk (trunkFrame 0x11 0 4 [9, 10]).bytes = trunkFrame 0x11 0 4 [9, 10] ∧
    (after (.frameReceived .tu) { receiving .tu (trunkFrame 0x11 0 4 [9, 10]).bytes with trunk := { own := 4 } }).inbox.executor =
      [⟨false, [9, 10]⟩] ∧
    (after (.frameReceived .tu) (receiving .tu (trunkFrame 0x12 0 0 [1, 1]).bytes)).trunk.dfq = [trunkFrame 0x12 0 0 [1, 1]] ∧
    (after (.frameReceived .tu) (receiving .tu (trunkFrame 0x13 0 31 [0, 1]).bytes)).inbox.tu = [trunkFrame 0x13 0 31 [0, 1]] ∧
    (after (.frameReceived .tu) { receiving .tu (trunkFrame 0x12 0 0 [1, 1]).bytes with
      inbox := { tu := [trunkFrame 0x13 0 31 [0, 1]] } }).inbox.tu = [trunkFrame 0x13 0 31 [0, 1], trunkFrame 0x12 0 0 [1, 1]] ∧
    State.reset.isUp .td = false ∧ up.isUp .td = true ∧ up.trunk.dfq.length < 16 := by decide +kernel

theorem test_codeErrors : ((⟨.aligning, 0, some 4, List.replicate 30 0, none, none⟩ : LinkPort).errors.filter
      (fun t => 100 - t ≤ 100)).length < 31 ∧
    ((List.replicate 31 1).filter (fun t => 101 - t ≤ 100)).length = 31 ∧
    (after (.codeError .tu) (up.setLink .tu { upLink with errors := List.replicate 31 0 })).link .tu = {} ∧
    (after (.linkSilenceLoss .sg) (up.setLink .sg ⟨.aligning, 3, some 4, [], none, none⟩)).now = 6 := by decide +kernel

theorem test_linkLossInUp_premises (p : Port) : TransmissionLaw up ∧ (up.link p).state = .up ∧ up.mgmt.resetPending = none := by
  refine ⟨⟨by decide, by decide, ?_, ?_, ?_⟩, by cases p <;> decide, by decide⟩ <;>
    intro o h <;> simp [State.owner, State.link, up, upLink, PerPort.get] at h

theorem test_linkLossInUp : (after (.linkNoiseLoss .td) { sending .td .dispatcher with
      trunk := { dfq := [trunkFrame 0x11 0 3 []] } }).counter .forwardDrop = 2 ∧
    (after (.linkNoiseLoss .sg) { sweeping with sweep := { sweeping.sweep with waiting := some 7 } }).sweep.waiting = none ∧
    (after (.linkNoiseLoss .tu) (inFlight .beacon)).uplink.flight = none := by decide +kernel

theorem test_transmissionCompleted : ((inFlight .beacon).link .tu).tx = some ⟨[1], .scheduler, 0⟩ ∧
    ((sending .sg .relayController).link .sg).tx = some ⟨[1], .relayController, 0⟩ ∧
    ((sending .td .dispatcher).link .td).tx = some ⟨[1], .dispatcher, 0⟩ ∧ (inFlight .beacon).choice.chooseFirst = false ∧
    ({ inFlight .beacon with choices := [{ chooseFirst := true }] } : State).choice.chooseFirst = true ∧
    (after (.transmissionComplete .tu) (inFlight (.reports .cq2 [sampleReport]))).store.free = 385 ∧
    (after (.transmissionComplete .tu) { inFlight (.item (.response 9 23 .ok [])) with
      mgmt := { resetPending := some .runtime } }).mgmt.resetPending = none := by decide +kernel

/-- A frame of three bytes on SG, `sent` of its 7 symbols gone. -/
def onLine (sent : Nat) : State := up.setLink .sg { upLink with tx := some ⟨[7, 8, 9], .sweepController, sent⟩ }

theorem test_symbolsSent : (onLine 0).links.sg.sends = .startFrame ∧ (onLine 1).links.sg.sends = .data 7 ∧
    (onLine 3).links.sg.sends = .data 9 ∧ (onLine 4).links.sg.sends = .endFrame ∧ (onLine 5).links.sg.sends = .idle ∧
    (onLine 6).links.sg.sends = .idle ∧ State.reset.links.tu.sends = .idle ∧
    (after (.linkNoiseLoss .sg) (onLine 2)).links.sg.sends = .idle := by decide +kernel

theorem test_symbolsLeaveAtTicks : (onLine 0).pending = [] ∧ ¬ (onLine 0).lineIdle ∧
    (onLine 0).idle.links.sg.tx = some ⟨[7, 8, 9], .sweepController, 6⟩ ∧
    ({ onLine 1 with choices := [{ symbols := ⟨0, 0, 2⟩ }] } : State).idle.links.sg.tx = some ⟨[7, 8, 9], .sweepController, 3⟩ ∧
    (after (.transmissionComplete .sg) (onLine 6)).counter (.framesOut .sg) = 1 := by decide +kernel

theorem test_endGone : (⟨[7, 8, 9], .scheduler, 4⟩ : Transmission).endGone = false ∧
    (⟨[7, 8, 9], .scheduler, 5⟩ : Transmission).endGone = true ∧
    (after (.linkNoiseLoss .sg) (onLine 4)).counter (.framesOut .sg) = 0 ∧
    (after (.linkNoiseLoss .sg) (onLine 5)).counter (.framesOut .sg) = 1 := by decide +kernel

theorem test_uplinkAbort : ((inFlight (.transit true)).link .tu).tx = some ⟨[1], .scheduler, 0⟩ ∧
    (inFlight (.transit true)).uplink.flight = some (.transit true) ∧ (inFlight .beacon).mgmt.resetPending = none ∧
    (inFlight .beacon).choice.endLeft = false ∧ (inFlight .beacon).choice.tellFirst = false ∧
    (after (.linkNoiseLoss .tu) (inFlight (.item .announce))).counter .noticeLost = 1 ∧
    (after (.linkNoiseLoss .tu) (inFlight (.reports .cq1 [sampleReport]))).counter .txAborted = 1 ∧
    (after (.linkNoiseLoss .tu) (inFlight (.reports .cq1 [sampleReport]))).chanRun[0].gap = true ∧
    (after (.linkNoiseLoss .tu) { inFlight (.reports .cq1 [sampleReport]) with choices := [{ lateDrops := [0] }] }).drops = [0] := by
  decide +kernel

/-- A part reset pending, its response in MQ. -/
def resetWaits (scope : Scope) : State := { up with
  bank := up.bank.set 41 5
  mgmt := { items := [.response 9 23 .ok []], resetPending := some scope } }

/-- A part reset pending, its response on TU. -/
def resetInFlight (scope : Scope) : State := { inFlight (.item (.response 9 23 .ok [])) with
  bank := up.bank.set 41 5
  mgmt := { resetPending := some scope } }

theorem test_pendingResetAtLoss_premises (scope : Scope) :
    TransmissionLaw (resetWaits scope) ∧ TransmissionLaw (resetInFlight scope) ∧
      MqItem.response 9 23 .ok [] ∈ (resetWaits scope).mgmt.items ∧
      (∀ tag rs, MqItem.response tag 23 .ok rs ∉ (resetInFlight scope).mgmt.items) := by
  refine ⟨⟨?_, ?_, ?_, ?_, ?_⟩, ⟨?_, ?_, ?_, ?_, ?_⟩, List.mem_singleton.mpr rfl, fun _ _ => List.not_mem_nil⟩
  all_goals (cases scope <;> decide +kernel)

theorem test_pendingResetAtLoss : ((resetWaits .runtime).link .tu).tx = none ∧ (resetInFlight .tables).choice.endLeft = false ∧
    (after (.linkNoiseLoss .tu) (resetWaits .runtime)).mgmt = {} ∧
    (after (.linkNoiseLoss .tu) (resetWaits .runtime)).counter .noticeLost = 5 ∧
    (after (.linkNoiseLoss .tu) (resetInFlight .runtime)).counter .noticeLost = 6 ∧
    (after (.linkNoiseLoss .tu) (resetInFlight .tables)).counter .noticeLost = 0 ∧
    (after (.linkNoiseLoss .tu) { resetInFlight .runtime with choices := [{ resetFirst := true }] }).counter .noticeLost = 6 ∧
    (after (.linkNoiseLoss .tu) { resetInFlight .tables with choices := [{ tellFirst := true }] }).counter (.linkLosses .tu) = 1 ∧
    (after (.linkNoiseLoss .tu) (resetInFlight .tables)).counter (.linkLosses .tu) = 0 := by decide +kernel

/-- A part reset pending, its response in MQ, and another frame in transmission. -/
def resetBehind (f : Flight) (c : Choice) : State := { inFlight f with
  bank := up.bank.set 41 5
  mgmt := { items := [.response 9 23 .ok []], resetPending := some .runtime }
  choices := [c] }

theorem test_pendingResetAtLoss_ends : (resetBehind .beacon {}).uplink.flight = some .beacon ∧
    (after (.linkNoiseLoss .tu) (resetBehind (.reports .cq1 [sampleReport]) {})).counter .txAborted = 1 ∧
    (after (.linkNoiseLoss .tu) (resetBehind (.transit true) {})).counter .transitDrop = 1 ∧
    (after (.linkNoiseLoss .tu) (resetBehind (.item .announce) {})).counter .noticeLost = 6 ∧
    (after (.linkNoiseLoss .tu) (resetBehind (.item .announce) { endLeft := true })).counter (.framesOut .tu) = 1 ∧
    (after (.linkNoiseLoss .tu) (resetBehind (.item .announce) { resetFirst := true })).counter .noticeLost = 5 ∧
    (after (.linkNoiseLoss .tu) { resetBehind (.urgent 4 false) {} with
      conf := ⟨[{ outstanding .sending with acked := true }], [], 5⟩ }).counter .urgentAcked = 1 ∧
    (after (.linkNoiseLoss .tu) { resetInFlight .runtime with choices := [{ endLeft := true }] }).counter (.framesOut .tu) = 1 ∧
    (after (.linkNoiseLoss .tu) { resetInFlight .runtime with
      links := ⟨{ upLink with tx := some ⟨[1], .scheduler, 3⟩ }, upLink, upLink⟩ }).counter (.framesOut .tu) = 1 := by
  decide +kernel

theorem test_dfqSendAndArbiterStart : (up.link .td).state = .up ∧ (up.link .td).tx = none ∧
    (after .dfqSend { up with trunk := { dfq := [trunkFrame 0x11 0 3 []] } }).trunk.dfq = [] ∧ (up.link .sg).tx = none ∧
    (after .sgArbiterStart { up with sweep := { waiting := some 7 }, now := 5 }).sweep.triggerStart = some 5 ∧
    (after .sgArbiterStart { up with relay := some ⟨5, [1], .queued⟩ }).relay = some ⟨5, [1], .sending⟩ := by decide +kernel

def enumerating (flag next : Byte) : State := { up with inbox := { tu := [trunkFrame 0x14 0 31 [flag, next]] } }

theorem test_enumerateRestart : (enumerating 1 1).inbox.tu = [⟨0x14, header.flags, header.dest, header.src, [1, 1]⟩] ∧
    (after (.enumerateRestart header 1 1) (enumerating 1 1)).trunk.own = 1 ∧
    (after (.enumerateRestart header 1 30) (enumerating 1 30)).trunk.dfq = [trunkFrame 0x14 0 31 [1, 31]] ∧
    (after (.enumerateRestart header 1 31) (enumerating 1 31)).trunk = { dfq := [trunkFrame 0x14 0 31 [1, 31]] } ∧
    (after (.enumerateRestart header 1 0) (enumerating 1 0)).counter (.lengthErrors .tu) = 1 ∧
    (after (.enumerateRestart header 1 32) (enumerating 1 32)).counter (.lengthErrors .tu) = 1 ∧
    (enumerating 1 1).isUp .td = true ∧ ({ enumerating 1 1 with links := ⟨upLink, {}, {}⟩ } : State).isUp .td = false ∧
    (enumerating 1 1).choice.forwardFirst = false := by decide +kernel

theorem test_enumerateClear : (enumerating 0 30).inbox.tu = [⟨0x14, header.flags, header.dest, header.src, [0, 30]⟩] ∧
    (enumerating 0 30).trunk.own = 0 ∧ (after (.enumerateClear header 30) (enumerating 0 30)).mgmt.items = [.announce] ∧
    (after (.enumerateClear header 1) { enumerating 0 1 with trunk := { own := 3 } }).trunk =
      { own := 3, dfq := [trunkFrame 0x14 0 31 [0, 1]] } ∧
    (after (.enumerateClear header 31) (enumerating 0 31)).trunk.own = 0 ∧
    (after (.enumerateClear header 32) (enumerating 0 32)).counter (.lengthErrors .tu) = 1 := by decide +kernel

def trunkSource (s : State) (n : Nat) : State := { s with
  settings := { s.settings with source := .trunk }
  inbox := { tu := [trunkFrame 0x13 0 31 (be16 n)] } }

theorem test_syncTaken : (trunkSource up 8).inbox.tu = [⟨0x13, header.flags, header.dest, header.src, be16 (8 : Word).toNat⟩] ∧
    (trunkSource up 8).isUp .td = true ∧ (trunkSource up 8).sweep.state = .stopped ∧
    (after (.sync header 8) { trunkSource up 8 with sweep := { state := .quiet, number := 7 } }).sweep.number = 8 ∧
    ((after (.sync header 8) { trunkSource up 8 with
      sweep := { state := .quiet, number := 8 } }).latch.latched[EventKind.syncGap.index]).isSome = true := by decide +kernel

theorem test_syncForcesClose : (trunkSource sweeping 8).settings.source = .trunk ∧
    (trunkSource sweeping 8).sweep.state = .collecting ∧ (trunkSource sweeping 8).mgmt.session.state ≠ .commitPending ∧
    ((after (.sync header 8) (trunkSource sweeping 8)).sweep.lastClosed,
      (after (.sync header 8) (trunkSource sweeping 8)).sweep.supervision) = (some 7, some 2000) := by decide +kernel

theorem test_sweepTimers : ({ sweeping with sweep := { supervision := some 40 } } : State).sweep.supervision = some 40 ∧
    (after .syncSupervisionExpiry { up with sweep := { state := .quiet, supervision := some 40 } }).sweep.supervision = some 2000 ∧
    (after .periodReached { up with sweep := { state := .quiet, lastTrigger := some 0 }, now := 900 }).now = 1000 ∧
    (after .periodReached { up with sweep := { state := .quiet } }).sweep.state = .collecting := by decide +kernel

theorem test_windowExpiry : sweeping.sweep.window = some 700 ∧ sweeping.mgmt.session.state ≠ .commitPending ∧
    100 + 700 - 0 < sweeping.settings.period ∧ ({ sweeping with sweep := { sweeping.sweep with oneShot := true } } : State).sweep.window = some 700 ∧
    (after .windowExpiry { sweeping with now := 300 }).sweep.number = 8 := by decide +kernel

theorem test_closesSweep : ClosesSweep .windowExpiry sweeping ∧ ClosesSweep (.stopSweeps (req [])) sweeping ∧
    ClosesSweep (.stopSweeps (toAll [])) { sweeping with trunk := { own := 30 } } ∧
    ClosesSweep (.sync header 8) (trunkSource sweeping 8) :=
  ⟨⟨rfl, .inl ⟨rfl, rfl⟩⟩, ⟨rfl, .inr (.inl ⟨_, rfl, rfl, rfl, .inl ⟨rfl, by decide⟩⟩)⟩,
    ⟨rfl, .inr (.inl ⟨_, rfl, rfl, rfl, .inr ⟨rfl, by decide⟩⟩)⟩, ⟨rfl, .inr (.inr ⟨_, _, rfl, rfl⟩)⟩⟩

/-- The sweep in progress will lose node 0, whose channel 0 has reported. -/
def losing : State := (sweeping.setNodeRun 0 ⟨.missing, 2, false, none, none⟩).setChanRun 0
  { lastReported := some ⟨3, .good⟩, latest := some ⟨4, .good, 5⟩ }

theorem test_closeJudgesNodesAndCountsBeacon : sweeping.nodeCfg[0].enabled = true ∧ sweeping.nodeCfg[1].enabled = false ∧
    sweeping.nodeRun[0].responded = false ∧ (after .windowExpiry sweeping).nodeRun[0] = ⟨.missing, 1, false, none, none⟩ ∧
    (after (.stopSweeps (req [])) losing).nodeRun[0] = ⟨.absent, 3, false, none, none⟩ ∧
    ((sweeping.setNodeRun 0 ⟨.absent, 15, false, none, none⟩).judgeNode 0 7).nodeRun[0] = ⟨.absent, 15, false, none, none⟩ ∧
    ((sweeping.setNodeRun 0 ⟨.missing, 2, true, none, none⟩).judgeNode 0 7).nodeRun[0] = ⟨.present, 0, false, none, none⟩ ∧
    sweeping.settings.beaconInterval = 100 ∧ sweeping.advanceBeacon.latch.beaconCount = 1 ∧
    ({ sweeping with latch := { beaconCount := 99 } } : State).advanceBeacon.uplink.beaconPending = true ∧
    ({ sweeping with latch := { beaconCount := 98 } } : State).advanceBeacon.latch.beaconCount = 99 ∧
    ({ sweeping with settings := { beaconInterval := 0 } } : State).advanceBeacon.latch.beaconCount = 0 := by decide +kernel

theorem test_closeReachesChannels_premises : losing.losesNode 0 ∧ ¬ sweeping.losesNode 0 ∧ losing.choice = {} ∧
    losing.handed = [] ∧ losing.notices = [] ∧ losing.nodeCfg[0].covers 3 = true ∧ losing.nodeCfg[0].covers 4 = false ∧
    TablesOk losing := by
  refine ⟨⟨?_, ?_, ?_, ?_, ?_⟩, fun h => absurd h.2.2.2.2 ?_, ?_, ?_, ?_, ?_, ?_, ?_, ?_, ?_, ?_, ?_, ?_⟩ <;> decide +kernel

theorem test_closeReachesChannels : (after .windowExpiry losing).chanRun[0].latest = some ⟨4, .noData, 5⟩ ∧
    (after .windowExpiry { losing with choices := [{ late := [0] }] }).chanRun[0].latest = some ⟨4, .good, 5⟩ ∧
    ((after .windowExpiry { losing with choices := [{ late := [0] }] }).notices.map LossNotice.past) = [true] ∧
    (after .windowExpiry sweeping).chanRun[0].sinceReport = 1 ∧ (after .windowExpiry sweeping).chanRun[1].sinceReport = 0 := by
  decide +kernel

/-- These acts of a close of sweep 7, one after the other. -/
def closing (c : Choice) (acts : List CloseAct) (s : State) : State := (acts.foldl (Closing.act .stop 7 c) { state := s }).state

/-- R73: a share of a lost node's notice is taken at the tick after a sample of a later sweep, whose run it ends. -/
def runUnderWay : State := lossWaits ({ sweeping with
  chanCfg := sweeping.chanCfg.set 0 { enabled := true, supervision := true, high := 100, low := 0, persistence := 3 }
  choices := [{ late := [0] }] }.setChanRun 0
    { lastReported := some ⟨3, .good⟩, latest := some ⟨100, .good, 6⟩, limit := .normal, count := 1, candidate := some .high })

theorem test_lateShare : (after (.sampleFrame 5 [0, 7, 1, 0, 0, 101]) runUnderWay).chanRun[0].count = 2 ∧
    (after (.sampleFrame 5 [0, 7, 1, 0, 0, 101]) runUnderWay).idle.chanRun[0].count = 0 ∧
    (after (.sampleFrame 5 [0, 7, 1, 0, 0, 101]) runUnderWay).idle.chanRun[0].latest = some ⟨101, .noData, 7⟩ ∧
    (after (.sampleFrame 5 [0, 7, 1, 0, 0, 101]) { runUnderWay with choices := [] }).chanRun[0].count = 1 := by decide +kernel

/-- The order of a close: an act listed twice comes once, a taking as often as it is listed. -/
theorem test_closeReachesChannels_order :
    onceEach [.apply, .take .delivery, .apply, .take .delivery] = [.take .delivery, .apply, .take .delivery] ∧
    onceEach [.duties 3, .proceed] = [.duties 3, .proceed] := by decide +kernel

/-- A commit pending: node 0 takes address 6, and channel 1 is enabled. -/
def committing (source : SweepSource) : State := { sweeping with
  mgmt := { reserved := [⟨9, 22⟩], session := ⟨.commitPending, some 0x0102, [.node 0 { node5 with address := 6 },
    .channel 255 { enabled := false, high := 5, low := 1 }, .settings { source := source, limits := ⟨1, 1, 1, 1⟩ }], none⟩ } }

theorem test_applyAtClose_premises : ClosesSweep .windowExpiry (committing .trunk) ∧ (committing .trunk).resetsChannel 3 ∧
    ¬ (committing .trunk).resetsChannel 255 ∧
    limitFieldsDiffer (committing .trunk).chanCfg[255] (committing .trunk).mergedChannels[255] = true ∧
    (committing .trunk).nodeCfg[0] ≠ (committing .trunk).mergedNodes[0] ∧
    (committing .trunk).mgmt.reserved.find? (fun x => x.code == 22) = some ⟨9, 22⟩ := by
  refine ⟨⟨rfl, .inl ⟨rfl, rfl⟩⟩, .inr ⟨0, by decide +kernel, .inl (by decide +kernel)⟩, ?_, by decide +kernel,
    by decide +kernel, rfl⟩
  rintro (h | ⟨i, -, h | h⟩)
  · exact absurd h (by decide +kernel)
  · revert i; decide +kernel
  · revert i; decide +kernel

theorem test_applyAtClose : (after .windowExpiry (committing .trunk)).nodeCfg[0].address = 6 ∧
    (after .windowExpiry (committing .trunk)).mgmt = { items := [.response 9 22 .ok []] } ∧
    (after .windowExpiry (committing .trunk)).sweep.supervision = some 2000 ∧
    (closing {} [.apply, .duties 0] (committing .trunk)).chanRun[0].sinceReport = 1 ∧
    (closing {} [.apply] ((committing .trunk).setQueue .c2 [sampleReport, sampleReport])).queue .c2 = [sampleReport] ∧
    (after (.sync header 8) { committing .localTimer with
      settings := { source := .trunk }, inbox := { tu := [trunkFrame 0x13 0 31 [0, 8]] } }).sweep.supervision = none := by
  decide +kernel

/-- The same with no channel enabled before or after, and three reports of class 2 queued. -/
def committingQuiet : State :=
  { (committing .trunk).setQueue .c2 [sampleReport, sampleReport, { sampleReport with channel := 9 }] with
    chanCfg := up.chanCfg }

theorem test_applyAtClose_trim_premises : ClosesSweep .windowExpiry committingQuiet ∧ committingQuiet.handed = [] ∧
    committingQuiet.notices = [] ∧ committingQuiet.drops = [] ∧ committingQuiet.choice = {} ∧ committingQuiet.sweep.window = some 700 ∧
    committingQuiet.mgmt.session.state = .commitPending ∧
    (∀ i : Fin 256, committingQuiet.chanCfg[i].enabled = false ∧ committingQuiet.mergedChannels[i].enabled = false) :=
  ⟨⟨rfl, .inl ⟨rfl, rfl⟩⟩, rfl, rfl, rfl, rfl, rfl, rfl, by decide +kernel⟩

theorem test_applyAtClose_trim : (after .windowExpiry committingQuiet).queue .c2 = [{ sampleReport with channel := 9 }] ∧
    (closing {} [.apply] committingQuiet).counter (.reportsDropped .c2) = 2 ∧
    (closing {} [.apply] committingQuiet).store.free = 386 ∧
    (closing {} [.apply] committingQuiet).chanRun[0].gap = true ∧ (closing {} [.apply] committingQuiet).chanRun[9].gap = false ∧
    (closing { dropFirst := [0] } [.apply] committingQuiet).chanRun[0].gap = false := by decide +kernel

/-- A commit of new limits pending; channel 0, two of its reports queued in class 2, is to make a FORCED report of class 1. -/
def trimming : State :=
  ({ sweeping.setQueue .c2 [sampleReport, sampleReport] with
    mgmt := { session := ⟨.commitPending, some 0x0102, [.settings { limits := ⟨1, 1, 1, 1⟩ }], none⟩ }
    chanCfg := sweeping.chanCfg.set 0 { enabled := true, changeClass := .c1 } } : State).setChanRun 0
      { lastReported := some ⟨3, .good⟩, latest := some ⟨3, .good, 7⟩, forcePending := true }

theorem test_dropNoticeOfTrim : (closing { lateDrops := [0] } [.apply] trimming).drops = [0] := by decide +kernel

/-- R57: a drop notice that waits is taken before the close report of its channel is built, after it, or later still. -/
theorem test_dropNoticeInClose :
    ((closing {} [.drops, .duties 0] { trimming with drops := [0] }).queue .c1).map Report.gap = [true] ∧
    (closing {} [.drops, .duties 0] { trimming with drops := [0] }).chanRun[0].gap = false ∧
    ((closing {} [.duties 0, .take (.notice (.drop 0))] { trimming with drops := [0] }).queue .c1).map Report.gap = [false] ∧
    (closing {} [.duties 0, .take (.notice (.drop 0))] { trimming with drops := [0] }).chanRun[0].gap = true ∧
    (closing { lateDrops := [0] } [.drops, .duties 0] { trimming with drops := [0] }).drops = [0] := by decide +kernel

/-- Two deliveries wait, of channels 0 and 1; a commit of limits for both is pending. -/
def twoDeliveries : State := { sweeping with
  chanCfg := (sweeping.chanCfg.set 0 { enabled := true, supervision := true, high := 9, low := 0 }).set 1
    { enabled := true, supervision := true, high := 9, low := 0 }
  mgmt := { session := ⟨.commitPending, some 0x0102, [.channel 0 { enabled := true, supervision := true, high := 5, low := 0 },
    .channel 1 { enabled := true, supervision := true, high := 5, low := 0 }], none⟩ }
  handed := [[⟨0, .good, 7, 7⟩], [⟨1, .good, 7, 7⟩]] }

/-- R74: the apply comes between the two deliveries. -/
theorem test_applyBetweenDeliveries :
    ((closing {} [.take .delivery, .apply, .deliveries] twoDeliveries).chanRun.toList.take 2).map ChanRuntime.limit =
      [.unknown, .high] := by decide +kernel

theorem test_startSweeps : up.admits (req []) ∧ up.sweep.state = .stopped ∧ up.settings.source = .localTimer ∧
    (after (.startSweeps (req [])) up).sweep.waiting = some 1 ∧
    (after (.startSweeps (req [])) (trunkSource up 8)).sweep.state = .quiet ∧ sweeping.admits (req []) ∧
    (after (.startSweeps (req [1])) up).mgmt.items = [.response 9 10 .badFormat []] := by decide +kernel

theorem test_triggerOnceAndStopSweeps : (after (.triggerOnce (req [])) up).sweep.oneShot = true ∧
    (after (.triggerOnce (req [])) (trunkSource up 8)).mgmt.items = [.response 9 12 .notAllowed []] ∧
    (after (.stopSweeps (req [])) sweeping).sweep.lastClosed = some 7 ∧
    (after (.stopSweeps (req [])) { up with sweep := { state := .quiet } }).sweep.state = .stopped := by decide +kernel

def arriving (kind node : Byte) (payload : List Byte) (s : State) : State := { s with inbox := { intake := [⟨⟨kind, node, payload⟩, 60⟩] } }

theorem test_sampleFrameDiscarded : (arriving 0x31 5 [0, 7, 0] sweeping).inbox.intake = [⟨⟨0x31, 5, [0, 7, 0]⟩, 60⟩] ∧
    ([0, 7, 16] : List Byte).getD 2 0 = 16 ∧ (3 : Nat) + 3 * 16 = (List.replicate 51 (0 : Byte)).length ∧
    (after (.sampleFrame 5 [0, 7, 0]) (arriving 0x31 5 [0, 7, 0] sweeping)).counter (.lengthErrors .sg) = 1 ∧
    (after (.sampleFrame 6 [0, 7, 1, 0, 0, 1]) (arriving 0x31 6 [0, 7, 1, 0, 0, 1] sweeping)).counter .unmapped = 1 ∧
    (after (.sampleFrame 5 [0, 6, 1, 0, 0, 1]) (arriving 0x31 5 [0, 6, 1, 0, 0, 1] sweeping)).counter .stale = 1 ∧
    (after (.sampleFrame 5 [0, 7, 1, 0, 0, 1]) (arriving 0x31 5 [0, 7, 1, 0, 0, 1] { mapped with
      sweep := { state := .quiet, number := 7, lastClosed := some 7 } })).counter .late = 1 := by decide +kernel

theorem test_sampleFrameAccepted : wordAt [0, 7, 1, 0, 0, 1] 0 = sweeping.sweep.number ∧
    sweeping.nodeCfg[0].address = (5 : Byte).toNat ∧
    (∀ j : Fin 24, j ≠ 0 → sweeping.nodeCfg[j].enabled = true → sweeping.nodeCfg[j].address ≠ (5 : Byte).toNat) ∧
    (after (.sampleFrame 5 [0, 7, 1, 0, 0, 1]) (arriving 0x31 5 [0, 7, 1, 0, 0, 1] sweeping)).nodeRun[0] =
      ⟨.unknown, 0, true, some 50, some 50⟩ ∧
    (after (.sampleFrame 5 [0, 7, 1, 0, 0, 1]) (arriving 0x31 5 [0, 7, 1, 0, 0, 1] { sweeping with
      sweep := { sweeping.sweep with triggerStart := some 61 } })).nodeRun[0].lastLatency.isSome = true ∧
    (after (.sampleFrame 5 [0, 7, 2, 0, 0, 1, 4, 0, 1]) sweeping).counter .unmapped = 1 ∧
    (after (.sampleFrame 5 [0, 7, 1, 0, 0, 1]) { sweeping with choices := [{ deliverLate := true }] }).handed =
      [[⟨0, .good, 1, 7⟩]] ∧
    ((after (.sampleFrame 5 [0, 7, 1, 0, 0, 1]) sweeping).queue .c2).length = 1 ∧
    (after (.sampleFrame 5 [0, 7, 1, 0, 0, 1]) (sweeping.setNodeRun 0 ⟨.absent, 4, false, none, none⟩)).nodeRun[0].presence = .present := by
  decide +kernel

theorem test_sampleFrameAccepted_counters :
    (after (.sampleFrame 5 [0, 7, 1, 0, 0, 1]) { sweeping with bank := Vector.replicate 43 4294967296 }).counter .unmapped =
      4294967296 ∧
    (after (.sampleFrame 5 [0, 7, 1, 0, 0, 1]) { sweeping with bank := Vector.replicate 43 4294967294 }).counter .samplesAccepted =
      4294967295 := by decide +kernel

theorem test_sampleSetAside : node5.first + 3 = (3 : Fin 256).val ∧ (3 : Nat) < node5.count ∧ node5.count ≤ 4 ∧
    mapped.chanCfg[1].enabled = false ∧ mapped.chanCfg[0].enabled = true ∧
    ((mapped.judgeSample 0 .good 3 7).judgeSample 0 .good 4 7).counter .duplicate = 1 ∧
    (mapped.judgeSample 0 .good 3 7).chanRun[0].latest = some ⟨3, .good, 7⟩ := by decide +kernel

/-- R57: a drop notice is taken between the samples of a delivery, before the sample of its channel, or waits. -/
theorem test_dropNoticeBetweenSamples :
    (({ mapped with drops := [0], handed := [[⟨1, .good, 1, 7⟩, ⟨0, .good, 1, 7⟩]] } : State).takeDeliveries [(0, .drop 0)]
      []).drops = [] ∧
    ((({ mapped with drops := [0], handed := [[⟨1, .good, 1, 7⟩, ⟨0, .good, 1, 7⟩]] } : State).takeDeliveries [(0, .drop 0)]
      []).queue .c2).map Report.gap = [true] ∧
    ((({ mapped with drops := [0], handed := [[⟨1, .good, 1, 7⟩, ⟨0, .good, 1, 7⟩]] } : State).takeDeliveries [] []).queue
      .c2).map Report.gap = [false] ∧
    (({ mapped with handed := [[⟨0, .good, 1, 7⟩], [⟨0, .good, 2, 8⟩]] } : State).takeDelivery [] []).handed =
      [[⟨0, .good, 2, 8⟩]] := by decide +kernel

/-- Channel 0 after a reported value of 3, its deadband 2. -/
def reported (rule : ChangeRule) (holdOff : Nat) : State := { mapped with
  chanCfg := mapped.chanCfg.set 0 { enabled := true, rule := rule, deadband := 2, holdOff := holdOff }
  chanRun := mapped.chanRun.set 0 { lastReported := some ⟨3, .good⟩, sinceReport := 1 } }

theorem test_sampleJudged : mapped.chanRun[0].lastReported = none ∧
    (((reported .none 0).judgeFresh 0 .good 32767 8).queue .c1) = [] ∧
    ((({ reported .none 0 with chanCfg := mapped.chanCfg.set 0 { enabled := true, supervision := true } } : State).judgeFresh 0
      .good 32767 8).queue .c1).map (fun r => r.causes) = [{ limit := true, change := true }] ∧
    ((reported .deadband 0).judgeFresh 0 .good 5 8).queue .c2 = [] ∧
    (((reported .deadband 0).judgeFresh 0 .good 6 8).queue .c2).length = 1 ∧
    ((reported .deadband 2).judgeFresh 0 .good 6 8).chanRun[0].pendingChange = true ∧
    (((reported .none 0).judgeFresh 0 .fault 3 8).queue .c1).length = 1 ∧
    (((reported .every 1).judgeFresh 0 .good 3 8).queue .c2).length = 1 := by decide +kernel

def supervised : ChanConfig := { supervision := true, high := 100, low := -100, hysteresis := 10, persistence := 2 }

theorem test_limitStep : limitStep supervised {} .good 100 = ({ limit := .high }, true) ∧
    limitStep supervised {} .good 99 = ({ limit := .normal }, false) ∧
    limitStep supervised { limit := .high } .good 90 = ({ limit := .high }, false) ∧
    limitStep supervised { limit := .high } .good 89 = ({ limit := .high, count := 1, candidate := some .normal }, false) ∧
    limitStep supervised { limit := .normal, count := 1, candidate := some .low } .good (-100) = ({ limit := .low }, true) ∧
    limitStep supervised { limit := .normal } .fault 100 = ({ limit := .normal }, false) := by decide +kernel

theorem test_offerCases : (mapped.queue sampleReport.cls).length < mapped.settings.limits.get sampleReport.cls ∧
    1 < mapped.store.free ∧ ({ mapped with store := { free := 1 } } : State).store.free = 1 ∧
    (({ mapped with store := { free := 1 } } : State).offer sampleReport).latch.storeEmpty = true ∧
    (({ mapped with store := { free := 0 } } : State).offer sampleReport).counter .storeEmptyDrops = 1 ∧
    ((({ mapped with settings := { limits := ⟨1, 1, 1, 1⟩, policies := ⟨.keepNew, .keepNew, .keepNew, .keepNew⟩ } } :
      State).offer sampleReport).offer sampleReport).counter (.reportsDropped .c2) = 1 := by decide +kernel

/-- The same channel with a change pending, its latest value 4. -/
def changePending (rule : ChangeRule) (holdOff : Nat) : State :=
  let run : ChanRuntime := { lastReported := some ⟨3, .good⟩, latest := some ⟨4, .good, 8⟩, pendingChange := true }
  (reported rule holdOff).setChanRun 0 { run with sinceReport := 1 }

/-- A channel never reported, forced and with a change pending. -/
def neverReported : ChanRuntime := { latest := some ⟨4, .good, 7⟩, pendingChange := true, forcePending := true }

theorem test_closeDutiesAndNodeLoss : mapped.chanCfg[1].enabled = false ∧ (reported .deadband 0).chanRun[0].pendingChange = false ∧
    ((reported .deadband 0).channelClose 0 8).chanRun[0].sinceReport = 2 ∧
    ((reported .deadband 0).takeLoss ⟨0, 5, 0, 8, false⟩).chanRun[0].lastReported = some ⟨3, .noData⟩ ∧
    ((({ reported .deadband 0 with chanCfg := mapped.chanCfg.set 0 { enabled := true, heartbeat := 2 } } : State).setChanRun 0
      { lastReported := some ⟨3, .good⟩, latest := some ⟨4, .good, 8⟩, sinceReport := 1 }).channelClose 0 8).chanRun[0].lastReported =
      some ⟨4, .good⟩ ∧
    (((changePending .every 2).channelClose 0 8).queue .c2).map (fun r => r.causes) = [{ change := true }] ∧
    ((changePending .every 3).channelClose 0 8).chanRun[0].pendingChange = true ∧
    ((changePending .none 2).channelClose 0 8).chanRun[0].pendingChange = false ∧
    ((((reported .none 2).setChanRun 0 neverReported).channelClose 0 8).queue .c2).map (fun r => (r.causes, r.aged)) =
      [({ initial := true, forced := true }, true)] ∧
    (((reported .none 2).setChanRun 0 { pendingChange := true, forcePending := true }).channelClose 0 8).chanRun[0] =
      { sinceReport := 1 } ∧
    (State.takeShare [0] (reported .none 2) ⟨0, 5, 0, 8, false⟩).chanRun[0].lastReported = some ⟨3, .good⟩ ∧
    (State.takeShare [0] (reported .none 2) ⟨0, 5, 0, 8, true⟩).chanRun[0].lastReported = some ⟨3, .noData⟩ := by decide +kernel

theorem test_dropNotices : ((up.sendDrops [1] [0, 1, 1]).drops, (up.sendDrops [1] [0, 1, 1]).chanRun[0].gap) = ([1, 1], true) ∧
    ((up.sendDrops [1] [0, 1, 1]).takeDropOf 1).drops = [1] ∧ ((up.sendDrops [1] [0, 1, 1]).takeDropOf 1).chanRun[1].gap = true ∧
    ((up.sendDrops [1] [0, 1, 1]).takeDrops []).drops = [] ∧ (up.takeDropOf 1).chanRun[1].gap = false ∧
    ((lossWaits up).takeShareOf [] 0).notices = [] ∧ ((lossWaits up).takeShareOf [] 1).notices.length = 1 := by decide +kernel

theorem test_nodeLossClass : ((({ reported .none 0 with
      chanCfg := mapped.chanCfg.set 0 { enabled := true, changeClass := .c2, limitClass := .c3 } } : State).takeLoss
        ⟨0, 5, 0, 8, false⟩).queue .c3).map Report.causes = [{ quality := true }] ∧
    ((({ mapped with
      chanCfg := mapped.chanCfg.set 0 { enabled := true, changeClass := .c2, limitClass := .c3 } } : State).takeLoss
        ⟨0, 5, 0, 8, false⟩).queue .c2).map Report.causes = [{ quality := true, initial := true }] := by decide +kernel

theorem test_uplinkTiers : (up.link .tu).state = .up ∧ (up.link .tu).tx = none ∧ up.uplink.flight = none ∧
    (State.reset.link .tu).state ≠ .up ∧ (after .uplinkChoice up).uplink.flight = none ∧
    (after .uplinkChoice { up with conf := ⟨[outstanding .due], [4], 5⟩ }).uplink.flight = some (.urgent 4 true) ∧
    (after .uplinkChoice { up with trunk := { tqU := [trunkFrame 1 1 0 []] } }).uplink.flight = some (.transit true) ∧
    (after .uplinkChoice (up.setQueue .c0 [sampleReport])).uplink.flight = some (.urgent 0 false) ∧
    (after .uplinkChoice { up with mgmt := { items := items 1 } }).uplink.flight = some (.item .announce) ∧
    (after .uplinkChoice { up with uplink := { beaconPending := true } }).uplink.flight = some .beacon ∧
    (after .uplinkChoice (up.setQueue .c2 [sampleReport])).uplink.flight = some (.reports .cq2 [sampleReport]) ∧
    (after .uplinkChoice { up with trunk := { tqN := [trunkFrame 1 0 0 []] } }).uplink.turn = ⟨.tqN, 1⟩ := by decide +kernel

theorem test_roundRobin : (up.setQueue .c1 [sampleReport]).nextTurn = some ⟨.cq1, 1⟩ ∧
    ({ up.setQueue .c1 [sampleReport] with uplink := { turn := ⟨.cq1, 7⟩ } } : State).nextTurn = some ⟨.cq1, 8⟩ ∧
    ({ up.setQueue .c1 [sampleReport] with uplink := { turn := ⟨.cq1, 8⟩ } } : State).nextTurn = some ⟨.cq1, 1⟩ ∧
    up.nextTurn = none := by decide +kernel

def waiting (attempt : Nat) : State := { up with conf := ⟨[⟨sampleReport, 4, attempt, .waiting 20, false⟩], [], 5⟩ }

theorem test_retransmissionExpiry : (waiting 3).conf.entries.find? (fun x => x.seq == 4) =
      some ⟨sampleReport, 4, 3, .waiting 20, false⟩ ∧ (waiting 3).isUp .tu = true ∧
    (after (.retransmissionExpiry 4) (waiting 3)).conf.due = [4] ∧
    (after (.retransmissionExpiry 4) (waiting 4)).counter .urgentAbandoned = 1 ∧
    (after (.retransmissionExpiry 4) (waiting 4)).chanRun[0].gap = true ∧
    (after (.retransmissionExpiry 4) { waiting 4 with choices := [{ lateDrops := [0] }] }).drops = [0] ∧
    (after (.retransmissionExpiry 4) { waiting 3 with links := ⟨{}, {}, {}⟩ }).conf = (waiting 3).conf := by decide +kernel

theorem test_ackAndUrgentTransmissionEnds : (after (.ack [0]) { waiting 1 with inbox := { confirm := [[0]] } }).counter (.lengthErrors .tu) = 1 ∧
    (after (.ack [2, 4, 9]) { waiting 1 with inbox := { confirm := [[2, 4, 9]] } }).counter .urgentAcked = 1 ∧
    (after (.ack [2, 4, 9]) { waiting 1 with inbox := { confirm := [[2, 4, 9]] } }).counter .strayAck = 1 ∧
    (1 : Nat) + 8 = ([8, 1, 2, 3, 4, 5, 6, 7, 8] : List Byte).length ∧
    (({ up with conf := ⟨[outstanding .sending], [], 5⟩ } : State).acknowledge 4).conf.entries = [{ outstanding .sending with acked := true }] ∧
    (({ up with conf := ⟨[outstanding .sending], [], 5⟩ } : State).urgentCompleted 4).conf.entries = [outstanding (.waiting 2000)] ∧
    (({ up with conf := ⟨[{ outstanding .sending with acked := true }], [], 5⟩ } : State).urgentAborted 4).conf.entries = [] ∧
    (({ up with conf := ⟨[outstanding .sending], [], 5⟩ } : State).urgentAborted 4).conf.due = [4] := by decide +kernel

theorem test_nextSequenceNumber : ({ up with conf := ⟨[⟨sampleReport, 255, 1, .sending, false⟩, ⟨sampleReport, 0, 1, .due, false⟩], [0], 255⟩ } :
      State).nextNumber = 1 ∧ up.conf.entries.length ≤ 15 := by decide +kernel

def relaying (phase : RelayPhase) : State := { up with
  relay := some ⟨5, [1], phase⟩
  mgmt := { reserved := [⟨9, 15⟩] } }

theorem test_nodeReply : (arriving 0x32 5 [1] (relaying (.listening 6))).inbox.intake = [⟨⟨0x32, 5, [1]⟩, 60⟩] ∧
    ([⟨7, 22⟩, ⟨9, 15⟩] : List Reservation).find? (fun x => x.code == 15) = some ⟨9, 15⟩ ∧
    (after (.nodeReply 5 [1]) { relaying (.listening 6) with mgmt := { reserved := [⟨7, 22⟩, ⟨9, 15⟩] } }).mgmt.reserved =
      [⟨7, 22⟩] ∧
    (after (.nodeReply 5 (List.replicate 32 1)) (relaying (.listening 6))).relay = none ∧
    (after (.nodeReply 5 (List.replicate 33 1)) (relaying (.listening 6))).counter (.lengthErrors .sg) = 1 ∧
    (after (.nodeReply 6 [1]) (relaying (.listening 6))).counter .strayReply = 1 ∧
    (after (.nodeReply 5 [1]) (relaying .queued)).counter .strayReply = 1 ∧
    (after (.nodeReply 5 [1]) up).counter .strayReply = 1 := by decide +kernel

theorem test_relayTimerExpiry : (relaying (.listening 6)).relay = some ⟨5, [1], .listening 6⟩ ∧
    (after .relayTimerExpiry (relaying (.listening 6))).mgmt.items = [.response 9 15 .relayTimeout []] ∧
    (after .relayTimerExpiry { relaying (.listening 6) with mgmt := { reserved := [⟨9, 15⟩, ⟨7, 22⟩] } }).mgmt.reserved =
      [⟨7, 22⟩] := by decide +kernel

theorem test_linkLossInUp_relay : (relaying .queued).mgmt.reserved.find? (fun x => x.code == 15) = some ⟨9, 15⟩ ∧
    (after (.linkNoiseLoss .sg) (relaying (.listening 6))).mgmt = { items := [.response 9 15 .linkDown []] } ∧
    (after (.linkNoiseLoss .sg) { relaying .queued with latch := { notify := 0xFFFF } }).mgmt.items =
      [.event .linkLoss 0 2, .response 9 15 .linkDown []] ∧
    (after (.linkNoiseLoss .sg) { relaying .queued with
      latch := { notify := 0xFFFF }, choices := [{ tellFirst := true }] }).mgmt.items =
      [.response 9 15 .linkDown [], .event .linkLoss 0 2] := by decide +kernel

theorem test_segmentRelay : up.admits (req [5, 1, 7]) ∧ (after (.segmentRelay (req [62, 1, 7])) up).relay = some ⟨62, [7], .queued⟩ ∧
    (after (.segmentRelay (req [1, 1, 7])) up).relay = some ⟨1, [7], .queued⟩ ∧
    (after (.segmentRelay (req [63, 1, 7])) up).mgmt.items = [.response 9 15 .badValue []] ∧
    (after (.segmentRelay (req [5, 0])) up).mgmt.items = [.response 9 15 .badValue []] ∧
    (after (.segmentRelay (req (5 :: 33 :: List.replicate 33 1))) up).mgmt.items = [.response 9 15 .badValue []] ∧
    (after (.segmentRelay (req [5, 2, 7])) up).mgmt.items = [.response 9 15 .badFormat []] ∧
    (after (.segmentRelay (req [5, 1, 7])) State.reset).mgmt.items = [.response 9 15 .linkDown []] ∧
    (after (.segmentRelay (req [5, 1, 7])) (relaying .sending)).mgmt.items = [.response 9 15 .busy []] := by decide +kernel

def session (st : SessionState) (l : List StagedItem) : State := { up with
  mgmt := { session := ⟨st, some 0x0102, l, if st = .opened then some 70 else none⟩ } }

theorem test_sessionOpenAndEnds : (after (.sessionOpen (req [1, 2])) up).mgmt.session = ⟨.opened, some 0x0102, [], some 500000⟩ ∧
    (session .opened []).admits (req [1, 2]) ∧ (session .opened []).holdsSession (req [1, 2]) ∧
    (session .commitPending []).mgmt.session.token = some (wordAt [1, 2] 0) ∧
    (after (.sessionOpen (req [1, 3])) (session .opened [])).mgmt.items = [.response 9 16 .sessionHeld []] ∧
    (after .sessionIdleExpiry (session .opened [])).now = 70 ∧
    (after (.sessionDiscard (req [1, 2])) (session .opened [])).mgmt.session = {} := by decide +kernel

theorem test_staging : (session .opened []).holdsSession (req (1 :: 2 :: 23 :: nodeBytes node5)) ∧
    (after (.stageNode (req (1 :: 2 :: 23 :: nodeBytes node5))) (session .opened [])).mgmt.session.items = [.node 23 node5] ∧
    (after (.stageNode (req (1 :: 2 :: 24 :: nodeBytes node5))) (session .opened [])).mgmt.items = [.response 9 17 .badIndex []] ∧
    (after (.stageChannel (req ([1, 2, 0, 255] ++ channelBytes supervised))) (session .opened [])).mgmt.session.items =
      [.channel 255 supervised] ∧
    (after (.stageSettings (req ([1, 2] ++ settingsBytes {}))) (session .opened [.settings { period := 2000 }])).mgmt.session.items =
      [.settings {}] ∧
    (after (.stageSettings (req ([1, 2] ++ settingsBytes {}))) (session .opened ((List.finRange 24).map (.node · {}) ++
      (List.finRange 8).map (fun i => .channel (Fin.castLE (by decide) i) {})))).mgmt.items = [.response 9 19 .stageFull []] := by
  decide +kernel

theorem test_sessionRefusals : (session .commitPending []).admits (req (1 :: 2 :: 23 :: nodeBytes node5)) ∧
    (after (.stageNode (req (1 :: 2 :: 23 :: nodeBytes node5))) up).mgmt.items = [.response 9 17 .noSession []] ∧
    (after (.stageChannel (req ([1, 3, 0, 255] ++ channelBytes supervised))) (session .opened [])).mgmt.items =
      [.response 9 18 .wrongSession []] ∧
    (after (.stageSettings (req ([1, 2] ++ settingsBytes {}))) (session .commitPending [])).mgmt.items = [.response 9 19 .busy []] ∧
    (after (.commit (req [1, 2])) (session .commitPending [])).mgmt.items = [.response 9 22 .busy []] ∧
    (after (.stageNode (req (1 :: 2 :: 24 :: nodeBytes node5))) (session .opened [])).mgmt.session.idle = some 500000 ∧
    (after (.stageNode (req [1, 2, 23, 1, 63, 0, 1, 1])) (session .opened [])).mgmt.items = [.response 9 17 .badValue []] ∧
    (after (.stageChannel (req ([1, 2, 1, 0] ++ channelBytes supervised))) (session .opened [])).mgmt.items =
      [.response 9 18 .badIndex []] ∧
    (after (.stageChannel (req ([1, 2, 0, 255] ++ channelBytes { supervised with persistence := 9 }))) (session .opened [])).mgmt.items =
      [.response 9 18 .badValue []] ∧
    (after (.stageSettings (req ([1, 2] ++ settingsBytes { absentLimit := 16 }))) (session .opened [])).mgmt.items =
      [.response 9 19 .badValue []] := by decide +kernel

/-- A node record with address 63 is the record of no configuration in range. -/
theorem test_sessionRefusals_noRecord (n : NodeConfig) (h : n.inRange = true) : [1, 63, 0, 1, 1] ≠ nodeBytes n := by
  intro e
  simp only [nodeBytes, List.cons.injEq, byteOf] at e
  have ha : n.address ≤ 62 := by simp only [NodeConfig.inRange, Bool.and_eq_true, decide_eq_true_eq] at h; exact h.1.1.1.1.1
  have := congrArg BitVec.toNat e.2.1
  rw [BitVec.toNat_ofNat, show (63 : Byte).toNat = 63 from rfl] at this
  omega

theorem test_readStaged : (after (.readStaged (req [1, 2, 0])) (session .opened [.node 3 node5])).mgmt.items =
      [.response 9 20 .ok ([1, 0, 3] ++ nodeBytes node5)] ∧
    (after (.readStaged (req [1, 2, 32])) (session .commitPending [.node 3 node5])).mgmt.items = [.response 9 20 .ok [1, 0, 3]] ∧
    (after (.readStaged (req [1, 2, 1])) (session .opened [.node 3 node5])).mgmt.items = [.response 9 20 .badIndex []] ∧
    (after (.readStaged (req [1, 3, 0])) (session .opened [])).mgmt.items = [.response 9 20 .wrongSession []] ∧
    (after (.readStaged (req [1, 2, 0])) up).mgmt.items = [.response 9 20 .noSession []] := by decide +kernel

theorem test_commitTaken : rejection (session .opened [.node 3 node5]).mergedNodes 0 [.node 3 node5] = none ∧
    rejection ({ mapped with mgmt := (session .opened [.node 3 node5]).mgmt } : State).mergedNodes 0 [.node 3 node5] = some [0, 0, 3, 0] ∧
    (after (.commit (req [1, 2])) (session .opened [.node 3 node5])).nodeCfg[3] = node5 ∧
    (after (.commit (req [1, 2])) { session .opened [.node 3 node5] with sweep := sweeping.sweep }).mgmt.session.state = .commitPending ∧
    (after (.commit (req [1, 2])) { session .opened [.settings { source := .trunk }] with
      sweep := { state := .quiet } }).sweep.supervision = some 2000 ∧
    (after (.commit (req [1, 2])) { session .opened [.settings { window := 5, period := 10 }] with
      sweep := { state := .quiet, lastTrigger := some 0 }, now := 10 }).sweep.state = .collecting ∧
    (after (.commit (req [1, 2])) { session .opened [.settings { window := 5, period := 11 }] with
      sweep := { state := .quiet, lastTrigger := some 0 }, now := 10 }).sweep.state = .quiet ∧
    (after (.commit (req [1, 2])) { session .opened [.channel 0 { enabled := true, high := 5, low := 1 }] with
      chanCfg := mapped.chanCfg, chanRun := mapped.chanRun.set 0 { sinceReport := 4, limit := .high } }).chanRun[0] =
      { sinceReport := 4 } := by decide +kernel

theorem test_commitTaken_trim :
    (after (.commit (req [1, 2])) ((session .opened [.settings { limits := ⟨1, 1, 1, 1⟩ }]).setQueue .c2
      [sampleReport, sampleReport])).counter (.reportsDropped .c2) = 1 ∧
    (after (.commit (req [1, 2])) ((session .opened [.settings { limits := ⟨1, 1, 1, 1⟩ }]).setQueue .c2
      [sampleReport, sampleReport])).store.free = 385 ∧
    (after (.commit (req [1, 2])) ((session .opened [.settings { limits := ⟨1, 1, 1, 1⟩ }]).setQueue .c2
      [sampleReport, sampleReport])).chanRun[0].gap = true := by decide +kernel

theorem test_commitValidation : ((committing .trunk).mgmt.session.items.map StagedItem.targetBytes).Nodup ∧
    violation (mapped.nodeCfg.set 3 { node5 with first := 4 }) (.node 3 node5) = some 0 ∧
    violation (mapped.nodeCfg.set 3 { node5 with address := 6, first := 3 }) (.node 3 node5) = some 1 ∧
    violation (mapped.nodeCfg.set 3 { node5 with address := 6, first := 4 }) (.node 3 node5) = none ∧
    violation mapped.nodeCfg (.channel 0 { high := 5, low := 5 }) = some 2 ∧
    violation mapped.nodeCfg (.channel 0 { high := 5, low := 4, hysteresis := 2 }) = some 2 ∧
    violation mapped.nodeCfg (.channel 0 { high := 5, low := 4, hysteresis := 1 }) = none ∧
    violation mapped.nodeCfg (.settings { window := 1000 }) = some 3 ∧ violation mapped.nodeCfg (.settings { window := 999 }) = none ∧
    rejection mapped.nodeCfg 0 [.settings {}, .channel 7 { high := 5, low := 5 }, .settings { window := 1000 }] = some [2, 1, 7, 1] := by
  decide +kernel

theorem test_readingRequests : (after (.readChannel (req [1, 0])) up).mgmt.items = [.response 9 4 .badIndex []] ∧
    (after (.readNode (req [23, 1])) (up.setNodeRun 23 ⟨.present, 0, true, some 4, some 6⟩)).nodeRun[23] = ⟨.present, 0, true, some 4, none⟩ ∧
    (after (.readNode (req [24, 0])) up).mgmt.items = [.response 9 3 .badIndex []] ∧
    (after (.readCounters (req [3, 1])) (up.count .misdirected)).counter .misdirected = 0 ∧
    (after (.readNode (req [23, 2])) up).mgmt.items = [.response 9 3 .badValue []] ∧
    (after (.readCounters (req [3, 2])) up).mgmt.items = [.response 9 6 .badValue []] ∧
    (after (.readCounters (req [4, 0])) up).mgmt.items = [.response 9 6 .badValue []] := by decide +kernel

theorem test_eventRequests : (0x0010 : Word) = (0x00 : Byte) ++ (0x10 : Byte) ∧
    (after (.setNotify (req [0x3F, 0xFE])) up).latch.notify = 0x3FFE ∧
    (after (.setNotify (req [0x40, 0])) up).mgmt.items = [.response 9 9 .badValue []] ∧
    (after (.clearEvents (req [0x01, 0x00])) (up.raise .linkLoss 0 0)).latch.latched[EventKind.linkLoss.index] = none ∧
    (after (.clearEvents (req [0, 0x10])) { up with latch := { storeEmpty := true, notify := 0x10 } }).mgmt.items =
      [.event .storeEmpty 0 0, .response 9 8 .ok []] := by decide +kernel

theorem test_forceAndFlush : (after (.forceReport (req [0, 0, 1, 0])) mapped).chanRun[0].forcePending = true ∧
    (after (.forceReport (req [0, 1, 1, 0])) mapped).mgmt.items = [.response 9 13 .badIndex []] ∧
    (after (.forceReport (req [0, 0, 0, 0])) mapped).mgmt.items = [.response 9 13 .badValue []] ∧
    (after (.flushClass (req [2])) (mapped.setQueue .c2 [sampleReport])).chanRun[0].gap = true ∧
    (after (.flushClass (req [2])) { mapped.setQueue .c2 [sampleReport] with choices := [{ lateDrops := [0] }] }).drops = [0] ∧
    (after (.flushClass (req [4])) mapped).mgmt.items = [.response 9 14 .badValue []] := by decide +kernel

theorem test_requestChecks : requestOf (.readQueues (req [])) = some (5, req []) ∧
    (after (.readQueues (req [])) { up with mgmt := { items := items 8 } }).counter .requestDropped = 1 ∧
    (after (.readQueues (req [])) { up with mgmt := { resetPending := some .runtime } }).mgmt.items = [.response 9 5 .busy []] ∧
    (after (.readQueues (req [1])) { up with mgmt := { items := items 7 } }).mgmt.items = items 7 ++ [.response 9 5 .badFormat []] := by
  decide +kernel

theorem test_broadcastAndUnknownRequests : requestOf (.commit (toAll [1, 2])) = some (22, toAll [1, 2]) ∧
    (after (.commit (toAll [1, 2])) { up with trunk := { own := 3 } }).counter .broadcastIgnored = 1 ∧
    (after (.startSweeps (toAll [])) { up with trunk := { own := 3 } }).sweep.state = .collecting ∧
    (after (.startSweeps (toAll [])) up).counter .broadcastIgnored = 1 ∧
    (after (.stopSweeps (toAll [])) { sweeping with trunk := { own := 30 } }).sweep.state = .stopped ∧
    (after (.clearEvents (toAll [0x01, 0x00])) { up.raise .linkLoss 0 0 with trunk := { own := 1 } }).latch.latched[EventKind.linkLoss.index] =
      none ∧
    (after (.clearEvents (toAll [0x40, 0x00])) { up with trunk := { own := 1 } }).counter .broadcastIgnored = 1 ∧
    (after (.forceReport (toAll [0, 0, 1, 0])) { mapped with trunk := { own := 1 } }).chanRun[0].forcePending = true ∧
    (after (.forceReport (toAll [0, 1, 1, 0])) { mapped with trunk := { own := 1 } }).counter .broadcastIgnored = 1 ∧
    (after (.unknownRequest false [9, 24]) { up with inbox := { executor := [⟨false, [9, 24]⟩] } }).mgmt.items =
      [.response 9 24 .unknownRequest []] ∧
    (after (.unknownRequest false [9, 0]) { up with mgmt := { items := items 8 } }).counter .requestDropped = 1 ∧
    (after (.unknownRequest true [9, 24]) up).counter .broadcastIgnored = 1 ∧
    (after (.unknownRequest false [9]) up).counter (.lengthErrors .tu) = 1 := by decide +kernel

theorem test_layouts : mapped.nodeCfg[0].covers 3 = true ∧ mapped.nodeCfg[0].enabled = true ∧
    (∀ j : Fin 24, j ≠ 0 → mapped.nodeCfg[j].enabled = true → mapped.nodeCfg[j].covers 3 = false) ∧ mapped.channelNumber 3 = 3 ∧
    reportBytes { sampleReport with node := 62, number := 15, limit := .low, cls := .c0, aged := true, seq := 255, attempt := 8 } =
      [0xF8, 0, 0xFC, 0x81, 0, 7, 0, 3, 255, 0x80] := by decide +kernel

theorem test_recordsRoundTrip : (⟨true, 62, 240, 16, true⟩ : NodeConfig).inRange = true ∧ supervised.inRange = true ∧
    ({ deadband := 32767, holdOff := 255, heartbeat := 65535, hysteresis := 65535, persistence := 8 } : ChanConfig).inRange = true ∧
    ({ period := 60000, window := 59999, limits := ⟨384, 1, 384, 1⟩, beaconInterval := 4095 } : Settings).inRange = true := by decide

theorem test_framesRoundTrip : (0x13 : Byte) ∈ deliveredKinds .tu ∧ (0x05 : Byte) ∈ deliveredKinds .td ∧ (0x32 : Byte) ∈ deliveredKinds .sg ∧
    (List.replicate 96 (0 : Byte)).length ≤ 96 ∧ (List.replicate 62 (0 : Byte)).length ≤ 62 := by decide

/-! ### The laws, at a state a step leads from -/

theorem test_linkLaw_holdsBeside_transmissionLaw : LinkLaw up ∧ TransmissionLaw up := by
  refine ⟨fun p => ?_, (test_linkLossInUp_premises .tu).1⟩
  cases p <;> simp [LinkOk, up, upLink, State.link, PerPort.get, Config.alignRun, Config.noiseErrors]

theorem test_lawsHaveAStep : SlotLaw State.reset ∧ MqLaw State.reset ∧ TrunkLaw State.reset ∧ StoreEmptyTrue State.reset ∧
    step State.reset = .next (State.reset.advance 1) := ⟨by decide +kernel, by decide, by decide, by decide, rfl⟩

theorem test_outstandingLaw_holdsSomewhere : OutstandingLaw { inFlight (.urgent 4 false) with
    conf := ⟨[outstanding .sending, { outstanding .due with seq := 3 }], [3], 5⟩ } := by
  refine ⟨by decide, by decide, by decide, fun q => ?_, fun e he => ?_, fun q again h => ?_, fun e he ha => ?_⟩
  · simp [outstanding, eq_comm]
  · rcases List.mem_pair.mp he with rfl | rfl <;> simp [outstanding, inFlight]
  · simp [inFlight] at h; exact ⟨_, List.mem_cons_self, h.1⟩
  · rcases List.mem_pair.mp he with rfl | rfl <;> simp [outstanding] at ha

theorem test_reservationLaw_holdsBeside_sessionLaw : ReservationLaw { up with
      relay := some ⟨5, [1], .queued⟩
      mgmt := { reserved := [⟨1, 22⟩, ⟨2, 15⟩], session := ⟨.commitPending, some 7, [], none⟩ }
      sweep := { state := .collecting } } ∧
    SessionLaw { up with
      relay := some ⟨5, [1], .queued⟩
      mgmt := { reserved := [⟨1, 22⟩, ⟨2, 15⟩], session := ⟨.commitPending, some 7, [], none⟩ }
      sweep := { state := .collecting } } := by
  refine ⟨⟨by decide, by decide, by decide⟩, ?_⟩
  simp [SessionLaw, Config.stagingItems]

theorem test_persistenceLaw_holdsBeside_tablesLaw : TablesLaw State.reset ∧ PersistenceLaw State.reset ∧
    PersistenceLaw { mapped with
      chanCfg := mapped.chanCfg.set 0 { enabled := true, supervision := true, persistence := 8 }
      chanRun := mapped.chanRun.set 0 { limit := .normal, count := 7, candidate := some .high } } := by
  refine ⟨⟨⟨?_, ?_, ?_, ?_, ?_, ?_⟩, ?_, ?_, ?_, ?_⟩, ?_, ?_⟩
  all_goals first | decide +kernel | (simp only [PersistenceLaw]; decide +kernel)

theorem test_recordLaws_holdSomewhere : QueuesWithinLimits State.reset ∧ ChannelLaw State.reset ∧ NodeLaw State.reset ∧
    LinkLaw up ∧ SweepLaw sweeping ∧ SessionLaw (session .opened [.node 3 node5]) := by
  refine ⟨fun k => by cases k <;> decide, fun c => ?_, fun i => ?_, fun p => ?_, ?_, ?_⟩
  · simp [LimitRecordOk, State.reset]
  · simp [State.reset]
  · cases p <;> simp [LinkOk, up, upLink, State.link, PerPort.get, Config.alignRun, Config.noiseErrors]
  · simp [SweepLaw, sweeping, mapped, up, State.reset]
  · simp [SessionLaw, session, up, State.reset, Config.stagingItems]

end Sys2Proof.Tests
end

section
/-! The requests that act on the sweep: what a request whose rule changes the sweep record alone does (R149, R150), the cases of
START_SWEEPS at the Controller (R15), and the statement about it. -/

namespace Sys2Proof.Machine

/-! ### Requests whose rule changes the sweep record alone -/

section

variable (s : State) (tag code : Byte) (w : Sweep)

/-- The slot reserved at admission is filled as well where the request's rule has changed the sweep record meanwhile (R148). -/
theorem State.respond_reserve_withSweep (st : Status) (res : List Byte) :
    ({ s.reserve tag code with sweep := w } : State).respond tag code st res =
      { s.pushMq (.response tag code st res) with sweep := w } := by
  rw [State.respond_first _ _ _ _ _ s.mgmt.reserved rfl]; rfl

/-- A rule that answers at once and changes the sweep record alone: besides it, the response joins MQ (R149, R150). -/
theorem State.runRequest_sweepOnly (r : Request) (permitted formOk : Bool) (body : State → State × Answer) (st : Status)
    (res : List Byte) (h : s.admits r) (hf : formOk = true)
    (hb : body ((s.tookRequest code r).reserve r.tag code) =
      ({ (s.tookRequest code r).reserve r.tag code with sweep := w }, .done st res)) :
    s.runRequest code r permitted formOk body =
      { (s.tookRequest code r).answered r code st res with sweep := w } := by
  rw [s.runRequest_admitted code r permitted formOk body h hf, hb]
  exact (s.tookRequest code r).respond_reserve_withSweep r.tag code w st res

end

/-- The length check of a code without fields (R151, R156). -/
theorem hasFields_zero_iff (r : Request) : hasFields r 0 = true ↔ r.fields = [] := by
  simp [hasFields]

/-! ### START_SWEEPS at the Controller (R15) -/

section

variable (s : State)

/-- In LOCAL source a trigger leaves the supervision timer as it is (R3, R14). -/
theorem State.trigger_inLocal (number : Word) (hl : s.settings.source = .localTimer) :
    s.trigger number = { s with sweep := { s.sweep with
      state := .collecting
      number := number
      window := some s.settings.window
      lastTrigger := some s.now
      triggerStart := none
      waiting := if s.isUp .sg then some number else none } } := by
  simp [State.trigger, hl]

/-- From STOPPED in LOCAL source: the trigger of the next number (R3). -/
theorem State.startSweeps_inLocal (hs : s.sweep.state = .stopped) (hl : s.settings.source = .localTimer) :
    s.startSweeps = ({ s with sweep := { s.sweep with
      state := .collecting
      number := s.sweep.number + 1
      window := some s.settings.window
      lastTrigger := some s.now
      triggerStart := none
      waiting := if s.isUp .sg then some (s.sweep.number + 1) else none } }, .ok) := by
  simp [State.startSweeps, hs, hl, s.trigger_inLocal _ hl]

/-- From STOPPED in TRUNK source: QUIET, with the supervision timer at twice the period and no trigger (R14). -/
theorem State.startSweeps_inTrunk (hs : s.sweep.state = .stopped) (ht : s.settings.source = .trunk) :
    s.startSweeps = ({ s with sweep := { s.sweep with
      state := .quiet, supervision := some (2 * s.settings.period) } }, .ok) := by
  have quiet : s.startSweeps = (s.becomeQuiet.startSupervision, .ok) := by simp [State.startSweeps, hs, ht]
  exact quiet

/-- In COLLECTING and QUIET: refused. -/
theorem State.startSweeps_notStopped (hs : s.sweep.state ≠ .stopped) : s.startSweeps = (s, .notAllowed) := by
  simp [State.startSweeps, hs]

end

/-- What the Controller answers to START_SWEEPS, as the Executor's answer: a status and no result fields (R156). -/
def State.startSweepsAnswer (s : State) : State × Answer := (s.startSweeps.1, .done s.startSweeps.2 [])

theorem exec_startSweeps (r : Request) (s : State) :
    exec (.startSweeps r) s = .next (s.runRequest 10 r true (hasFields r 0) State.startSweepsAnswer) := rfl

/-! ### START_SWEEPS as an admitted request -/

section

variable (r : Request) (s : State)

/-- An admitted START_SWEEPS whose rule leaves the sweep record `w` and everything else as it was. -/
theorem exec_startSweeps_withSweep (w : Sweep) (st : Status) (h : s.admits r) (hf : r.fields = [])
    (hc : ((s.tookRequest 10 r).reserve r.tag 10).startSweeps =
      ({ (s.tookRequest 10 r).reserve r.tag 10 with sweep := w }, st)) :
    exec (.startSweeps r) s = .next { (s.tookRequest 10 r).answered r 10 st [] with sweep := w } := by
  rw [exec_startSweeps]
  refine congrArg _ (s.runRequest_sweepOnly 10 w r _ _ _ st [] h ((hasFields_zero_iff r).mpr hf) ?_)
  rw [State.startSweepsAnswer, hc]

theorem exec_startSweeps_inLocal (h : s.admits r) (hf : r.fields = []) (hs : s.sweep.state = .stopped)
    (hl : s.settings.source = .localTimer) :
    exec (.startSweeps r) s = .next { (s.tookRequest 10 r).answered r 10 .ok [] with sweep := { s.sweep with
      state := .collecting
      number := s.sweep.number + 1
      window := some s.settings.window
      lastTrigger := some s.now
      triggerStart := none
      waiting := if s.isUp .sg then some (s.sweep.number + 1) else none } } :=
  exec_startSweeps_withSweep r s _ .ok h hf (((s.tookRequest 10 r).reserve r.tag 10).startSweeps_inLocal hs hl)

theorem exec_startSweeps_inTrunk (h : s.admits r) (hf : r.fields = []) (hs : s.sweep.state = .stopped)
    (ht : s.settings.source = .trunk) :
    exec (.startSweeps r) s = .next { (s.tookRequest 10 r).answered r 10 .ok [] with sweep := { s.sweep with
      state := .quiet, supervision := some (2 * s.settings.period) } } :=
  exec_startSweeps_withSweep r s _ .ok h hf (((s.tookRequest 10 r).reserve r.tag 10).startSweeps_inTrunk hs ht)

theorem exec_startSweeps_notStopped (h : s.admits r) (hf : r.fields = []) (hs : s.sweep.state ≠ .stopped) :
    exec (.startSweeps r) s = .next ((s.tookRequest 10 r).answered r 10 .notAllowed []) :=
  exec_startSweeps_withSweep r s s.sweep .notAllowed h hf
    (((s.tookRequest 10 r).reserve r.tag 10).startSweeps_notStopped hs)

/-- With a field byte the request fails its length check (R151, R156). -/
theorem exec_startSweeps_badFormat (h : s.admits r) (hf : r.fields ≠ []) :
    exec (.startSweeps r) s = .next ((s.tookRequest 10 r).answered r 10 .badFormat []) := by
  have form : hasFields r 0 = false := Bool.eq_false_iff.mpr (mt (hasFields_zero_iff r).mp hf)
  rw [exec_startSweeps, s.runRequest_badFormat 10 r _ _ _ h form]

end

/-- Settles O23: one lemma for each of the cases of R15. -/
theorem startSweeps : Obligations.StartSweeps := fun r s h =>
  ⟨exec_startSweeps_inLocal r s h, exec_startSweeps_inTrunk r s h, exec_startSweeps_notStopped r s h,
    exec_startSweeps_badFormat r s h⟩

end Sys2Proof.Machine
end

section
/-! The limit step (R66 to R70): what one sample does to the run of candidates under way, what the step does from a known state,
and the statement about it. -/

namespace Sys2Proof.Machine

/-! ### The run of candidates before its comparison with the persistence (R69) -/

section

variable {run : ChanRuntime} {found : LimitState}

theorem trackCandidate_agreeing (h : found = run.limit) :
    trackCandidate run found = { run with count := 0, candidate := none } := if_pos h

/-- A candidate that contradicts the state is tracked, whether it lengthens the run under way or begins one. -/
theorem trackCandidate_contradicting (h : found ≠ run.limit) :
    trackCandidate run found = { run with
      count := if run.candidate = some found then run.count + 1 else 1
      candidate := some found } := by
  rw [trackCandidate, if_neg h]
  by_cases tracked : run.candidate = some found
  · rw [if_pos tracked, if_pos tracked, ← tracked]
  · rw [if_neg tracked, if_neg tracked]

/-! ### From a known state (R69) -/

variable (cfg : ChanConfig)

theorem limitFromKnown_agreeing (h : found = run.limit) :
    limitFromKnown cfg run found = ({ run with count := 0, candidate := none }, false) := by
  rw [limitFromKnown, trackCandidate_agreeing h]

/-- The one comparison with the persistence, after a candidate that contradicts the state. -/
theorem limitFromKnown_contradicting {n : Nat} (h : found ≠ run.limit)
    (hn : n = if run.candidate = some found then run.count + 1 else 1) :
    limitFromKnown cfg run found = if cfg.persistence ≤ n
      then ({ run with limit := found, count := 0, candidate := none }, true)
      else ({ run with count := n, candidate := some found }, false) := by
  rw [limitFromKnown, trackCandidate_contradicting h, ← hn]

end

/-! ### Whether the step is taken, and from which state (R66) -/

section

variable {cfg : ChanConfig} {run : ChanRuntime} {q : Quality} (v : Word)

theorem limitStep_notTaken (h : cfg.supervision = false ∨ q ≠ .good) : limitStep cfg run q v = (run, false) := by
  have untaken : ¬ (cfg.supervision && q == .good) = true := by
    rw [Bool.and_eq_true, beq_iff_eq]
    rintro ⟨on, good⟩
    exact h.elim (fun off => Bool.false_ne_true (off.symm.trans on)) (fun bad => bad good)
  exact if_neg untaken

theorem limitStep_taken (on : cfg.supervision = true) (good : q = .good) :
    limitStep cfg run q v = if run.limit = .unknown then limitFromUnknown run (limitCandidate cfg run.limit v)
      else limitFromKnown cfg run (limitCandidate cfg run.limit v) := by
  have taken : (cfg.supervision && q == .good) = true := by rw [on, good]; rfl
  exact if_pos taken

theorem limitStep_fromUnknown (on : cfg.supervision = true) (good : q = .good) (h : run.limit = .unknown) :
    limitStep cfg run q v = limitFromUnknown run (limitCandidate cfg run.limit v) := by
  rw [limitStep_taken v on good, if_pos h]

theorem limitStep_fromKnown (on : cfg.supervision = true) (good : q = .good) (h : run.limit ≠ .unknown) :
    limitStep cfg run q v = limitFromKnown cfg run (limitCandidate cfg run.limit v) := by
  rw [limitStep_taken v on good, if_neg h]

end

/-- Settles O29: the step untaken, taken from UNKNOWN, and from a known state with a candidate that agrees with the state or
contradicts it. -/
theorem limitStep_spec : Obligations.LimitStep := by
  intro cfg run q v
  refine ⟨limitStep_notTaken v, fun on good found hfound => ?_⟩
  replace hfound : found = limitCandidate cfg run.limit v := hfound
  refine ⟨fun unknown => ?fromUnknown, fun known agrees => ?agreeing, fun known contradicts n hn => ?contradicting⟩
  case fromUnknown => rw [limitStep_fromUnknown v on good unknown, ← hfound, limitFromUnknown]
  case agreeing => rw [limitStep_fromKnown v on good known, ← hfound, limitFromKnown_agreeing cfg agrees]
  case contradicting =>
    rw [limitStep_fromKnown v on good known, ← hfound, limitFromKnown_contradicting cfg contradicts hn]
    exact ⟨fun below => if_neg below.not_ge, fun reached => if_pos reached⟩

end Sys2Proof.Machine
end

section
/-! The sequence number of a new outstanding entry (R108): what the search finds, how long a run of held numbers can be, and the
statement about it. A number is held by an entry where it is a member of `entries.map Entry.seq`. -/

namespace Sys2Proof.Machine

section

variable {entries : List Entry} {q : Byte}

/-! ### The search -/

theorem freeNumber_succ_held (n : Nat) (held : q ∈ entries.map Entry.seq) :
    freeNumber entries (n + 1) q = freeNumber entries n (q + 1) := by
  have found : entries.any (fun e => e.seq == q) = true := by simpa using held
  rw [freeNumber, if_pos found]

theorem freeNumber_succ_free (n : Nat) (free : q ∉ entries.map Entry.seq) : freeNumber entries (n + 1) q = q := by
  have notFound : ¬ entries.any (fun e => e.seq == q) = true := by simpa using free
  rw [freeNumber, if_neg notFound]

/-- The number `k + 1` places on is `k` places after the one that follows, round 255 as well. -/
theorem byte_add_ofNat_succ (q : Byte) (k : Nat) : q + BitVec.ofNat 8 (k + 1) = q + 1 + BitVec.ofNat 8 k := by
  rw [Nat.add_comm k 1, BitVec.ofNat_add, ← BitVec.add_assoc]
  rfl

/-- The search passes on over held numbers alone, and where it ends before its `n` steps are used up it ends at a number that no
entry holds. -/
theorem freeNumber_passes_held (entries : List Entry) (n : Nat) (q : Byte) :
    ∃ k ≤ n, freeNumber entries n q = q + BitVec.ofNat 8 k ∧
      (∀ j < k, q + BitVec.ofNat 8 j ∈ entries.map Entry.seq) ∧
      (k < n → freeNumber entries n q ∉ entries.map Entry.seq) := by
  induction n generalizing q with
  | zero => exact ⟨0, le_rfl, by simp [freeNumber], by simp, by simp⟩
  | succ n ih =>
    by_cases held : q ∈ entries.map Entry.seq
    case pos =>
      obtain ⟨k, hk, found, passed, free⟩ := ih (q + 1)
      rw [freeNumber_succ_held n held]
      refine ⟨k + 1, Nat.succ_le_succ hk, found.trans (byte_add_ofNat_succ q k).symm, fun j hj => ?_,
        fun hlt => free (Nat.lt_of_succ_lt_succ hlt)⟩
      cases j with
      | zero => simpa using held
      | succ j => rw [byte_add_ofNat_succ]; exact passed j (Nat.lt_of_succ_lt_succ hj)
    case neg =>
      rw [freeNumber_succ_free n held]
      exact ⟨0, Nat.zero_le _, by simp, by simp, fun _ => held⟩

/-! ### The length of a run of held numbers -/

/-- The first 256 numbers from `q` on are different. -/
theorem byte_add_ofNat_injOn (q : Byte) {i j : Nat} (hi : i < 256) (hj : j < 256)
    (h : q + BitVec.ofNat 8 i = q + BitVec.ofNat 8 j) : i = j := by
  have offsets : (BitVec.ofNat 8 i).toNat = (BitVec.ofNat 8 j).toNat :=
    congrArg BitVec.toNat ((BitVec.add_right_inj q).mp h)
  rwa [BitVec.toNat_ofNat, BitVec.toNat_ofNat, Nat.mod_eq_of_lt hi, Nat.mod_eq_of_lt hj] at offsets

/-- Different numbers are held by different entries, so a run of held numbers is no longer than the list. -/
theorem heldRun_le_length {k : Nat} (hk : k ≤ 256) (held : ∀ j < k, q + BitVec.ofNat 8 j ∈ entries.map Entry.seq) :
    k ≤ entries.length := by
  have distinct : ((List.range k).map (fun j => q + BitVec.ofNat 8 j)).Nodup := List.nodup_range.map_on fun i hi j hj =>
    byte_add_ofNat_injOn q ((List.mem_range.mp hi).trans_le hk) ((List.mem_range.mp hj).trans_le hk)
  have within : (List.range k).map (fun j => q + BitVec.ofNat 8 j) ⊆ entries.map Entry.seq :=
    List.forall_mem_map.mpr fun j hj => held j (List.mem_range.mp hj)
  simpa using (distinct.subperm within).length_le

/-- With at most as many entries as `n`, one step more than `n` finds a number that no entry holds. -/
theorem freeNumber_finds_free {n : Nat} (hn : n < 256) (hlen : entries.length ≤ n) (q : Byte) :
    ∃ k ≤ n, freeNumber entries (n + 1) q = q + BitVec.ofNat 8 k ∧
      (∀ j < k, q + BitVec.ofNat 8 j ∈ entries.map Entry.seq) ∧
      freeNumber entries (n + 1) q ∉ entries.map Entry.seq := by
  obtain ⟨k, hk, found, passed, free⟩ := freeNumber_passes_held entries (n + 1) q
  have short : k ≤ n := (heldRun_le_length (hk.trans hn) passed).trans hlen
  exact ⟨k, short, found, passed, free (Nat.lt_succ_of_le short)⟩

end

/-! ### The new entry -/

@[simp] theorem State.addEntry_nextSeq (s : State) (r : Report) : (s.addEntry r).conf.nextSeq = s.nextNumber + 1 := rfl

@[simp] theorem State.addEntry_entries (s : State) (r : Report) :
    (s.addEntry r).conf.entries =
      s.conf.entries ++ [⟨{ r with seq := s.nextNumber, attempt := 1 }, s.nextNumber, 1, .sending, false⟩] := rfl

/-- Settles O36: a search over at most 15 entries cannot pass 16 numbers, since each of them would need an entry of its own. -/
theorem nextSequenceNumber : Obligations.NextSequenceNumber := by
  intro s r hlen
  obtain ⟨k, hk, found, passed, free⟩ := freeNumber_finds_free (by decide) hlen s.conf.nextSeq
  exact ⟨k, hk, found, fun e he heq => free (List.mem_map.mpr ⟨e, he, heq⟩),
    fun j hj => List.mem_map.mp (passed j hj), s.addEntry_nextSeq r, s.addEntry_entries r⟩

end Sys2Proof.Machine
end

section
/-! The Relay Controller's taking of a NODE_REPLY: one lemma for each row of the table of R171, the hand-over by Intake, and the
statement about it. -/

namespace Sys2Proof.Machine

/-! ### The end of a relay (R168) -/

section

variable {s : State} {r : PendingRelay} {node : Byte} {reply : List Byte}

/-- A relay that ends is answered in the first slot reserved for SEGMENT_RELAY, whatever is reserved beside it (R168). -/
theorem State.endRelay_first (status : Status) (results : List Byte) {tag : Byte}
    (slot : s.mgmt.reserved.find? (fun x => x.code == 15) = some ⟨tag, 15⟩) :
    s.endRelay status results = { s with
      relay := none
      mgmt := { s.mgmt with
        reserved := s.mgmt.reserved.erase ⟨tag, 15⟩
        items := s.mgmt.items ++ [.response tag 15 status results] } } :=
  State.respondTo_first ({ s with relay := none } : State) tag 15 status results slot

/-! ### The rows of R171 -/

theorem State.takeReply_idle (idle : s.relay = none) : s.takeReply node reply = s.count .strayReply := by
  rw [State.takeReply, idle]

/-- Before the command has left, even the awaited node's reply is stray. -/
theorem State.takeReply_unsent (pending : s.relay = some r) (unsent : r.phase = .queued ∨ r.phase = .sending) :
    s.takeReply node reply = s.count .strayReply := by
  rw [State.takeReply, pending]
  rcases unsent with queued | sending
  · simp only [queued]
  · simp only [sending]

/-- A reply of another node is stray in every phase. -/
theorem State.takeReply_otherNode (pending : s.relay = some r) (other : r.node ≠ node) :
    s.takeReply node reply = s.count .strayReply := by
  cases phase : r.phase with
  | queued => exact State.takeReply_unsent pending (.inl phase)
  | sending => exact State.takeReply_unsent pending (.inr phase)
  | listening n => simp only [State.takeReply, pending, phase, if_pos other]

/-- The awaited reply in LISTENING: its length decides between the count and the end of the relay. -/
theorem State.takeReply_awaited {n : Nat} (pending : s.relay = some r) (phase : r.phase = .listening n)
    (awaited : r.node = node) :
    s.takeReply node reply =
      if 32 < reply.length then s.count (.lengthErrors .sg) else s.endRelay .ok (BitVec.ofNat 8 reply.length :: reply) := by
  simp only [State.takeReply, pending, phase, if_neg (not_not_intro awaited)]
  rfl

theorem State.takeReply_tooLong {n : Nat} (pending : s.relay = some r) (phase : r.phase = .listening n)
    (awaited : r.node = node) (long : 32 < reply.length) : s.takeReply node reply = s.count (.lengthErrors .sg) := by
  rw [State.takeReply_awaited pending phase awaited, if_pos long]

theorem State.takeReply_answer {n : Nat} {tag : Byte} (pending : s.relay = some r) (phase : r.phase = .listening n)
    (awaited : r.node = node) (short : reply.length ≤ 32)
    (slot : s.mgmt.reserved.find? (fun x => x.code == 15) = some ⟨tag, 15⟩) :
    s.takeReply node reply = { s with
      relay := none
      mgmt := { s.mgmt with
        reserved := s.mgmt.reserved.erase ⟨tag, 15⟩
        items := s.mgmt.items ++ [.response tag 15 .ok (BitVec.ofNat 8 reply.length :: reply)] } } := by
  rw [State.takeReply_awaited pending phase awaited, if_neg short.not_gt, State.endRelay_first .ok _ slot]

end

/-! ### The hand-over by Intake -/

section

variable {s : State} {rest : List Arrival}

/-- A frame at the head of Intake's arrivals leaves them (notes/assumptions/6). -/
theorem State.dropArrival_head {f : SegFrame} {tick : Nat} (head : s.inbox.intake = ⟨f, tick⟩ :: rest) :
    s.dropArrival f = { s with inbox := { s.inbox with intake := rest } } := by
  simp only [State.dropArrival, head, if_true]

/-- The Relay Controller takes the NODE_REPLY at the head once it has left the arrivals (R21). -/
theorem exec_nodeReply_head {node : Byte} {reply : List Byte} {tick : Nat}
    (head : s.inbox.intake = ⟨⟨0x32, node, reply⟩, tick⟩ :: rest) :
    exec (.nodeReply node reply) s =
      .next (({ s with inbox := { s.inbox with intake := rest } } : State).takeReply node reply) := by
  rw [← State.dropArrival_head head]
  rfl

end

/-- Settles O37: the row of R171 that the relay's state, its phase, the sender and the length select. -/
theorem nodeReply : Obligations.NodeReply := by
  intro node reply tick s head
  refine ⟨{ s with inbox := { s.inbox with intake := [] } }, rfl, ?_⟩
  rw [exec_nodeReply_head head]
  refine ⟨fun idle => congrArg _ (State.takeReply_idle idle), fun r pending => ⟨fun stray => ?_, fun n phase awaited => ?_⟩⟩
  · rcases stray with queued | sending | other
    · exact congrArg _ (State.takeReply_unsent pending (.inl queued))
    · exact congrArg _ (State.takeReply_unsent pending (.inr sending))
    · exact congrArg _ (State.takeReply_otherNode pending other)
  · exact ⟨fun long => congrArg _ (State.takeReply_tooLong pending phase awaited long),
      fun short _ slot => congrArg _ (State.takeReply_answer pending phase awaited short slot)⟩

end Sys2Proof.Machine
end

section
/-! An increment of a counter, and the raising of an event with its notice (R177, R182). The laws of the two operations
and of MQ's admission are those of Laws/; here the cases of R177 are each given the whole state they end in. -/

namespace Sys2Proof.Machine

/-! ### An occurrence of a kind that is not latched (R177) -/

section

variable {s : State} {k : EventKind} {detail : Byte} {sweep : Word}

theorem State.raise_unnotified (fresh : s.latch.latched[k.index] = none) (silent : names s.latch.notify k = false) :
    s.raise k detail sweep =
      { s with latch := { s.latch with latched := s.latch.latched.set k.index (some ⟨detail, sweep⟩) } } := by
  rw [State.raise_fresh s k detail sweep fresh, silent]
  rfl

/-- What R148 does with the notice is decided in the state in which the kind has latched already. -/
theorem State.raise_notified (fresh : s.latch.latched[k.index] = none) (notified : names s.latch.notify k = true) :
    s.raise k detail sweep =
      ({ s with latch := { s.latch with latched := s.latch.latched.set k.index (some ⟨detail, sweep⟩) } } : State).offerMq
        (.event k sweep detail) := by
  rw [State.raise_fresh s k detail sweep fresh, if_pos notified]

end

/-- Settles O5, by the laws of the two operations: whether the kind is latched, whether the notify set names it, and
whether MQ has a free slot. Latching leaves MQ as it was, so the slots counted are those of the state before. -/
theorem countersAndEvents : Obligations.CountersAndEvents := by
  refine ⟨State.counter_count, fun s k detail sweep =>
    ⟨fun o latched => State.raise_latched s k detail sweep o latched, fun fresh => ⟨_, rfl, ?_, ?_, ?_⟩⟩⟩
  · exact fun silent => State.raise_unnotified fresh silent
  · exact fun notified room => (State.raise_notified fresh notified).trans (State.offerMq_free _ _ room)
  · exact fun notified full => (State.raise_notified fresh notified).trans (State.offerMq_full _ _ full)

end Sys2Proof.Machine
end

section
/-! A law that the moves of the part keep is kept by every command and by a tick. The moves are the plain updates of the state
that the blocks make, each with what its block has tested before it. A proof about one law names the moves that touch what the
law speaks of; the others keep it because they leave that as it was. -/

namespace Sys2Proof.Machine

/-! ### What is known of a record that a move replaces -/

/-- A link record changes with the same frame in its transmitter, and stays in order. -/
def LinkChange (p : Port) (old new : LinkPort) : Prop := new.tx = old.tx ∧ (LinkOk p old → LinkOk p new)

/-- The ranges of one node's runtime record (R20). -/
def NodeRunOk (r : NodeRuntime) : Prop :=
  r.misses ≤ 15 ∧ (∀ l ∈ r.lastLatency, l ≤ 65535) ∧ (∀ l ∈ r.worstLatency, l ≤ 65535)

/-- The ranges of one channel's runtime record (R39, R65). -/
def ChanRunOk (r : ChanRuntime) : Prop := LimitRecordOk r ∧ r.sinceReport ≤ 65535

/-- A channel's record changes and stays in order, its count below the persistence of its entry (R69). -/
def ChanChange (cfg : ChanConfig) (old new : ChanRuntime) : Prop :=
  (ChanRunOk old → ChanRunOk new) ∧ (old.count < cfg.persistence → new.count < cfg.persistence)

/-- A close of this cause is due: its sweep is COLLECTING, with the mark that the cause names, and a SYNC acts in TRUNK source
only (R7, R9, R12). -/
def State.closeDue (s : State) (k : CloseKind) : Prop :=
  s.sweep.state = .collecting ∧
    match k with
    | .expiry oneShot => oneShot = s.sweep.oneShot
    | .stop => True
    | .sync _ => s.settings.source = .trunk

/-! ### The moves -/

/-- The law is kept by the moves that the filter, the judgement of nodes and Intake make. -/
structure KeptByFilter (law : State → Prop) : Prop where
  dropChoice (s : State) : law s → law s.dropChoice := by intros; assumption
  countBy (s : State) (c : Counter) (n : Nat) : law s → law (s.countBy c n) := by intros; assumption
  raise (s : State) (k : EventKind) (d : Byte) (w : Word) : law s → law (s.raise k d w) := by intro _ _ _ _ h; simpa using h
  handed (s : State) (l : List (List HandedSample)) : law s → law { s with handed := l } := by intros; assumption
  notices (s : State) (l : List LossNotice) : law s → law { s with notices := l } := by intros; assumption
  drops (s : State) (l : List (Fin 256)) : law s → law { s with drops := l } := by intros; assumption
  setNodeRun (s : State) (i : Fin 24) (r : NodeRuntime) : (NodeRunOk s.nodeRun[i] → NodeRunOk r) → law s →
    law (s.setNodeRun i r) := by intros; assumption
  setChanRun (s : State) (c : Fin 256) (r : ChanRuntime) : ChanChange s.chanCfg[c] s.chanRun[c] r → law s →
    law (s.setChanRun c r) := by intros; assumption
  offer (s : State) (r : Report) : law s → law (s.offer r) := by intro _ _ h; simpa using h

/-- The law is kept by these moves and by the advance of the beacon count. -/
structure KeptByTakes (law : State → Prop) : Prop extends KeptByFilter law where
  advanceBeacon (s : State) : law s → law s.advanceBeacon := by intro _ h; simpa using h

/-- The law is kept by the moves that commands other than requests make, the ends of transmissions and the closes apart. -/
structure KeptByMoves (law : State → Prop) : Prop extends KeptByTakes law where
  powerOn (s : State) : law s.powerOn
  pending (s : State) (l : List Instr) : law s → law { s with pending := l } := by intros; assumption
  inbox (s : State) (i : Inbox) : law s → law { s with inbox := i } := by intros; assumption
  advance (s : State) (dt : Nat) : law s → law (s.advance dt) := by intros; assumption
  transmit (s : State) (n : PerPort Nat) : law s → law (s.transmit n) := by intros; assumption
  link (s : State) (p : Port) (lp : LinkPort) : LinkChange p (s.link p) lp → law s → law (s.setLink p lp) := by
    intros; assumption
  urgentTransit (s : State) (f : TrunkFrame) : s.trunk.tqU.length < Config.tqUSlots → law s →
    law { s with trunk := { s.trunk with tqU := s.trunk.tqU ++ [f] } } := by intros; assumption
  transit (s : State) (f : TrunkFrame) : s.trunk.tqN.length < Config.tqNSlots → law s →
    law { s with trunk := { s.trunk with tqN := s.trunk.tqN ++ [f] } } := by intros; assumption
  forward (s : State) (f : TrunkFrame) : s.trunk.dfq.length < Config.dfqSlots → law s →
    law { s with trunk := { s.trunk with dfq := s.trunk.dfq ++ [f] } } := by intros; assumption
  own (s : State) (a : Nat) : a ≤ 30 → law s → law { s with trunk := { s.trunk with own := a } } := by intros; assumption
  offerMq (s : State) (i : MqItem) : law s → law (s.offerMq i) := by intro _ _ h; simpa using h
  dfqSend (s : State) (f : TrunkFrame) (rest : List TrunkFrame) : s.trunk.dfq = f :: rest → s.canSend .td = true → law s →
    law (({ s with trunk := { s.trunk with dfq := rest } } : State).startTx .td f.bytes .dispatcher) := by
    intros; assumption
  sendTrigger (s : State) (n : Word) : s.sweep.waiting = some n → s.canSend .sg = true → law s →
    law { s.startTx .sg (triggerFrame n).bytes .sweepController with
      sweep := { s.sweep with waiting := none, triggerStart := some s.now } } := by intros; assumption
  sendCommand (s : State) (r : PendingRelay) : s.relay = some r → r.phase = .queued → s.canSend .sg = true → law s →
    law { s.startTx .sg (commandFrame r).bytes .relayController with relay := some { r with phase := .sending } } := by
    intros; assumption
  makeDue (s : State) (e : Entry) (n : Nat) : s.entry e.seq = some { e with state := .waiting n } → law s →
    law (s.makeDue e) := by intros; assumption
  mark (s : State) (e : Entry) : s.entry e.seq = some e → e.state = .sending → law s →
    law (s.setEntry { e with acked := true }) := by intros; assumption
  removeEntry (s : State) (e : Entry) : s.entry e.seq = some e → e.state ≠ .sending → law s →
    law (s.removeEntry e.seq) := by intro _ _ _ _ h; simpa using h
  endRelay (s : State) (r : PendingRelay) (n : Nat) (st : Status) (res : List Byte) : s.relay = some r →
    r.phase = .listening n → law s → law (s.endRelay st res) := by intro _ _ _ _ _ _ _ h; simpa using h
  trigger (s : State) (n : Word) : law s → law (s.trigger n) := by intros; assumption
  restartSupervision (s : State) (n : Nat) : s.sweep.supervision = some n → law s → law s.startSupervision := by
    intros; assumption
  expireSession (s : State) (n : Nat) : s.mgmt.session.idle = some n → law s → law s.endSession := by intros; assumption

/-- The law is kept by the choices of the Scheduler and by the ends of transmissions. -/
structure KeptByEnds (law : State → Prop) : Prop where
  uplinkChoice (s : State) : law s → law s.uplinkChoice
  complete (s : State) (p : Port) (t : Transmission) : (s.link p).tx = some t → law s → law (s.complete p t)
  linkLoss (s : State) (p : Port) : law s → law (s.linkLoss p)

/-- The law is kept by every sweep close that is due. -/
def KeptByCloses (law : State → Prop) : Prop := ∀ s k, s.closeDue k → law s → law (s.sweepClose k)

/-! ### Requests (R149 to R152) -/

/-- How the Executor handles one of the 23 requests: its code, the request, whether it is permitted as a broadcast, its length
check, and its own rule (R151, R152). -/
structure RequestRule where
  code : Byte
  request : Request
  permitted : Bool
  formOk : Bool
  body : State → State × Answer

/-- The rule of a command that is one of the 23 requests. -/
def ruleOf : Instr → Option RequestRule
  | .getIdentity r => some ⟨1, r, false, hasFields r 0, reading (fun _ => .done .ok identityBytes)⟩
  | .readSettings r => some ⟨2, r, false, hasFields r 0, reading (fun x => .done .ok (settingsBytes x.settings))⟩
  | .readNode r => some ⟨3, r, false, hasFields r 2, readNode r.fields⟩
  | .readChannel r => some ⟨4, r, false, hasFields r 2, reading (readChannel r.fields)⟩
  | .readQueues r => some ⟨5, r, false, hasFields r 0, reading (fun x => .done .ok (queueBytes x))⟩
  | .readCounters r => some ⟨6, r, false, hasFields r 2, readCounters r.fields⟩
  | .readEvents r => some ⟨7, r, false, hasFields r 0, reading (fun x => .done .ok (eventBytes x))⟩
  | .clearEvents r => some ⟨8, r, true, hasFields r 2, clearEvents r.fields⟩
  | .setNotify r => some ⟨9, r, false, hasFields r 2, setNotify r.fields⟩
  | .startSweeps r => some ⟨10, r, true, hasFields r 0, State.startSweepsAnswer⟩
  | .stopSweeps r => some ⟨11, r, true, hasFields r 0, fun x => (x.stopSweeps, okAnswer)⟩
  | .triggerOnce r => some ⟨12, r, false, hasFields r 0, fun x => (x.triggerOnce.1, .done x.triggerOnce.2 [])⟩
  | .forceReport r => some ⟨13, r, true, hasFields r 4, forceReport r.fields⟩
  | .flushClass r => some ⟨14, r, false, hasFields r 1, flushClass r.fields⟩
  | .segmentRelay r => some ⟨15, r, false, relayForm r.fields, segmentRelay r.fields⟩
  | .sessionOpen r => some ⟨16, r, false, hasFields r 2, sessionOpen r.fields⟩
  | .stageNode r => some ⟨17, r, false, hasFields r 8, inSession (wordAt r.fields 0) false (stageNode r.fields)⟩
  | .stageChannel r => some ⟨18, r, false, hasFields r 21, inSession (wordAt r.fields 0) false (stageChannel r.fields)⟩
  | .stageSettings r => some ⟨19, r, false, hasFields r 28, inSession (wordAt r.fields 0) false (stageSettings r.fields)⟩
  | .readStaged r => some ⟨20, r, false, hasFields r 3, inSession (wordAt r.fields 0) true (readStaged r.fields)⟩
  | .sessionDiscard r => some ⟨21, r, false, hasFields r 2, inSession (wordAt r.fields 0) false sessionDiscard⟩
  | .commit r => some ⟨22, r, false, hasFields r 2, inSession (wordAt r.fields 0) false commitSession⟩
  | .resetPart r => some ⟨23, r, false, hasFields r 1, resetPart r.tag r.fields⟩
  | _ => none

/-- A request is run as its rule says. -/
def State.runRule (s : State) (q : RequestRule) : State := s.runRequest q.code q.request q.permitted q.formOk q.body

/-- Every command that is one of the 23 requests is run by its rule. -/
theorem exec_ruleOf {c : Instr} {q : RequestRule} (h : ruleOf c = some q) (s : State) : exec c s = .next (s.runRule q) := by
  cases c <;> cases h <;> rfl

/-- The law is kept by every request that a rule handles, and by one of no known code. -/
structure KeptByRequests (law : State → Prop) : Prop where
  runRule (c : Instr) (q : RequestRule) (s : State) : ruleOf c = some q → law s → law (s.runRule q)
  unknown (s : State) (b : Bool) (payload : List Byte) : law s → law (s.unknownRequest b payload)

end Sys2Proof.Machine
end

section
/-! What the moves find and leave: folds, link records after a symbol, and the runtime records of channels and nodes. -/

namespace Sys2Proof.Machine

/-! ### Folds, and the entry of a number -/

theorem State.foldl_law {α : Type} {law : State → Prop} {g : State → α → State} (h : ∀ s x, law s → law (g s x)) (l : List α)
    (s : State) (hs : law s) : law (l.foldl g s) := by
  induction l generalizing s with
  | nil => exact hs
  | cons x rest ih => exact ih _ (h s x hs)

/-- The entry found under a number holds that number. -/
theorem State.entry_seq {s : State} {q : Byte} {e : Entry} (found : s.entry q = some e) : e.seq = q := by
  simpa using List.find?_some found

theorem Entry.elapse_seq (dt : Nat) (e : Entry) : (e.elapse dt).seq = e.seq := by
  unfold Entry.elapse; split <;> rfl

/-- Time that passes with TU UP leaves each entry under its number (R113). -/
theorem State.entry_advance {s : State} {e : Entry} {n : Nat} (up : s.isUp .tu = true) (found : s.entry e.seq = some e)
    (waiting : e.state = .waiting n) (dt : Nat) :
    (s.advance dt).entry e.seq = some { e with state := .waiting (n - dt) } := by
  have elapsed : e.elapse dt = { e with state := .waiting (n - dt) } := by simp [Entry.elapse, waiting]
  rw [← elapsed]
  simp only [State.entry, State.advance, if_pos up, List.find?_map]
  have same : ((fun e' : Entry => e'.seq == e.seq) ∘ Entry.elapse dt) = fun e' => e'.seq == e.seq := by
    funext e'; simp [Entry.elapse_seq]
  rw [same]
  exact congrArg (Option.map (Entry.elapse dt)) found

/-! ### Link records -/

/-- In UP a valid symbol ends the silence, and leaves a reception within the port's largest frame or none (R124, R128). -/
theorem linkChange_hear {p : Port} {lp : LinkPort} (up : lp.state = .up) (rx : Option Reception)
    (fits : LinkOk p lp → ∀ r ∈ rx, r.bytes.length ≤ maxFrame p) : LinkChange p lp { lp with silence := some 0, rx := rx } := by
  refine ⟨rfl, fun ok => ?_⟩
  obtain ⟨-, h2, h3, -, h5, h6, -, h8⟩ := id ok
  exact ⟨fun n => absurd up n, h2, h3, by simp [up], h5, h6, fits ok, h8⟩

/-- Outside UP no frame is in reception or transmission, so the alignment alone changes (R123). -/
theorem linkChange_align {p : Port} {lp : LinkPort} (off : lp.state ≠ .up) (st : LinkState) (n : Nat) (errors : List Nat)
    (hst : st ≠ .down) (hn : n < Config.alignRun) (hup : st = .up → n = 0)
    (herr : LinkOk p lp → errors.length < Config.noiseErrors) :
    LinkChange p lp { lp with state := st, silence := some 0, errors := errors, idleRun := n } := by
  refine ⟨rfl, fun ok => ?_⟩
  obtain ⟨h1, -, -, -, -, -, h7, h8⟩ := id ok
  refine ⟨fun _ => h1 off, fun na => ?_, hn, by simp [hst], fun d => absurd d hst, herr ok, h7, h8⟩
  cases st with
  | down => exact absurd rfl hst
  | aligning => exact absurd rfl na
  | up => exact hup rfl

/-- A code error short of the 32nd is recorded and ends an idle run (R123, R124). -/
theorem linkChange_error {p : Port} {lp : LinkPort} (now : Nat) (on : lp.state ≠ .down)
    (few : ¬ Config.noiseErrors ≤ (recentErrors now lp.errors).length + 1) :
    LinkChange p lp { lp with
      errors := now :: recentErrors now lp.errors
      idleRun := 0
      rx := lp.rx.map (fun rx => { rx with spoilt := true }) } := by
  refine ⟨rfl, fun ok => ?_⟩
  obtain ⟨h1, -, -, h4, -, -, h7, h8⟩ := ok
  refine ⟨fun off => ⟨by simp [(h1 off).1], (h1 off).2⟩, fun _ => rfl, Nat.zero_lt_succ 63, h4, fun d => absurd d on,
    by simpa using few, fun r hr => ?_, h8⟩
  obtain ⟨r', hr', rfl⟩ := Option.mem_map.mp hr
  exact h7 r' hr'

theorem idleAfter_le (run : Nat) (sym : ValidSymbol) : idleAfter run sym ≤ run + 1 := by
  unfold idleAfter; split <;> omega

/-- A DATA byte joins a frame in reception only up to the port's largest frame (R128). -/
theorem Reception.add_length_le {p : Port} {rx : Reception} (b : Byte) (h : rx.bytes.length ≤ maxFrame p) :
    (rx.add p b).bytes.length ≤ maxFrame p := by
  unfold Reception.add; split
  · simpa using ‹_›
  · exact h

/-! ### Channel and node records -/

theorem ChanChange.refl (cfg : ChanConfig) (r : ChanRuntime) : ChanChange cfg r r := ⟨id, id⟩

/-- The candidate that a value indicates is never UNKNOWN (R67). -/
theorem limitCandidate_ne_unknown (cfg : ChanConfig) (st : LimitState) (v : Word) : limitCandidate cfg st v ≠ .unknown := by
  unfold limitCandidate; split_ifs <;> decide

/-- The limit record after a step from a known state: agreement ends the run, contradiction lengthens it below the persistence
or takes the candidate (R69). -/
theorem limitFromKnown_change {cfg : ChanConfig} {run : ChanRuntime} {found : LimitState} (known : run.limit ≠ .unknown)
    (real : found ≠ .unknown) : ChanChange cfg run (limitFromKnown cfg run found).1 := by
  by_cases agrees : found = run.limit
  · rw [limitFromKnown_agreeing cfg agrees]
    exact ⟨fun ⟨_, since⟩ => ⟨⟨by simp, by simp, by simp, by simp⟩, since⟩, fun h => Nat.zero_lt_of_lt h⟩
  · obtain ⟨n, hn⟩ : ∃ n, n = if run.candidate = some found then run.count + 1 else 1 := ⟨_, rfl⟩
    have counted : n ≠ 0 := by rw [hn]; split <;> omega
    rw [limitFromKnown_contradicting cfg agrees hn]
    by_cases reached : cfg.persistence ≤ n
    · rw [if_pos reached]
      exact ⟨fun ⟨_, since⟩ => ⟨⟨by simp, by simp, by simp, by simp⟩, since⟩, fun h => Nat.zero_lt_of_lt h⟩
    · rw [if_neg reached]
      exact ⟨fun ⟨_, since⟩ => ⟨⟨by simpa using counted, fun u => absurd u known, by simpa using agrees, by simpa using real⟩,
        since⟩, fun _ => Nat.lt_of_not_le reached⟩

/-- A limit step keeps the limit record in order and its count below the persistence (R66, R68, R69). -/
theorem limitStep_change (cfg : ChanConfig) (run : ChanRuntime) (q : Quality) (v : Word) :
    ChanChange cfg run (limitStep cfg run q v).1 := by
  by_cases taken : cfg.supervision = true ∧ q = .good
  case neg =>
    have untaken : cfg.supervision = false ∨ q ≠ .good := by
      rcases Decidable.not_and_iff_or_not.mp taken with off | bad
      · exact .inl (Bool.eq_false_iff.mpr off)
      · exact .inr bad
    rw [limitStep_notTaken v untaken]
    exact ChanChange.refl cfg run
  case pos =>
    obtain ⟨on, good⟩ := taken
    have real := limitCandidate_ne_unknown cfg run.limit v
    by_cases unknown : run.limit = .unknown
    · rw [limitStep_fromUnknown v on good unknown, limitFromUnknown]
      exact ⟨fun ⟨_, since⟩ => ⟨⟨by simp, by simp, by simp, by simp⟩, since⟩, fun h => Nat.zero_lt_of_lt h⟩
    · rw [limitStep_fromKnown v on good unknown]
      exact limitFromKnown_change unknown real

/-- Fields outside the limit record and the count since the last report do not touch the ranges (R39, R65). -/
theorem ChanChange.of_same {cfg : ChanConfig} {old new : ChanRuntime} (hl : new.limit = old.limit)
    (hc : new.count = old.count) (hd : new.candidate = old.candidate) (hs : new.sinceReport ≤ 65535 ∨ new.sinceReport = old.sinceReport) :
    ChanChange cfg old new := by
  unfold ChanChange ChanRunOk LimitRecordOk
  rw [hl, hc, hd]
  exact ⟨fun ⟨record, since⟩ => ⟨record, hs.elim id (fun e => e ▸ since)⟩, id⟩

/-- The record after the close duties: the limit record as it was, since-report at most 65535 (R49 to R52). -/
theorem closeDuties_change (cfg : ChanConfig) (run : ChanRuntime) : ChanChange cfg run (closeDuties cfg run).1 := by
  have pending : ∀ r : ChanRuntime, (resolvePending cfg r).1 = { r with pendingChange := (resolvePending cfg r).1.pendingChange } := by
    intro r
    unfold resolvePending
    split
    · rfl
    · split
      · rfl
      · split
        · rfl
        · split
          · rfl
          · split
            · split <;> rfl
            · rfl
            · rfl
  have forced : ∀ r : ChanRuntime, (serveForce r).1 = { r with forcePending := (serveForce r).1.forcePending } := by
    intro r
    unfold serveForce
    split
    · rfl
    · split <;> rfl
  unfold closeDuties
  dsimp only
  rw [forced, pending]
  exact ChanChange.of_same rfl rfl rfl (.inl (Nat.min_le_left _ _))

/-- A node-loss notice ends a run of disagreeing samples (R54). -/
theorem lostRun_change (cfg : ChanConfig) (run : ChanRuntime) : ChanChange cfg run (lostRun run) :=
  ⟨fun ⟨_, since⟩ => ⟨⟨by simp [lostRun], by simp [lostRun], by simp [lostRun], by simp [lostRun]⟩, since⟩,
    fun h => Nat.zero_lt_of_lt h⟩

/-- An accepted frame's latency is at most 65535 (R26). -/
theorem State.latency_le (s : State) (i : Fin 24) (ended : Nat) : ∀ l ∈ s.latency i ended, l ≤ 65535 := by
  intro l hl
  obtain ⟨t, -, rfl⟩ := Option.mem_map.mp hl
  split
  · exact Nat.min_le_left _ _
  · have := (Config.earlyLatency s.now i).isLt; omega

theorem NodeRuntime.answered_ok {r : NodeRuntime} {latency : Option Nat} (h : ∀ l ∈ latency, l ≤ 65535) (ok : NodeRunOk r) :
    NodeRunOk (r.answered latency) := by
  obtain ⟨misses, last, worst⟩ := ok
  unfold NodeRuntime.answered
  split
  · exact ⟨misses, last, worst⟩
  · split
    · exact ⟨misses, last, worst⟩
    · next l =>
      have hl : l ≤ 65535 := h l rfl
      refine ⟨misses, by simpa using hl, fun w hw => ?_⟩
      unfold worse at hw
      split at hw
      · obtain rfl := Option.some.inj hw; exact hl
      · next w' old =>
        obtain rfl := Option.some.inj hw
        exact Nat.max_le.mpr ⟨worst w' old, hl⟩

theorem NodeRuntime.missed_ok {r : NodeRuntime} (ok : NodeRunOk r) : NodeRunOk r.missed := by
  obtain ⟨-, last, worst⟩ := ok
  exact ⟨Nat.min_le_left _ _, last, worst⟩

end Sys2Proof.Machine
end

section
/-! What the filter and the commands that are not requests do, made of moves: a law that the moves keep is kept by each of them. -/

namespace Sys2Proof.Machine
namespace KeptByFilter

section

variable {law : State → Prop} (m : KeptByFilter law)
include m

/-! ### Counters and events -/

theorem count (s : State) (c : Counter) (h : law s) : law (s.count c) := m.countBy s c 1 h

theorem raiseNow (s : State) (k : EventKind) (d : Byte) (h : law s) : law (s.raiseNow k d) := m.raise s k d _ h

theorem countRaise (s : State) (c : Counter) (k : EventKind) (d : Byte) (h : law s) : law ((s.count c).raiseNow k d) :=
  m.raiseNow _ k d (m.count s c h)

/-! ### Notices and deliveries taken by the filter (R40, R54, R57) -/

theorem dropNotice (s : State) (c : Fin 256) (h : law s) : law (s.dropNotice c) :=
  m.setChanRun s c _ (ChanChange.of_same rfl rfl rfl (.inr rfl)) h

theorem dropNotices (s : State) (cs : List (Fin 256)) (h : law s) : law (s.dropNotices cs) := State.foldl_law m.dropNotice cs s h

theorem sendDrops (s : State) (late cs : List (Fin 256)) (h : law s) : law (s.sendDrops late cs) :=
  m.dropNotices _ _ (m.drops s _ h)

theorem takeDrops (s : State) (late : List (Fin 256)) (h : law s) : law (s.takeDrops late) :=
  m.sendDrops _ late _ (m.drops s [] h)

theorem takeDropOf (s : State) (c : Fin 256) (h : law s) : law (s.takeDropOf c) := by
  unfold State.takeDropOf
  split
  · exact m.dropNotice _ c (m.drops s _ h)
  · exact h

theorem takeLoss (s : State) (n : LossNotice) (h : law s) : law (s.takeLoss n) := by
  unfold State.takeLoss
  have lost := m.setChanRun s n.channel _ (lostRun_change s.chanCfg[n.channel] _) h
  split
  · exact h
  · dsimp only
    split
    · exact lost
    · exact m.offer _ _ lost

theorem takeShare (resets : List (Fin 256)) (s : State) (n : LossNotice) (h : law s) : law (State.takeShare resets s n) := by
  unfold State.takeShare
  split
  · exact h
  · exact m.takeLoss s n h

theorem takeShares (s : State) (late resets : List (Fin 256)) (h : law s) : law (s.takeShares late resets) :=
  State.foldl_law (m.takeShare resets) _ _ (m.notices s _ h)

theorem takeNotice (resets : List (Fin 256)) (s : State) (n : Notice) (h : law s) : law (s.takeNotice resets n) := by
  cases n with
  | share c =>
    show law (s.takeShareOf resets c)
    unfold State.takeShareOf
    split
    · exact h
    · exact m.takeShare resets _ _ (m.notices s _ h)
  | drop c => exact m.takeDropOf s c h

theorem judgeSample (s : State) (c : Fin 256) (q : Quality) (v sweep : Word) (h : law s) : law (s.judgeSample c q v sweep) := by
  unfold State.judgeSample
  split
  · exact m.count s _ h
  · split
    · exact m.raise _ _ _ _ (m.count s _ h)
    · unfold State.judgeFresh
      dsimp only
      have step := limitStep_change s.chanCfg[c] { s.chanRun[c] with latest := some ⟨v, q, sweep⟩ } q v
      generalize (limitStep s.chanCfg[c] { s.chanRun[c] with latest := some ⟨v, q, sweep⟩ } q v) = out at step
      split
      · exact m.setChanRun s c _ step h
      · have tracked := m.setChanRun s c out.1 step h
        split
        · exact m.offer _ _ tracked
        · exact tracked

theorem takeSample (between : List (Fin 256 × Notice)) (resets : List (Fin 256)) (s : State) (d : HandedSample) (h : law s) :
    law (State.takeSample between resets s d) :=
  m.judgeSample _ _ _ _ _ (State.foldl_law (g := fun x (p : Fin 256 × Notice) => x.takeNotice resets p.2) (fun x p => m.takeNotice resets x p.2) _ s h)

theorem takeDelivery (between : List (Fin 256 × Notice)) (resets : List (Fin 256)) (s : State) (h : law s) :
    law (s.takeDelivery between resets) := by
  unfold State.takeDelivery
  split
  · exact h
  · exact State.foldl_law (m.takeSample between resets) _ _ (m.handed s _ h)

theorem takeDeliveries (between : List (Fin 256 × Notice)) (resets : List (Fin 256)) (s : State) (h : law s) :
    law (s.takeDeliveries between resets) :=
  State.foldl_law (m.takeSample between resets) _ _ (m.handed s _ h)

theorem take (between : List (Fin 256 × Notice)) (resets : List (Fin 256)) (s : State) (a : FilterAct) (h : law s) :
    law (s.take between resets a) := by
  cases a with
  | notice n => exact m.takeNotice resets s n h
  | delivery => exact m.takeDelivery between resets s h

theorem settle (s : State) (c : Choice) (h : law s) : law (s.settle c) := by
  have told := m.takeDrops _ c.lateDrops (m.takeShares _ c.late [] (State.foldl_law (m.take c.between []) c.takes s h))
  unfold State.settle
  dsimp only
  split
  · exact told
  · exact m.takeDeliveries c.between [] _ told

/-! ### Close duties and the judgement of nodes (R29, R49) -/

theorem channelClose (s : State) (c : Fin 256) (closing : Word) (h : law s) : law (s.channelClose c closing) := by
  have done := m.setChanRun s c _ (closeDuties_change s.chanCfg[c] s.chanRun[c]) h
  unfold State.channelClose
  split
  · exact h
  · dsimp only
    split
    · exact done
    · split
      · exact m.offer _ _ done
      · exact done

theorem judgeNode (s : State) (i : Fin 24) (closing : Word) (h : law s) : law (s.judgeNode i closing) := by
  have missed : ∀ p, law (s.setNodeRun i { s.nodeRun[i].missed with presence := p }) :=
    fun p => m.setNodeRun s i _ (fun ok => NodeRuntime.missed_ok ok) h
  unfold State.judgeNode
  dsimp only
  split
  · exact h
  · split
    · exact m.setNodeRun s i _ (fun ⟨_, last, worst⟩ => ⟨Nat.zero_le _, last, worst⟩) h
    · split
      · exact m.setNodeRun s i _ NodeRuntime.missed_ok h
      · split
        · exact m.notices _ _ (m.raise _ _ _ _ (missed .absent))
        · exact missed .missing

/-! ### An accepted SAMPLE frame (R26, R27) -/

theorem acceptNode (s : State) (i : Fin 24) (ended : Nat) (h : law s) : law (s.acceptNode i ended) := by
  have answered := NodeRuntime.answered_ok (s.latency_le i ended) (r := s.nodeRun[i])
  unfold State.acceptNode
  dsimp only
  split
  · refine m.raiseNow _ _ _ (m.setNodeRun s i _ (fun ok => ?_) h)
    obtain ⟨-, last, worst⟩ := answered ok
    exact ⟨Nat.zero_le _, last, worst⟩
  · exact m.setNodeRun s i _ answered h

theorem handOver (n : NodeConfig) (sweep : Word) (s : State) (xs : List Sample) (h : law s) :
    law (State.handOver n sweep s xs) := by
  refine m.handed _ _ (State.foldl_law (fun x y hx => ?_) xs s h)
  unfold State.countSample
  split
  · exact m.count x _ hx
  · exact m.count x _ hx

end

end KeptByFilter

namespace KeptByMoves

/-! ### Forwarding -/

section

variable {law : State → Prop} (m : KeptByMoves law)
include m

theorem forwardOffer (s : State) (f : TrunkFrame) (h : law s) : law (s.forwardOffer f) := by
  unfold State.forwardOffer
  split
  · next room =>
    rw [Bool.and_eq_true, decide_eq_true_eq] at room
    exact m.forward s f room.2 h
  · exact m.countRaise s _ _ _ h

/-! ### Arrivals from TU and TD (R136, R145) -/

theorem routeFrame (s : State) (f : TrunkFrame) (h : law s) : law (s.routeFrame f) := by
  unfold State.routeFrame
  dsimp only
  split
  · split
    · exact m.inbox s _ h
    · split
      · exact m.forwardOffer _ f (m.inbox s _ h)
      · exact m.forwardOffer s f h
  · split
    · exact m.inbox s _ h
    · exact m.forwardOffer s f h

theorem routeAll (s : State) (fs : List TrunkFrame) (h : law s) : law (routeAll s fs) := by
  induction fs generalizing s with
  | nil => exact m.inbox s _ h
  | cons f rest ih =>
    rw [Machine.routeAll]
    split
    · exact m.inbox s _ h
    · exact ih _ (m.routeFrame s f h)

theorem drain (s : State) (h : law s) : law s.drain := m.routeAll s _ h

theorem arriveTD (s : State) (f : TrunkFrame) (h : law s) : law (s.arriveTD f) := by
  unfold State.arriveTD
  split
  · split
    · next room => exact m.urgentTransit s f room h
    · exact m.countRaise s _ _ _ h
  · split
    · next room => exact m.transit s f room h
    · exact m.countRaise s _ _ _ h

/-- A SYNC or ENUMERATE taken, whatever its own action is and in either order (R136). -/
theorem takeStep (s : State) (f : TrunkFrame) (forward : Option TrunkFrame) {act : State → State}
    (hact : ∀ x, law x → law (act x)) (h : law s) : law (s.takeStep f forward act) := by
  have start : law { s.dropChoice with inbox := { s.inbox with tu := dropHead f s.inbox.tu } } :=
    m.inbox s.dropChoice _ (m.dropChoice s h)
  have sent : ∀ x, law x → law (match forward with | none => x | some g => x.forwardOffer g) := by
    intro x hx
    cases forward with
    | none => exact hx
    | some g => exact m.forwardOffer x g hx
  unfold State.takeStep
  refine m.drain _ ?_
  dsimp only
  split
  · exact hact _ (sent _ start)
  · exact sent _ (hact _ start)

/-! ### Reception (R123, R128, R129) -/

theorem judgeFrame (s : State) (p : Port) (rx : Reception) (h : law s) : law (s.judgeFrame p rx) := by
  unfold State.judgeFrame
  split
  · exact m.count s _ h
  · have counted := m.count s (.framesIn p) h
    cases p with
    | tu => exact m.drain _ (m.inbox _ _ counted)
    | td => exact m.arriveTD _ _ counted
    | sg => exact m.inbox _ _ counted

theorem receiveUp (s : State) (p : Port) (sym : ValidSymbol) (up : (s.link p).state = .up) (h : law s) :
    law (s.receiveUp p sym) := by
  have heard : ∀ rx : Option Reception, (LinkOk p (s.link p) → ∀ r ∈ rx, r.bytes.length ≤ maxFrame p) →
      law (s.setLink p { s.link p with silence := some 0, rx := rx }) :=
    fun rx fits => m.link s p _ (linkChange_hear up rx fits) h
  have silent := heard none (fun _ _ hr => absurd hr (by simp))
  have opened := heard (some {}) (fun _ r hr => by obtain rfl := Option.some.inj hr; exact Nat.zero_le _)
  cases rx : (s.link p).rx with
  | none =>
    rw [State.receiveUp_outside s p sym rx]
    split
    · exact opened
    · exact silent
  | some r =>
    cases sym with
    | idle => unfold State.receiveUp; simp only [rx]; exact m.count _ _ silent
    | startFrame => unfold State.receiveUp; simp only [rx]; exact m.count _ _ opened
    | endFrame => rw [State.receiveUp_end s p r rx]; exact m.judgeFrame _ p r silent
    | data b =>
      rw [State.receiveUp_data s p r b rx]
      refine heard _ (fun ok x hx => ?_)
      obtain rfl := Option.some.inj hx
      obtain ⟨-, -, -, -, -, -, fits, -⟩ := ok
      exact Reception.add_length_le b (fits r rx)

theorem receive (s : State) (p : Port) (sym : ValidSymbol) (h : law s) : law (s.receive p sym) := by
  unfold State.receive
  dsimp only
  split
  · next down =>
    refine m.link s p _ (linkChange_align (by simp [down]) .aligning _ [] (by decide) ?_ (by simp) (by simp [Config.noiseErrors])) h
    exact lt_of_le_of_lt (idleAfter_le 0 sym) (by decide)
  · next aligning =>
    have off : (s.link p).state ≠ .up := by simp [aligning]
    have errors : LinkOk p (s.link p) → (s.link p).errors.length < Config.noiseErrors := fun ⟨_, _, _, _, _, few, _⟩ => few
    split
    · exact m.link s p _ (linkChange_align off .up 0 _ (by decide) (by decide) (fun _ => rfl) errors) h
    · next notYet =>
      refine m.link s p _ ⟨rfl, fun ok => ?_⟩ h
      obtain ⟨-, -, run, -, -, few, -, -⟩ := id ok
      have short : idleAfter (s.link p).idleRun sym < Config.alignRun :=
        lt_of_le_of_ne (le_trans (idleAfter_le _ sym) run) notYet
      have change := linkChange_align (p := p) off .aligning _ _ (by decide) short (by simp) (fun _ => few)
      rw [← aligning] at change
      exact change.2 ok
  · next up => exact m.receiveUp s p sym up h

theorem codeError (s : State) (p : Port) (hloss : ∀ s p, law s → law (s.linkLoss p)) (h : law s) : law (s.codeError p) := by
  unfold State.codeError
  dsimp only
  split
  · exact h
  · next on =>
    split
    · exact hloss s p h
    · next few => exact m.link s p _ (linkChange_error s.now on few) h

theorem linkUp (s : State) (p : Port) (aligning : (s.link p).state = .aligning) (h : law s) :
    law (s.setLink p { s.link p with state := .up, silence := some 0, idleRun := 0 }) :=
  m.link s p _ (linkChange_align (by simp [aligning]) .up 0 _ (by decide) (by decide) (fun _ => rfl)
    (fun ⟨_, _, _, _, _, few, _⟩ => few)) h

/-- A tick with no command waiting (R121, R40, R54, R57). -/
theorem idle (s : State) (h : law s) : law s.idle := by
  have ticked := m.advance s 1 h
  unfold State.idle
  dsimp only
  split
  · exact ticked
  · exact m.settle _ _ (m.transmit _ _ (m.dropChoice _ ticked))

/-! ### Ticks and SAMPLE frames (R21 to R27) -/

theorem takeSampleFrame (s : State) (node : Byte) (payload : List Byte) (ended : Nat) (h : law s) :
    law (s.takeSampleFrame node payload ended) := by
  have counted := m.count s .sampleFrames h
  unfold State.takeSampleFrame
  dsimp only
  split
  · exact m.countRaise _ _ _ _ counted
  · split
    · exact m.countRaise _ _ _ _ counted
    · split
      · exact m.countRaise _ _ _ _ counted
      · exact m.countRaise _ _ _ _ counted
      · exact m.settle _ _ (m.handOver _ _ _ _ (m.acceptNode _ _ _ (m.dropChoice _ counted)))

/-! ### The Confirmation Unit (R112, R115) -/

theorem deliverEntry (s : State) (e : Entry) (found : s.entry e.seq = some e) (off : e.state ≠ .sending) (h : law s) :
    law (s.deliverEntry e.seq) := m.count _ _ (m.removeEntry s e found off h)

theorem acknowledge (s : State) (q : Byte) (h : law s) : law (s.acknowledge q) := by
  unfold State.acknowledge
  split
  · exact m.count s _ h
  · next e found =>
    obtain rfl := State.entry_seq found
    split
    · next sending => exact m.mark s e found sending h
    · next waiting => exact m.deliverEntry s e found (by simp [waiting]) h
    · next due => exact m.deliverEntry s e found (by simp [due]) h

theorem takeAck (s : State) (payload : List Byte) (h : law s) : law (s.takeAck payload) := by
  unfold State.takeAck
  split
  · exact State.foldl_law m.acknowledge _ s h
  · exact m.count s _ h

theorem abandonEntry (s : State) (e e' : Entry) (same : e'.seq = e.seq) (found : s.entry e.seq = some e')
    (off : e'.state ≠ .sending) (h : law s) : law (s.abandonEntry e) := by
  have removed : law (s.dropChoice.removeEntry e.seq) :=
    same ▸ m.removeEntry s.dropChoice e' (same ▸ found) off (m.dropChoice s h)
  exact m.raiseNow _ _ _ (m.count _ _ (m.sendDrops _ _ _ removed))

/-- The expiry of an entry whose remaining time has run out (R112). -/
theorem expireEntry (s : State) (e : Entry) (n : Nat) (found : s.entry e.seq = some { e with state := .waiting n }) (h : law s) :
    law (s.expireEntry e) := by
  unfold State.expireEntry
  split
  · exact m.makeDue s e n found h
  · exact m.abandonEntry s e { e with state := .waiting n } rfl found (by simp) h

/-! ### The commands that are not requests -/

theorem retransmissionExpiry (s : State) (q : Byte) {t : State} (h : law s)
    (step : execRetransmissionExpiry q s = .next t) : law t := by
  obtain rfl := Host.Outcome.next.inj step
  split
  · exact h
  · next e found =>
    obtain rfl := State.entry_seq found
    split
    · next n waiting =>
      split
      · next up => exact m.expireEntry _ e (n - n) (State.entry_advance up found waiting n) (m.advance s n h)
      · exact h
    · exact h
    · exact h

theorem takeReply (s : State) (node : Byte) (reply : List Byte) (h : law s) : law (s.takeReply node reply) := by
  unfold State.takeReply
  split
  · exact m.count s _ h
  · next r pending =>
    split
    · exact m.count s _ h
    · exact m.count s _ h
    · next n listening =>
      split
      · exact m.count s _ h
      · split
        · exact m.count s _ h
        · exact m.endRelay s r n _ _ pending listening h

theorem relayTimerExpiry (s : State) {t : State} (h : law s) (step : execRelayTimerExpiry s = .next t) : law t := by
  obtain rfl := Host.Outcome.next.inj step
  split
  · exact h
  · next r pending =>
    split
    · exact h
    · exact h
    · next n listening =>
      refine m.raiseNow _ _ _ (m.endRelay _ { r with phase := .listening (n - n) } (n - n) _ _ ?_ rfl (m.advance s n h))
      simp [State.advance, pending, PendingRelay.elapse, listening]

theorem sessionIdleExpiry (s : State) {t : State} (h : law s) (step : execSessionIdleExpiry s = .next t) : law t := by
  obtain rfl := Host.Outcome.next.inj step
  split
  · exact h
  · next n running =>
    exact m.raiseNow _ _ _ (m.expireSession _ (n - n) (by simp [State.advance, running]) (m.advance s n h))

theorem syncSupervisionExpiry (s : State) {t : State} (h : law s) (step : execSyncSupervisionExpiry s = .next t) : law t := by
  obtain rfl := Host.Outcome.next.inj step
  split
  · exact h
  · next n running =>
    exact m.restartSupervision _ (n - n) (by simp [State.advance, running]) (m.raiseNow _ _ _ (m.advance s n h))

theorem periodReached (s : State) {t : State} (h : law s) (step : execPeriodReached s = .next t) : law t := by
  obtain rfl := Host.Outcome.next.inj step
  split
  · exact m.trigger _ _ (m.advance s _ h)
  · exact h

theorem arbiter (s : State) (send : s.canSend .sg = true) (h : law s) : law s.arbiter := by
  unfold State.arbiter
  split
  · next n waiting => exact m.sendTrigger s n waiting send h
  · split
    · exact h
    · next r pending =>
      split
      · next queued => exact m.sendCommand s r pending queued send h
      · exact h
      · exact h

theorem dfqSend_step (s : State) {t : State} (h : law s) (step : execDfqSend s = .next t) : law t := by
  obtain rfl := Host.Outcome.next.inj step
  split
  · exact h
  · next f rest waiting =>
    split
    · next send => exact m.dfqSend s f rest waiting send h
    · exact h

theorem assign (s : State) (a : Nat) (ha : a ≤ 30) (h : law s) : law (s.assign a) := m.offerMq _ _ (m.own s a ha h)

theorem unassign (s : State) (h : law s) : law s.unassign := m.own s 0 (Nat.zero_le _) h

omit m in
theorem next_le_thirty {next : Byte} (good : ¬ badNext next = true) (ne : next ≠ 31) : next.toNat ≤ 30 := by
  have above : ¬ 31 < next.toNat := fun h => good (by simp [badNext, h])
  have other : next.toNat ≠ 31 := fun h => ne (BitVec.eq_of_toNat_eq h)
  omega

theorem enumerateRestart (s : State) (hd : TrunkHeader) (flag next : Byte) {t : State} (h : law s)
    (step : execEnumerateRestart hd flag next s = .next t) : law t := by
  obtain rfl := Host.Outcome.next.inj step
  split
  · exact m.takeStep s _ _ (fun x => m.count x _) h
  · next good =>
    split
    · exact m.takeStep s _ _ m.unassign h
    · next ne => exact m.takeStep s _ _ (fun x => m.assign x _ (next_le_thirty good ne)) h

theorem enumerateClear (s : State) (hd : TrunkHeader) (next : Byte) {t : State} (h : law s)
    (step : execEnumerateClear hd next s = .next t) : law t := by
  obtain rfl := Host.Outcome.next.inj step
  split
  · exact m.takeStep s _ _ (fun x => m.count x _) h
  · next good =>
    split
    · next take => exact m.takeStep s _ _ (fun x => m.assign x _ (next_le_thirty good take.2)) h
    · exact m.takeStep s _ _ (fun _ => id) h

theorem takeSync (s : State) (number : Word) (closes : KeptByCloses law) (h : law s) : law (s.takeSync number) := by
  unfold State.takeSync
  split
  · exact h
  · next trunk =>
    have tested : law (if number = s.sweep.number + 1 then s else s.raiseNow .syncGap 0) := by
      split
      · exact h
      · exact m.raiseNow s _ _ h
    have sweep : (if number = s.sweep.number + 1 then s else s.raiseNow .syncGap 0).sweep = s.sweep := by split <;> simp
    have settings : (if number = s.sweep.number + 1 then s else s.raiseNow .syncGap 0).settings = s.settings := by
      split <;> simp
    dsimp only
    split
    · exact h
    · exact m.trigger _ _ tested
    · next collecting =>
      have source : s.settings.source = .trunk := by
        cases source : s.settings.source with
        | localTimer => exact absurd source trunk
        | trunk => rfl
      exact closes _ _ ⟨(congrArg Sweep.state sweep).trans collecting, (congrArg Settings.source settings).trans source⟩ tested

theorem windowExpiry (s : State) (closes : KeptByCloses law) {t : State} (h : law s) (step : execWindowExpiry s = .next t) :
    law t := by
  obtain rfl := Host.Outcome.next.inj step
  split
  · next collecting =>
    split
    · exact h
    · next n running => exact closes _ _ ⟨collecting, rfl⟩ (m.advance s n h)
  · exact h

theorem linkSilenceLoss (s : State) (p : Port) (ends : KeptByEnds law) {t : State} (h : law s)
    (step : execLinkSilenceLoss p s = .next t) : law t := by
  obtain rfl := Host.Outcome.next.inj step
  split
  · exact h
  · exact ends.linkLoss _ p (m.advance s _ h)

omit m in
theorem transmissionComplete (s : State) (p : Port) (ends : KeptByEnds law) {t : State} (h : law s)
    (step : execTransmissionComplete p s = .next t) : law t := by
  obtain rfl := Host.Outcome.next.inj step
  split
  · exact h
  · next t sending => exact ends.complete s p t sending h

/-- A command that has a row of its own and is no request. -/
theorem exec_notRequest (ends : KeptByEnds law) (closes : KeptByCloses law) (requests : KeptByRequests law) (c : Instr)
    (other : ruleOf c = none) (s : State) {t : State} (h : law s) (step : exec c s = .next t) : law t := by
  have got : ∀ {x : State}, Host.Outcome.next x = (.next t : Host.Outcome State Fault Refusal) → law x → law t :=
    fun e hx => Host.Outcome.next.inj e ▸ hx
  cases c
  case powerOn => exact got step (m.powerOn s)
  case resetPin => exact got step (m.powerOn s)
  case linkAligning p sym =>
    refine got step ?_
    split
    · exact m.receive s p sym h
    · exact h
  case linkUp p =>
    refine got step ?_
    split
    · next aligning => exact m.linkUp s p aligning h
    · exact h
  case linkSilenceLoss p => exact m.linkSilenceLoss s p ends h step
  case linkNoiseLoss p => exact got step (ends.linkLoss s p h)
  case frameTruncated p restart =>
    refine got step ?_
    split
    · exact m.receive s p _ h
    · exact h
  case frameReceived p => exact got step (m.receive s p _ h)
  case transmissionComplete p => exact transmissionComplete s p ends h step
  case dfqSend => exact m.dfqSend_step s h step
  case enumerateRestart hd flag next => exact m.enumerateRestart s hd flag next h step
  case enumerateClear hd next => exact m.enumerateClear s hd next h step
  case sync hd number => exact got step (m.takeStep s _ _ (fun x hx => m.takeSync x number closes hx) h)
  case syncSupervisionExpiry => exact m.syncSupervisionExpiry s h step
  case periodReached => exact m.periodReached s h step
  case windowExpiry => exact m.windowExpiry s closes h step
  case sgArbiterStart =>
    refine got step ?_
    split
    · next send => exact m.arbiter s send h
    · exact h
  case sampleFrame node payload => exact got step (m.takeSampleFrame _ _ _ _ (m.inbox s _ h))
  case uplinkChoice => exact got step (ends.uplinkChoice s h)
  case retransmissionExpiry q => exact m.retransmissionExpiry s q h step
  case ack payload => exact got step (m.takeAck _ _ (m.inbox s _ h))
  case nodeReply node reply => exact got step (m.takeReply _ _ _ (m.inbox s _ h))
  case relayTimerExpiry => exact m.relayTimerExpiry s h step
  case sessionIdleExpiry => exact m.sessionIdleExpiry s h step
  case idleSymbol p => exact got step (m.receive s p _ h)
  case codeError p => exact got step (m.codeError s p ends.linkLoss h)
  case startSymbol p => exact got step (m.receive s p _ h)
  case dataSymbol p b => exact got step (m.receive s p _ h)
  case unknownRequest b payload => exact got step (requests.unknown s b payload h)
  all_goals exact absurd other (Option.some_ne_none _)

/-- A law that the moves, the ends of transmissions, the closes and the requests keep is kept by every step. -/
theorem keptByStep (ends : KeptByEnds law) (closes : KeptByCloses law) (requests : KeptByRequests law) : KeptByStep law := by
  refine keptByStep_of_exec law m.pending (fun c s t h step => ?_) m.idle
  cases rule : ruleOf c with
  | none => exact m.exec_notRequest ends closes requests c rule s h step
  | some q =>
    rw [exec_ruleOf rule] at step
    exact Host.Outcome.next.inj step ▸ requests.runRule c q s rule h

end

end KeptByMoves
end Sys2Proof.Machine
end

section
/-! The requests, made of moves: what the Executor's rules do to a law that their moves keep. -/

namespace Sys2Proof.Machine

/-! ### The moves of requests -/

/-- The law is kept by the moves that the requests' own rules make, and by the handling of their slots of MQ. -/
structure KeptByRequestMoves (law : State → Prop) : Prop where
  reserve (s : State) (tag code : Byte) : 0 < s.mqFree → law s → law (s.reserve tag code) := by intros; assumption
  respond (s : State) (tag code : Byte) (st : Status) (res : List Byte) : law s → law (s.respond tag code st res) := by
    intro _ _ _ _ _ h; simpa using h
  clearGroup (s : State) (first count : Nat) : law s → law (s.clearGroup first count) := by
    intro _ _ _ h; simpa only [State.clearGroup] using h
  unlatch (s : State) (set : Word) : law s → law (s.unlatch set) := by intro _ _ h; simpa using h
  notify (s : State) (set : Word) : law s → law { s with latch := { s.latch with notify := set } } := by intros; assumption
  oneShot (s : State) : s.sweep.state = .collecting → s.settings.source = .localTimer → law s →
    law { s with sweep := { s.sweep with oneShot := true } } := by intros; assumption
  startQuiet (s : State) : s.sweep.state = .stopped → s.settings.source = .trunk → law s →
    law s.becomeQuiet.startSupervision := by intros; assumption
  stopQuiet (s : State) : s.sweep.state = .quiet → law s → law s.becomeStopped := by intros; assumption
  flush (s : State) (k : ReportClass) : law s → law (s.flush k) := by intro _ _ h; simpa using h
  queueRelay (s : State) (node : Byte) (command : List Byte) : s.relay = none → law s →
    law { s with relay := some ⟨node, command, .queued⟩ } := by intros; assumption
  takeReset (s : State) (scope : Scope) : law s → law (s.takeReset scope)
  pendReset (s : State) (scope : Scope) : law s → law { s with mgmt := { s.mgmt with resetPending := some scope } } := by
    intros; assumption
  openSession (s : State) (token : Word) : s.mgmt.session.state = .none → law s →
    law (s.setSession ⟨.opened, some token, [], some s.idleTime⟩) := by intros; assumption
  restartIdle (s : State) : s.mgmt.session.state = .opened → law s → law s.restartIdle := by intros; assumption
  replaceItem (s : State) (item : StagedItem) (pos : Nat) : s.mgmt.session.state = .opened → item.inRange = true →
    s.mgmt.session.items.findIdx? item.sameTarget = some pos → law s →
    law (s.setSession { s.mgmt.session with items := s.mgmt.session.items.set pos item }) := by intros; assumption
  addItem (s : State) (item : StagedItem) : s.mgmt.session.state = .opened → item.inRange = true →
    s.mgmt.session.items.findIdx? item.sameTarget = none → s.mgmt.session.items.length < Config.stagingItems → law s →
    law (s.setSession { s.mgmt.session with items := s.mgmt.session.items ++ [item] }) := by intros; assumption
  discard (s : State) : s.mgmt.session.state = .opened → law s → law s.endSession := by intros; assumption
  commitWaits (s : State) : s.mgmt.session.state = .opened → s.sweep.state = .collecting →
    rejection s.mergedNodes 0 s.mgmt.session.items = none → law s →
    law (s.setSession { s.mgmt.session with state := .commitPending, idle := none }) := by intros; assumption
  applyNow (s : State) : s.mgmt.session.state = .opened → s.sweep.state ≠ .collecting →
    rejection s.mergedNodes 0 s.mgmt.session.items = none → law s → law s.applyNow

/-! ### What is read is in range (R161) -/

theorem parseNode_inRange {f : List Byte} {n : NodeConfig} (h : parseNode f = some n) : n.inRange = true := by
  unfold parseNode at h
  split at h
  · dsimp only at h
    split at h
    · next ok => exact Option.some.inj h ▸ ok
    · exact absurd h (by simp)
  · exact absurd h (by simp)

theorem parseChannel_inRange {f : List Byte} {c : ChanConfig} (h : parseChannel f = some c) : c.inRange = true := by
  unfold parseChannel at h
  split at h
  · dsimp only at h
    split at h
    · next ok => exact Option.some.inj h ▸ ok
    · exact absurd h (by simp)
  · exact absurd h (by simp)

theorem parseSettings_inRange {f : List Byte} {t : Settings} (h : parseSettings f = some t) : t.inRange = true := by
  unfold parseSettings at h
  split at h
  · dsimp only at h
    split at h
    · next ok => exact Option.some.inj h ▸ ok
    · exact absurd h (by simp)
  · exact absurd h (by simp)

namespace KeptByRequestMoves

section

variable {law : State → Prop} (a : KeptByRequestMoves law) (m : KeptByMoves law)
include a

/-! ### The rules of the requests -/

theorem stageItem (s : State) (item : StagedItem) (opened : s.mgmt.session.state = .opened) (ok : item.inRange = true)
    (h : law s) : law (stageItem item s).1 := by
  unfold Machine.stageItem
  dsimp only
  split
  · next pos found => exact a.replaceItem s item pos opened ok found h
  · next absent =>
    split
    · next room => exact a.addItem s item opened ok absent room h
    · exact h

/-- The checks of R159 before a rule that keeps the law in OPEN, and while a commit is pending where it runs then. -/
theorem inSession (s : State) (token : Word) (whilePending : Bool) (body : State → State × Answer)
    (inOpen : ∀ x, x.mgmt.session.state = .opened → law x → law (body x).1)
    (inPending : whilePending = true → ∀ x, law x → law (body x).1) (h : law s) :
    law (inSession token whilePending body s).1 := by
  unfold Machine.inSession
  split
  · exact h
  · next opened =>
    split
    · exact inOpen _ opened (a.restartIdle s opened h)
    · exact h
  · split
    · exact h
    · split
      · next runs => exact inPending runs s h
      · exact h

theorem stageNode (s : State) (fields : List Byte) (opened : s.mgmt.session.state = .opened) (h : law s) :
    law (stageNode fields s).1 := by
  unfold Machine.stageNode
  split
  · split
    · exact h
    · next read => exact a.stageItem s _ opened (parseNode_inRange read) h
  · exact h

theorem stageChannel (s : State) (fields : List Byte) (opened : s.mgmt.session.state = .opened) (h : law s) :
    law (stageChannel fields s).1 := by
  unfold Machine.stageChannel
  split
  · split
    · exact h
    · next read => exact a.stageItem s _ opened (parseChannel_inRange read) h
  · exact h

theorem stageSettings (s : State) (fields : List Byte) (opened : s.mgmt.session.state = .opened) (h : law s) :
    law (stageSettings fields s).1 := by
  unfold Machine.stageSettings
  split
  · exact h
  · next read => exact a.stageItem s _ opened (parseSettings_inRange read) h

omit a in
theorem readStaged_same (s : State) (fields : List Byte) : (readStaged fields s).1 = s := by
  unfold Machine.readStaged
  dsimp only
  split
  · rfl
  · split <;> rfl

theorem commitSession (s : State) (opened : s.mgmt.session.state = .opened) (h : law s) : law (commitSession s).1 := by
  unfold Machine.commitSession
  split
  · exact h
  · next valid =>
    split
    · next collecting => exact a.commitWaits s opened collecting valid h
    · next still => exact a.applyNow s opened still valid h

theorem sessionOpen (s : State) (fields : List Byte) (h : law s) : law (sessionOpen fields s).1 := by
  unfold Machine.sessionOpen
  dsimp only
  split
  · next none => exact a.openSession s _ none h
  · next opened =>
    split
    · exact a.restartIdle s opened h
    · exact h
  · exact h

theorem resetPart (s : State) (tag : Byte) (fields : List Byte) (h : law s) : law (resetPart tag fields s).1 := by
  unfold Machine.resetPart
  split
  · exact h
  · have pending := fun scope => a.pendReset _ scope (a.respond s tag 23 .ok [] h)
    dsimp only
    split
    · exact pending _
    · exact a.takeReset _ _ (pending _)

theorem segmentRelay (s : State) (fields : List Byte) (h : law s) : law (segmentRelay fields s).1 := by
  unfold Machine.segmentRelay
  split
  · exact h
  · split
    · exact h
    · split
      · exact h
      · next free =>
        split
        · exact h
        · exact a.queueRelay s _ _ (Option.not_isSome_iff_eq_none.mp free) h

theorem flushClass (s : State) (fields : List Byte) (h : law s) : law (flushClass fields s).1 := by
  unfold Machine.flushClass
  split
  · exact h
  · exact a.flush s _ h

theorem setNotify (s : State) (fields : List Byte) (h : law s) : law (setNotify fields s).1 := by
  unfold Machine.setNotify
  dsimp only
  split
  · exact h
  · exact a.notify s _ h

theorem readCounters (s : State) (fields : List Byte) (h : law s) : law (readCounters fields s).1 := by
  unfold Machine.readCounters
  split
  · dsimp only
    split
    · exact a.clearGroup s _ _ h
    · exact h
  · exact h

include m

theorem clearEvents (s : State) (fields : List Byte) (h : law s) : law (clearEvents fields s).1 := by
  unfold Machine.clearEvents
  dsimp only
  split
  · exact h
  · dsimp only
    split
    · exact m.raiseNow _ _ _ (a.unlatch s _ h)
    · exact a.unlatch s _ h

omit a in
theorem readNode (s : State) (fields : List Byte) (h : law s) : law (readNode fields s).1 := by
  unfold Machine.readNode
  split
  · dsimp only
    split
    · exact h
    · dsimp only
      split
      · exact m.setNodeRun s _ _ (fun ⟨misses, last, _⟩ => ⟨misses, last, by simp⟩) h
      · exact h
  · exact h

omit a in
theorem forceReport (s : State) (fields : List Byte) (h : law s) : law (forceReport fields s).1 := by
  unfold Machine.forceReport
  dsimp only
  split
  · exact h
  · split
    · exact h
    · exact State.foldl_law (g := fun (x : State) c => x.setChanRun c { x.chanRun[c] with forcePending := true })
        (fun x c hx => m.setChanRun x c _ (ChanChange.of_same rfl rfl rfl (.inr rfl)) hx) _ s h

theorem startSweeps (s : State) (h : law s) : law s.startSweeps.1 := by
  unfold State.startSweeps
  split
  · next stopped =>
    split
    · exact m.trigger s _ h
    · next remote =>
      have trunk : s.settings.source = .trunk := by
        cases source : s.settings.source with
        | localTimer => exact absurd source remote
        | trunk => rfl
      exact a.startQuiet s stopped trunk h
  · exact h

theorem triggerOnce (s : State) (h : law s) : law s.triggerOnce.1 := by
  unfold State.triggerOnce
  split
  · next allowed => exact a.oneShot _ rfl allowed.2 (m.trigger s _ h)
  · exact h

omit m in
theorem stopSweeps (s : State) (closes : KeptByCloses law) (h : law s) : law s.stopSweeps := by
  unfold State.stopSweeps
  split
  · exact h
  · next quiet => exact a.stopQuiet s quiet h
  · next collecting => exact closes s _ ⟨collecting, trivial⟩ h

/-! ### The handling of a request -/

/-- Each of the 23 rules keeps the law. -/
theorem body (closes : KeptByCloses law) (c : Instr) (q : RequestRule) (s : State) (rule : ruleOf c = some q) (h : law s) :
    law (q.body s).1 := by
  cases c <;> cases rule
  case getIdentity => exact h
  case readSettings => exact h
  case readNode r => exact readNode m s r.fields h
  case readChannel => exact h
  case readQueues => exact h
  case readCounters r => exact a.readCounters s r.fields h
  case readEvents => exact h
  case clearEvents r => exact a.clearEvents m s r.fields h
  case setNotify r => exact a.setNotify s r.fields h
  case startSweeps => exact a.startSweeps m s h
  case stopSweeps => exact a.stopSweeps s closes h
  case triggerOnce => exact a.triggerOnce m s h
  case forceReport r => exact forceReport m s r.fields h
  case flushClass r => exact a.flushClass s r.fields h
  case segmentRelay r => exact a.segmentRelay s r.fields h
  case sessionOpen r => exact a.sessionOpen s r.fields h
  case stageNode r => exact a.inSession s _ _ _ (fun x o hx => a.stageNode x r.fields o hx) (by simp) h
  case stageChannel r => exact a.inSession s _ _ _ (fun x o hx => a.stageChannel x r.fields o hx) (by simp) h
  case stageSettings r => exact a.inSession s _ _ _ (fun x o hx => a.stageSettings x r.fields o hx) (by simp) h
  case readStaged r =>
    have same : ∀ x, law x → law (readStaged r.fields x).1 := fun x hx => (readStaged_same x r.fields).symm ▸ hx
    exact a.inSession s _ _ _ (fun x _ => same x) (fun _ => same) h
  case sessionDiscard => exact a.inSession s _ _ _ (fun x o hx => a.discard x o hx) (by simp) h
  case commit => exact a.inSession s _ _ _ (fun x o hx => a.commitSession x o hx) (by simp) h
  case resetPart r => exact a.resetPart s r.tag r.fields h

/-- An addressed request whose rule keeps the law: dropped, refused or answered (R149, R151). -/
theorem addressed (s : State) (code tag : Byte) (formOk : Bool) (body : State → State × Answer)
    (hb : ∀ x, law x → law (body x).1) (h : law s) : law (s.addressed code tag formOk body) := by
  unfold State.addressed
  split
  · exact m.countRaise s _ _ _ h
  · next room =>
    have reserved := a.reserve s tag code (Nat.pos_of_ne_zero room) h
    unfold State.answerRequest
    split
    · exact a.respond _ _ _ _ _ reserved
    · split
      · exact a.respond _ _ _ _ _ reserved
      · have answered := hb _ reserved
        split
        · next out => exact a.respond _ _ _ _ _ (by rw [out] at answered; exact answered)
        · next out => rw [out] at answered; exact answered

/-- The 23 requests, addressed or broadcast, and those of no known code keep the law. -/
theorem requests (closes : KeptByCloses law) : KeptByRequests law where
  runRule c q s rule h := by
    have hb : ∀ x, law x → law (q.body x).1 := fun x => a.body m closes c q x rule
    have taken : law (s.takeHanded q.request.broadcast (q.request.tag :: q.code :: q.request.fields)) := m.inbox s _ h
    unfold State.runRule State.runRequest
    dsimp only
    split
    · unfold State.broadcast
      split
      · exact hb _ taken
      · exact m.count _ _ taken
    · exact a.addressed m _ _ _ _ _ hb taken
  unknown s b payload h := by
    unfold State.unknownRequest
    split
    · split
      · exact h
      · split
        · exact m.count _ _ (m.inbox s _ h)
        · exact a.addressed m _ _ _ _ _ (fun x hx => hx) (m.inbox s _ h)
    · exact m.count _ _ (m.inbox s _ h)

end

end KeptByRequestMoves
end Sys2Proof.Machine
end

section
/-! The choices of the Scheduler, the ends of transmissions and the sweep closes, made of moves. -/

namespace Sys2Proof.Machine

/-! ### The ends of transmissions, by what their owners do (R126, R127) -/

/-- The law is kept where a transmitter falls idle or a link is lost, and by what the owners and the blocks behind a port do. -/
structure KeptByOwners (law : State → Prop) : Prop where
  uplinkChoice (s : State) : law s → law s.uplinkChoice
  endTx (s : State) (p : Port) : law s → law (s.setLink p { s.link p with tx := none }) := by intros; assumption
  loseLink (s : State) (p : Port) : law s → law (s.setLink p {}) := by intros; assumption
  completed (s : State) (chooseFirst : Bool) (o : Owner) : law s → law (s.tellOwnerCompleted chooseFirst o)
  aborted (s : State) (late : List (Fin 256)) (o : Owner) : law s → law (s.tellOwnerAborted late o)
  notUp (s : State) (p : Port) : law s → law (s.tellNotUp p)

namespace KeptByOwners

section

variable {law : State → Prop} (w : KeptByOwners law) (m : KeptByMoves law)
include w m

theorem complete (s : State) (p : Port) (t : Transmission) (h : law s) : law (s.complete p t) := by
  have ended := m.count _ (.framesOut p) (w.endTx s p h)
  unfold State.complete
  dsimp only
  split
  · exact w.completed _ _ _ (m.dropChoice _ ended)
  · exact w.completed _ _ _ ended

theorem tellLoss (s : State) (p : Port) (tx : Option Transmission) (c : Choice) (h : law s) : law (s.tellLoss p tx c) := by
  unfold State.tellLoss
  split
  · exact w.notUp s p h
  · split
    · exact w.notUp _ p (w.completed _ _ _ (m.count s _ h))
    · split
      · exact w.aborted _ _ _ (w.notUp s p h)
      · exact w.notUp _ p (w.aborted _ _ _ h)

theorem linkLoss (s : State) (p : Port) (h : law s) : law (s.linkLoss p) := by
  have down := w.loseLink s p h
  unfold State.linkLoss
  dsimp only
  split
  · exact h
  · exact down
  · split
    · exact m.countRaise _ _ _ _ (w.tellLoss m _ _ _ _ (m.dropChoice _ down))
    · exact w.tellLoss m _ _ _ _ (m.countRaise _ _ _ _ (m.dropChoice _ down))

/-- A law that the owners keep is kept by the ends of transmissions. -/
theorem ends : KeptByEnds law where
  uplinkChoice := w.uplinkChoice
  complete s p t _ := w.complete m s p t
  linkLoss := w.linkLoss m

end

end KeptByOwners

/-! ### The choices of the Scheduler and the ends of transmissions, move by move -/

/-- The law is kept by each move inside a choice of the Scheduler, the end of a transmission and the loss of a link. -/
structure KeptByEndMoves (law : State → Prop) : Prop where
  endTx (s : State) (p : Port) : law s → law (s.setLink p { s.link p with tx := none }) := by intros; assumption
  loseLink (s : State) (p : Port) : law s → law (s.setLink p {}) := by intros; assumption
  clearFlight (s : State) : law s → law s.clearFlight := by intros; assumption
  sendUp (s : State) (fl : Flight) (f : TrunkFrame) : s.canSend .tu = true → law s → law (s.sendUp fl f) := by
    intros; assumption
  takeDue (s : State) (e : Entry) : law s → law (s.takeDue e) := by intros; assumption
  urgentRest (s : State) (f : TrunkFrame) (rest : List TrunkFrame) : s.trunk.tqU = f :: rest → law s →
    law { s with trunk := { s.trunk with tqU := rest } } := by intros; assumption
  transitRest (s : State) (f : TrunkFrame) (rest : List TrunkFrame) : s.trunk.tqN = f :: rest → law s →
    law { s with trunk := { s.trunk with tqN := rest } } := by intros; assumption
  itemsRest (s : State) (i : MqItem) (rest : List MqItem) : s.mgmt.items = i :: rest → law s →
    law { s with mgmt := { s.mgmt with items := rest } } := by intros; assumption
  dropReports (s : State) (k : ReportClass) (n : Nat) : law s → law (s.setQueue k ((s.queue k).drop n)) := by
    intros; assumption
  addEntry (s : State) (r : Report) : law s → law (s.addEntry r) := by intros; assumption
  beaconSent (s : State) : law s → law { s with uplink := { s.uplink with beaconPending := false } } := by
    intros; assumption
  turn (s : State) (t : Turn) : law s → law { s with uplink := { s.uplink with turn := t } } := by intros; assumption
  freeSlots (s : State) (n : Nat) : law s → law (s.freeSlots n) := by intro _ _ h; simpa using h
  setEntry (s : State) (e : Entry) : law s → law (s.setEntry e) := by intros; assumption
  makeDue (s : State) (e : Entry) : law s → law (s.makeDue e) := by intros; assumption
  removeEntry (s : State) (q : Byte) : law s → law (s.removeEntry q) := by intro _ _ h; simpa using h
  listen (s : State) (r : PendingRelay) (n : Nat) : s.relay = some r → law s → law (s.setPhase r (.listening n)) := by
    intros; assumption
  endRelay (s : State) (r : PendingRelay) (st : Status) (res : List Byte) : s.relay = some r → law s →
    law (s.endRelay st res) := by intro _ _ _ _ _ h; simpa using h
  emptyDfq (s : State) : law s → law { s with trunk := { s.trunk with dfq := [] } } := by intros; assumption
  dropWaiting (s : State) : law s → law { s with sweep := { s.sweep with waiting := none } } := by intros; assumption
  takeReset (s : State) (scope : Scope) : law s → law (s.takeReset scope)

/-- A choice of the Scheduler serves the first eligible tier with TU ready and nothing in flight, or changes nothing (R93, R94). -/
theorem State.uplinkChoice_cases (s : State) :
    s.uplinkChoice = s ∨ s.canSend .tu = true ∧ s.uplink.flight = none ∧
      (s.tier1 = some s.uplinkChoice ∨ s.tier2 = some s.uplinkChoice ∨ s.tier3 = some s.uplinkChoice ∨
        s.tier4 = some s.uplinkChoice ∨ s.tier5 = some s.uplinkChoice ∨ s.tier6 = some s.uplinkChoice) := by
  by_cases ready : (s.canSend .tu && s.uplink.flight.isNone) = true
  · have served : s.uplinkChoice = s.serveTiers := if_pos ready
    rw [Bool.and_eq_true, Option.isNone_iff_eq_none] at ready
    rw [served]
    unfold State.serveTiers
    cases found : [State.tier1, State.tier2, State.tier3, State.tier4, State.tier5, State.tier6].findSome?
        (fun tier => tier s) with
    | none => exact .inl rfl
    | some t =>
      obtain ⟨tier, among, took⟩ := List.exists_of_findSome?_eq_some found
      refine .inr ⟨ready.1, ready.2, ?_⟩
      simp only [List.mem_cons, List.not_mem_nil, or_false] at among
      rcases among with rfl | rfl | rfl | rfl | rfl | rfl
      · exact .inl took
      · exact .inr (.inl took)
      · exact .inr (.inr (.inl took))
      · exact .inr (.inr (.inr (.inl took)))
      · exact .inr (.inr (.inr (.inr (.inl took))))
      · exact .inr (.inr (.inr (.inr (.inr took))))
  · exact .inl (if_neg ready)

namespace KeptByEndMoves

section

variable {law : State → Prop} (e : KeptByEndMoves law) (m : KeptByMoves law)
include e

theorem tier1 (s : State) {t : State} (send : s.canSend .tu = true) (took : s.tier1 = some t) (h : law s) : law t := by
  unfold State.tier1 at took
  split at took
  · cases took
  · cases took
    exact e.sendUp _ _ _ send (e.takeDue s _ h)

theorem tier2 (s : State) {t : State} (send : s.canSend .tu = true) (took : s.tier2 = some t) (h : law s) : law t := by
  unfold State.tier2 at took
  split at took
  · cases took
  · next waiting =>
    cases took
    exact e.sendUp _ _ _ send (e.urgentRest s _ _ waiting h)

theorem tier3 (s : State) {t : State} (send : s.canSend .tu = true) (took : s.tier3 = some t) (h : law s) : law t := by
  unfold State.tier3 at took
  split at took
  · cases took
  · next r rest waiting =>
    split at took
    · cases took
      have dropped := e.dropReports s .c0 1 h
      rw [waiting] at dropped
      exact e.sendUp _ _ _ send (e.addEntry _ r dropped)
    · cases took

theorem tier4 (s : State) {t : State} (send : s.canSend .tu = true) (took : s.tier4 = some t) (h : law s) : law t := by
  unfold State.tier4 at took
  split at took
  · cases took
  · next waiting =>
    cases took
    exact e.sendUp _ _ _ send (e.itemsRest s _ _ waiting h)

theorem tier5 (s : State) {t : State} (send : s.canSend .tu = true) (took : s.tier5 = some t) (h : law s) : law t := by
  unfold State.tier5 at took
  split at took
  · cases took
    exact e.sendUp _ _ _ send (e.beaconSent s h)
  · cases took

theorem takeMember (s : State) (mem : Member) (send : s.canSend .tu = true) (h : law s) : law (s.takeMember mem) := by
  unfold State.takeMember
  split
  · exact e.sendUp _ _ _ send (e.dropReports s _ _ h)
  · split
    · exact h
    · next waiting => exact e.sendUp _ _ _ send (e.transitRest s _ _ waiting h)

theorem tier6 (s : State) {t : State} (send : s.canSend .tu = true) (took : s.tier6 = some t) (h : law s) : law t := by
  obtain ⟨turn, -, rfl⟩ := Option.map_eq_some_iff.mp took
  exact e.takeMember _ _ send (e.turn s turn h)

theorem uplinkChoice (s : State) (h : law s) : law s.uplinkChoice := by
  rcases s.uplinkChoice_cases with same | ⟨send, -, took | took | took | took | took | took⟩
  · rw [same]; exact h
  · exact e.tier1 s send took h
  · exact e.tier2 s send took h
  · exact e.tier3 s send took h
  · exact e.tier4 s send took h
  · exact e.tier5 s send took h
  · exact e.tier6 s send took h

theorem takePendingReset (s : State) (h : law s) : law s.takePendingReset := by
  unfold State.takePendingReset
  split
  · exact e.takeReset s _ h
  · exact h

theorem itemEnded (s : State) (i : MqItem) (h : law s) : law (s.itemEnded i) := by
  unfold State.itemEnded
  split
  · exact e.takePendingReset s h
  · exact h

include m

theorem deliverEntry (s : State) (q : Byte) (h : law s) : law (s.deliverEntry q) := m.count _ _ (e.removeEntry s q h)

theorem tellCompleted (s : State) (f : Flight) (h : law s) : law (s.tellCompleted f) := by
  cases f with
  | reports _ rs => exact e.freeSlots s _ h
  | urgent q _ =>
    show law (s.urgentCompleted q)
    unfold State.urgentCompleted
    split
    · exact h
    · split
      · exact e.deliverEntry m s q h
      · exact e.setEntry s _ h
  | transit _ => exact h
  | item i => exact e.itemEnded s i h
  | beacon => exact h

theorem tellAborted (s : State) (late : List (Fin 256)) (f : Flight) (h : law s) : law (s.tellAborted late f) := by
  cases f with
  | reports _ rs => exact m.sendDrops _ _ _ (m.countBy _ _ _ (e.freeSlots s _ h))
  | urgent q _ =>
    show law (s.urgentAborted q)
    unfold State.urgentAborted
    split
    · exact h
    · split
      · exact e.deliverEntry m s q h
      · exact e.makeDue s _ h
  | transit _ => exact m.count s _ h
  | item i => exact e.itemEnded _ i (m.count s _ h)
  | beacon => exact h

theorem tellOwnerCompleted (s : State) (chooseFirst : Bool) (o : Owner) (h : law s) :
    law (s.tellOwnerCompleted chooseFirst o) := by
  cases o with
  | scheduler =>
    show law (s.uplinkCompleted chooseFirst)
    unfold State.uplinkCompleted
    split
    · exact h
    · split
      · exact e.tellCompleted m _ _ (e.uplinkChoice _ (e.clearFlight s h))
      · exact e.tellCompleted m _ _ (e.clearFlight s h)
  | dispatcher => exact h
  | sweepController => exact h
  | relayController =>
    show law s.relayCompleted
    unfold State.relayCompleted
    split
    · exact h
    · next pending => exact e.listen s _ _ pending h
  | nobody => exact h

omit m in
theorem relayLinkDown (s : State) (h : law s) : law s.relayLinkDown := by
  unfold State.relayLinkDown
  split
  · exact h
  · next pending => exact e.endRelay s _ _ _ pending h

theorem tellOwnerAborted (s : State) (late : List (Fin 256)) (o : Owner) (h : law s) : law (s.tellOwnerAborted late o) := by
  cases o with
  | scheduler =>
    show law (s.uplinkAborted late)
    unfold State.uplinkAborted
    split
    · exact h
    · exact e.tellAborted m _ _ _ (e.clearFlight s h)
  | dispatcher => exact m.count s _ h
  | sweepController => exact h
  | relayController => exact e.relayLinkDown s h
  | nobody => exact h

theorem tellNotUp (s : State) (p : Port) (h : law s) : law (s.tellNotUp p) := by
  cases p with
  | tu =>
    show law (if s.mgmt.items.any MqItem.answersReset then s.takePendingReset else s)
    split
    · exact e.takePendingReset s h
    · exact h
  | td => exact m.countBy _ _ _ (e.emptyDfq s h)
  | sg => exact e.relayLinkDown _ (e.dropWaiting s h)

/-- A law that each of these moves keeps is kept by what the owners of transmissions do. -/
theorem owners : KeptByOwners law where
  uplinkChoice := e.uplinkChoice
  endTx := e.endTx
  loseLink := e.loseLink
  completed := e.tellOwnerCompleted m
  aborted := e.tellOwnerAborted m
  notUp := e.tellNotUp m

end

end KeptByEndMoves

/-! ### Closes, act by act -/

/-- The law is kept by each move inside a sweep close and a commit apply. -/
structure KeptByCloseMoves (law : State → Prop) : Prop where
  endCollection (s : State) : law s → law s.endCollection := by intros; assumption
  becomeStopped (s : State) : law s → law s.becomeStopped := by intros; assumption
  becomeQuiet (s : State) : law s → law s.becomeQuiet := by intros; assumption
  startSupervision (s : State) : law s → law s.startSupervision := by intros; assumption
  stopSupervision (s : State) : law s → law s.stopSupervision := by intros; assumption
  applyItems (s : State) (early late : List (Fin 256)) :
    s.mgmt.session.state = .commitPending ∨ rejection s.mergedNodes 0 s.mgmt.session.items = none → law s →
    law (s.applyItems s.applyPlan early late)

/-- The law is kept by an act of a close that is none of the apply, the beacon count and the Controller's own move. -/
theorem KeptByFilter.act {law : State → Prop} (m : KeptByFilter law) (k : CloseKind) (w : Word) (supply : Choice) (x : Closing)
    (a : CloseAct) (notApply : a ≠ .apply) (notBeacon : a ≠ .beacon) (notProceed : a ≠ .proceed) (h : law x.state) :
    law (Closing.act k w supply x a).state := by
  cases a with
  | judge i =>
    show law (x.judge i w).state
    unfold Closing.judge
    split
    · exact h
    · exact m.judgeNode _ i w h
  | take f => exact m.take _ _ _ f h
  | shares => exact m.takeShares _ _ _ h
  | drops => exact m.takeDrops _ _ h
  | duties c => exact m.channelClose _ c w h
  | deliveries => exact m.takeDeliveries _ _ _ h
  | apply => exact absurd rfl notApply
  | beacon => exact absurd rfl notBeacon
  | proceed => exact absurd rfl notProceed

/-- The law is kept by an act of a close that neither applies a commit nor is the Controller's own move. -/
theorem KeptByTakes.act {law : State → Prop} (m : KeptByTakes law) (k : CloseKind) (w : Word) (supply : Choice) (x : Closing)
    (a : CloseAct) (notApply : a ≠ .apply) (notProceed : a ≠ .proceed) (h : law x.state) :
    law (Closing.act k w supply x a).state := by
  by_cases beacon : a = .beacon
  · subst beacon
    exact m.advanceBeacon _ h
  · exact m.toKeptByFilter.act k w supply x a notApply beacon notProceed h

namespace KeptByCloseMoves

section

variable {law : State → Prop} (c : KeptByCloseMoves law) (m : KeptByMoves law)
include c m

omit c in
theorem periodTest (s : State) (h : law s) : law s.periodTest := by
  unfold State.periodTest
  split
  · exact m.trigger s _ h
  · exact h

theorem settingsApplied (old : Settings) (s : State) (h : law s) : law (s.settingsApplied old) := by
  have timer : law (if old.source = .localTimer ∧ s.settings.source = .trunk then s.startSupervision
      else if old.source = .trunk ∧ s.settings.source = .localTimer then s.stopSupervision else s) := by
    split
    · exact c.startSupervision s h
    · split
      · exact c.stopSupervision s h
      · exact h
  unfold State.settingsApplied
  dsimp only
  split
  · exact periodTest m _ timer
  · exact timer

omit m in
theorem sourceApplied (old : Settings) (s : State) (h : law s) : law (s.sourceApplied old) := by
  unfold State.sourceApplied
  split
  · exact c.stopSupervision s h
  · exact h

theorem apply (x : Closing) (k : CloseKind) (early late : List (Fin 256)) (h : law x.state) :
    law (x.apply k early late).state := by
  unfold Closing.apply
  split
  · next pending =>
    have applied := c.applyItems x.state early late (.inl pending) h
    dsimp only
    split
    · exact c.settingsApplied m _ _ applied
    · exact c.sourceApplied _ _ applied
    · exact c.sourceApplied _ _ applied
    · exact c.sourceApplied _ _ applied
  · exact h

theorem afterClose (s : State) (k : CloseKind) (h : law s) : law (s.afterClose k) := by
  unfold State.afterClose
  split
  · split
    · exact c.becomeStopped s h
    · exact periodTest m _ (c.becomeQuiet s h)
  · exact c.becomeStopped s h
  · exact m.trigger s _ h

theorem act (k : CloseKind) (w : Word) (supply : Choice) (x : Closing) (a : CloseAct) (h : law x.state) :
    law (Closing.act k w supply x a).state := by
  by_cases isApply : a = .apply
  · subst isApply; exact c.apply m x k _ _ h
  · by_cases isProceed : a = .proceed
    · subst isProceed; exact c.afterClose m _ k h
    · exact m.act k w supply x a isApply isProceed h

theorem closes : KeptByCloses law := by
  intro s k _ h
  have acts : ∀ (l : List CloseAct) (x : Closing), law x.state →
      law (l.foldl (Closing.act k s.sweep.number s.choice) x).state := by
    intro l
    induction l with
    | nil => exact fun _ hx => hx
    | cons a rest ih => exact fun x hx => ih _ (c.act m k _ _ x a hx)
  unfold State.sweepClose
  exact m.notices _ _ (m.takeShares _ _ _ (acts _ _ (c.endCollection _ (m.dropChoice s h))))

theorem applyNow (s : State) (valid : rejection s.mergedNodes 0 s.mgmt.session.items = none) (h : law s) : law s.applyNow := by
  have applied := c.applyItems s.dropChoice s.choice.dropFirst s.choice.lateDrops (.inr valid) (m.dropChoice s h)
  unfold State.applyNow
  dsimp only
  split
  · exact c.settingsApplied m _ _ applied
  · exact applied

end

end KeptByCloseMoves
/-- A law that every move keeps by itself is kept by every step. -/
theorem keptByStep_of_moves {law : State → Prop} (m : KeptByMoves law) (e : KeptByEndMoves law) (c : KeptByCloseMoves law)
    (a : KeptByRequestMoves law) : KeptByStep law :=
  m.keptByStep ((e.owners m).ends m) (c.closes m) (a.requests m (c.closes m))

end Sys2Proof.Machine
end

section
/-! The law of the Dispatcher's record, kept by every move. -/

namespace Sys2Proof.Machine

/-! ### Capacities of the trunk queues and the own address (R135) -/

/-- The capacities of DFQ, TQ-U and TQ-N, and the range of the own address, as a law of the Dispatcher's record. -/
def TrunkFits (t : Trunk) : Prop :=
  t.own ≤ 30 ∧ t.dfq.length ≤ Config.dfqSlots ∧ t.tqU.length ≤ Config.tqUSlots ∧ t.tqN.length ≤ Config.tqNSlots

/-- Queues that lose frames, or gain one in a free place, still fit. -/
theorem TrunkFits.of_le {t t' : Trunk} (h : TrunkFits t) (own : t'.own = t.own ∨ t'.own ≤ 30)
    (dfq : t'.dfq.length ≤ t.dfq.length ∨ t'.dfq.length ≤ Config.dfqSlots)
    (tqU : t'.tqU.length ≤ t.tqU.length ∨ t'.tqU.length ≤ Config.tqUSlots)
    (tqN : t'.tqN.length ≤ t.tqN.length ∨ t'.tqN.length ≤ Config.tqNSlots) : TrunkFits t' := by
  obtain ⟨h1, h2, h3, h4⟩ := h
  exact ⟨by omega, by omega, by omega, by omega⟩

theorem trunkFits_moves : KeptByMoves (fun s => TrunkFits s.trunk) where
  powerOn _ := ⟨Nat.zero_le _, Nat.zero_le _, Nat.zero_le _, Nat.zero_le _⟩
  urgentTransit s f room h := h.of_le (.inl rfl) (.inl le_rfl) (.inr (by simpa using room)) (.inl le_rfl)
  transit s f room h := h.of_le (.inl rfl) (.inl le_rfl) (.inl le_rfl) (.inr (by simpa using room))
  forward s f room h := h.of_le (.inl rfl) (.inr (by simpa using room)) (.inl le_rfl) (.inl le_rfl)
  own s a ha h := h.of_le (.inr ha) (.inl le_rfl) (.inl le_rfl) (.inl le_rfl)
  dfqSend s f rest waiting _ h := h.of_le (.inl rfl) (.inl (by simp [waiting])) (.inl le_rfl) (.inl le_rfl)

theorem trunkFits_reset (s : State) (scope : Scope) (h : TrunkFits s.trunk) : TrunkFits (s.takeReset scope).trunk := by
  cases scope <;> exact h.of_le (.inl rfl) (.inl (Nat.zero_le _)) (.inl (Nat.zero_le _)) (.inl (Nat.zero_le _))

theorem trunkFits_endMoves : KeptByEndMoves (fun s => TrunkFits s.trunk) where
  urgentRest s f rest waiting h := h.of_le (.inl rfl) (.inl le_rfl) (.inl (by simp [waiting])) (.inl le_rfl)
  transitRest s f rest waiting h := h.of_le (.inl rfl) (.inl le_rfl) (.inl le_rfl) (.inl (by simp [waiting]))
  emptyDfq s h := h.of_le (.inl rfl) (.inl (Nat.zero_le _)) (.inl le_rfl) (.inl le_rfl)
  takeReset := trunkFits_reset

theorem trunkFits_closeMoves : KeptByCloseMoves (fun s => TrunkFits s.trunk) where
  applyItems s early late _ h := by simpa using h

theorem trunkFits_requestMoves : KeptByRequestMoves (fun s => TrunkFits s.trunk) where
  takeReset := trunkFits_reset
  applyNow s _ _ valid h := trunkFits_closeMoves.applyNow trunkFits_moves s valid h

theorem trunkLaw_kept : KeptByStep TrunkLaw :=
  keptByStep_of_moves trunkFits_moves trunkFits_endMoves trunkFits_closeMoves trunkFits_requestMoves

end Sys2Proof.Machine
end

section
/-! The law of MQ's capacity, kept by every move, and the capacities together. -/

namespace Sys2Proof.Machine

/-! ### The offer, case by case (R80) -/

/-- A report offered is admitted, evicts the head of its queue, or is refused (R80). -/
theorem State.offer_cases (s : State) (r : Report) :
    ((s.queue r.cls).length < s.settings.limits.get r.cls ∧ 0 < s.store.free ∧ s.offer r = s.admitReport r) ∨
    (∃ head rest, s.queue r.cls = head :: rest ∧ s.offer r = s.evict r head rest) ∨ s.offer r = s.refuse r := by
  unfold State.offer
  split
  · next room => exact .inl ⟨room.1, room.2, rfl⟩
  · split
    · next head rest _ queue => exact .inr (.inl ⟨head, rest, queue, rfl⟩)
    · exact .inr (.inr rfl)
    · exact .inr (.inr rfl)

/-! ### The capacity of MQ (R148) -/

/-- Items and reserved slots together fill at most the 8 slots (R148). -/
def MqFits (x : Management) : Prop := x.items.length + x.reserved.length ≤ Config.mqSlots

theorem mqFits_offerMq (s : State) (i : MqItem) (h : MqFits s.mgmt) : MqFits (s.offerMq i).mgmt := by
  by_cases room : s.mgmt.items.length + s.mgmt.reserved.length < 8
  · rw [State.offerMq_free s i room]
    show (s.mgmt.items ++ [i]).length + s.mgmt.reserved.length ≤ 8
    rw [List.length_append, List.length_singleton]
    omega
  · rw [State.offerMq_full s i (Nat.le_of_not_lt room)]
    exact h

theorem mqFits_raise (s : State) (k : EventKind) (d : Byte) (w : Word) (h : MqFits s.mgmt) : MqFits (s.raise k d w).mgmt := by
  cases latched : s.latch.latched[k.index] with
  | some o => rw [State.raise_latched s k d w o latched]; exact h
  | none =>
    rw [State.raise_fresh s k d w latched]
    split
    · exact mqFits_offerMq _ _ h
    · exact h

theorem mqFits_offer (s : State) (r : Report) (h : MqFits s.mgmt) : MqFits (s.offer r).mgmt := by
  rcases s.offer_cases r with ⟨-, -, admitted⟩ | ⟨head, rest, -, evicted⟩ | refused
  · rw [admitted]
    show MqFits (if _ then _ else _ : State).mgmt
    split
    · exact mqFits_raise _ _ _ _ h
    · exact h
  · rw [evicted]
    exact mqFits_raise _ _ _ _ h
  · rw [refused]
    show MqFits (if _ then _ else _ : State).mgmt
    split
    · exact mqFits_raise _ _ _ _ h
    · exact mqFits_raise _ _ _ _ h

/-- A response takes the place of its reserved slot (R148). -/
theorem mqFits_respond (s : State) (tag code : Byte) (st : Status) (res : List Byte) (h : MqFits s.mgmt) :
    MqFits (s.respond tag code st res).mgmt := by
  unfold State.respond
  split
  · next reserved =>
    have fewer := List.length_erase_of_mem reserved
    have some := List.length_pos_of_mem reserved
    simp only [MqFits, List.length_append, List.length_singleton] at h ⊢
    omega
  · exact h

theorem mqFits_respondTo (s : State) (code : Byte) (st : Status) (res : List Byte) (h : MqFits s.mgmt) :
    MqFits (s.respondTo code st res).mgmt := by
  unfold State.respondTo
  split
  · exact mqFits_respond s _ _ st res h
  · exact h

theorem mqFits_moves : KeptByMoves (fun s => MqFits s.mgmt) where
  powerOn _ := Nat.zero_le _
  raise := mqFits_raise
  offerMq := mqFits_offerMq
  offer := mqFits_offer
  endRelay s _ _ st res _ _ h := mqFits_respondTo _ 15 st res h

theorem mqFits_endMoves : KeptByEndMoves (fun s => MqFits s.mgmt) where
  itemsRest s i rest waiting h := by
    simp only [MqFits, waiting, List.length_cons] at h ⊢
    omega
  endRelay s _ st res _ h := mqFits_respondTo _ 15 st res h
  takeReset s scope _ := by cases scope <;> exact Nat.zero_le _

theorem mqFits_closeMoves : KeptByCloseMoves (fun s => MqFits s.mgmt) where
  applyItems s early late _ h := by
    unfold State.applyItems
    refine mqFits_respondTo _ 22 .ok [] ?_
    rw [State.sendDrops_mgmt, State.trim_mgmt]
    show MqFits { State.mgmt _ with session := {} }
    rw [State.dropNotices_mgmt]
    exact h

theorem mqFits_requestMoves : KeptByRequestMoves (fun s => MqFits s.mgmt) where
  reserve s tag code room h := by
    simp only [MqFits, State.reserve_items, State.reserve_reserved, List.length_cons, State.mqFree, Config.mqSlots] at room h ⊢
    omega
  respond := mqFits_respond
  takeReset := mqFits_endMoves.takeReset
  applyNow s _ _ valid h := mqFits_closeMoves.applyNow mqFits_moves s valid h

theorem mqLaw_kept : KeptByStep MqLaw :=
  keptByStep_of_moves mqFits_moves mqFits_endMoves mqFits_closeMoves mqFits_requestMoves

/-- Settles O55: the moves that touch MQ or the trunk queues each test for a free place first, or take one out. -/
theorem capacitiesKept : Obligations.CapacitiesKept := ⟨mqLaw_kept, trunkLaw_kept⟩

end Sys2Proof.Machine
end

section
/-! The runtime records of nodes and channels, kept in their ranges by every move. -/

namespace Sys2Proof.Machine

/-! ### Runtime records of nodes (R20) -/

/-- Every entry of a table of runtime records keeps a law where one is replaced by a record that keeps it. -/
theorem Vector.forall_set {α : Type} {n : Nat} {P : Fin n → α → Prop} {v : Vector α n} (i : Fin n) (x : α)
    (hx : P i v[i] → P i x) (h : ∀ j : Fin n, P j v[j]) (j : Fin n) : P j (v.set i x)[j] := by
  by_cases same : i = j
  · subst same
    simpa using hx (h i)
  · have apart : (i : Nat) ≠ j := fun e => same (Fin.ext e)
    simpa [Vector.getElem_set_ne _ _ apart] using h j

/-- Every node's record is in its ranges (R20). -/
def NodesOk (v : Vector NodeRuntime 24) : Prop := ∀ i : Fin 24, NodeRunOk v[i]

theorem nodeRunOk_reset : NodeRunOk {} := ⟨Nat.zero_le _, by simp, by simp⟩

theorem nodesOk_reset : NodesOk (Vector.replicate 24 {}) := fun i => by simpa using nodeRunOk_reset

theorem nodesOk_moves : KeptByMoves (fun s => NodesOk s.nodeRun) where
  powerOn _ := nodesOk_reset
  setNodeRun s i r hr h := Vector.forall_set (P := fun _ => NodeRunOk) i r hr h

theorem nodesOk_takeReset (s : State) (scope : Scope) : NodesOk (s.takeReset scope).nodeRun := by
  cases scope <;> exact nodesOk_reset

theorem nodesOk_endMoves : KeptByEndMoves (fun s => NodesOk s.nodeRun) where
  takeReset s scope _ := nodesOk_takeReset s scope

/-- What the apply leaves of the node and channel records, the gap flags apart: those that the plan names are reset, and of the
others the limit record goes where a limit field changes (R35, R61, R62). -/
theorem State.applyItems_nodeRun (s : State) (plan : ApplyPlan) (early late : List (Fin 256)) :
    (s.applyItems plan early late).nodeRun = s.appliedNodeRun plan := by
  unfold State.applyItems
  simp only [State.respondTo_nodeRun, State.sendDrops_nodeRun, State.trim_nodeRun]
  show (State.dropNotices s _).appliedNodeRun plan = _
  simp [State.appliedNodeRun]

theorem nodesOk_closeMoves : KeptByCloseMoves (fun s => NodesOk s.nodeRun) where
  applyItems s early late _ h := by
    rw [State.applyItems_nodeRun]
    intro i
    simp only [State.appliedNodeRun, Fin.getElem_fin, Vector.getElem_ofFn, Fin.eta]
    split
    · exact nodeRunOk_reset
    · exact h i

theorem nodesOk_requestMoves : KeptByRequestMoves (fun s => NodesOk s.nodeRun) where
  takeReset s scope _ := nodesOk_takeReset s scope
  applyNow s _ _ valid h := nodesOk_closeMoves.applyNow nodesOk_moves s valid h

theorem nodeLaw_kept : KeptByStep NodeLaw :=
  keptByStep_of_moves nodesOk_moves nodesOk_endMoves nodesOk_closeMoves nodesOk_requestMoves

/-! ### Runtime records of channels (R39, R65) -/

section

variable {P : ChanConfig → ChanRuntime → Prop}

/-- Every channel's record keeps a law beside its entry. -/
def ChannelsOk (P : ChanConfig → ChanRuntime → Prop) (cfg : Vector ChanConfig 256) (run : Vector ChanRuntime 256) : Prop :=
  ∀ c : Fin 256, P cfg[c] run[c]

theorem ChannelsOk.set {cfg : Vector ChanConfig 256} {run : Vector ChanRuntime 256} {c : Fin 256} {r : ChanRuntime}
    (hr : P cfg[c] run[c] → P cfg[c] r) (h : ChannelsOk P cfg run) : ChannelsOk P cfg (run.set c r) :=
  Vector.forall_set (P := fun c => P cfg[c]) c r hr h

variable (hP : ∀ cfg a b, ChanChange cfg a b → P cfg a → P cfg b) {s : State}
include hP

theorem channelsOk_setChanRun (c : Fin 256) (r : ChanRuntime) (change : ChanChange s.chanCfg[c] s.chanRun[c] r)
    (h : ChannelsOk P s.chanCfg s.chanRun) : ChannelsOk P (s.setChanRun c r).chanCfg (s.setChanRun c r).chanRun :=
  ChannelsOk.set (hP _ _ _ change) h

theorem channelsOk_dropNotice (c : Fin 256) (h : ChannelsOk P s.chanCfg s.chanRun) :
    ChannelsOk P (s.dropNotice c).chanCfg (s.dropNotice c).chanRun :=
  channelsOk_setChanRun hP c _ (ChanChange.of_same rfl rfl rfl (.inr rfl)) h

theorem channelsOk_sendDrops (late cs : List (Fin 256)) (h : ChannelsOk P s.chanCfg s.chanRun) :
    ChannelsOk P (s.sendDrops late cs).chanCfg (s.sendDrops late cs).chanRun :=
  State.foldl_law (law := fun x => ChannelsOk P x.chanCfg x.chanRun) (fun _ c hx => channelsOk_dropNotice hP c hx) _ _ h

/-- The store's answer to an offer touches the limit record of no channel (R47, R48, R58). -/
theorem channelsOk_offer (r : Report) (h : ChannelsOk P s.chanCfg s.chanRun) :
    ChannelsOk P (s.offer r).chanCfg (s.offer r).chanRun := by
  have admitted : ∀ x : State, ChannelsOk P x.chanCfg x.chanRun →
      ChannelsOk P (x.applyAdmission r).chanCfg (x.applyAdmission r).chanRun :=
    fun x => channelsOk_setChanRun hP _ _ (ChanChange.of_same rfl rfl rfl (.inl (Nat.zero_le _)))
  have refused : ∀ x : State, ChannelsOk P x.chanCfg x.chanRun →
      ChannelsOk P (x.applyRefusal r).chanCfg (x.applyRefusal r).chanRun :=
    fun x => channelsOk_setChanRun hP _ _ (ChanChange.of_same rfl rfl rfl (.inr rfl))
  rcases s.offer_cases r with ⟨-, -, answer⟩ | ⟨head, rest, -, answer⟩ | answer <;> rw [answer]
  · unfold State.admitReport
    dsimp only
    split
    · exact admitted _ (by simpa using h)
    · exact admitted _ (by simpa using h)
  · exact channelsOk_dropNotice hP _ (admitted _ (by simpa using h))
  · unfold State.refuse
    dsimp only
    split
    · exact refused _ (by simpa using h)
    · exact refused _ (by simpa using h)

theorem channelsOk_moves (hr : ∀ c : Fin 256, P State.reset.chanCfg[c] State.reset.chanRun[c]) :
    KeptByMoves (fun s => ChannelsOk P s.chanCfg s.chanRun) where
  powerOn _ := hr
  setChanRun _ := channelsOk_setChanRun hP
  offer _ := channelsOk_offer hP

end

theorem chanRunOk_reset : ChanRunOk {} := ⟨⟨by simp, by simp, by simp, by simp⟩, Nat.zero_le _⟩

theorem channelsOk_ranges_moves : KeptByMoves (fun s => ChannelsOk (fun _ => ChanRunOk) s.chanCfg s.chanRun) :=
  channelsOk_moves (fun _ _ _ change => change.1) (fun c => by simpa [State.reset] using chanRunOk_reset)

theorem channelsOk_ranges_takeReset (s : State) (scope : Scope) :
    ChannelsOk (fun _ => ChanRunOk) (s.takeReset scope).chanCfg (s.takeReset scope).chanRun := by
  intro c
  have reset : (s.takeReset scope).chanRun = Vector.replicate 256 {} := by cases scope <;> rfl
  rw [reset]
  simpa using chanRunOk_reset

theorem channelsOk_ranges_endMoves :
    KeptByEndMoves (fun s => ChannelsOk (fun _ => ChanRunOk) s.chanCfg s.chanRun) where
  takeReset s scope _ := channelsOk_ranges_takeReset s scope

/-- The apply keeps a law of the channels' records beside their entries where the entries it installs allow a reset record, a
record without its limit state, and the old record where no limit field differs (R61, R62, R63). -/
theorem channelsOk_applyItems {P : ChanConfig → ChanRuntime → Prop} (hP : ∀ cfg a b, ChanChange cfg a b → P cfg a → P cfg b)
    {s : State} (plan : ApplyPlan) (early late : List (Fin 256)) (reset : ∀ c : Fin 256, P s.mergedChannels[c] {})
    (limit : ∀ (c : Fin 256) r, P s.chanCfg[c] r → P s.mergedChannels[c] r.limitUnknown)
    (same : ∀ (c : Fin 256) r, limitFieldsDiffer s.chanCfg[c] s.mergedChannels[c] = false → P s.chanCfg[c] r →
      P s.mergedChannels[c] r)
    (h : ChannelsOk P s.chanCfg s.chanRun) :
    ChannelsOk P (s.applyItems plan early late).chanCfg (s.applyItems plan early late).chanRun := by
  have installed : ∀ x : State, x.chanCfg = s.chanCfg → x.mergedChannels = s.mergedChannels →
      ChannelsOk P x.chanCfg x.chanRun → ChannelsOk P (x.install plan).chanCfg (x.install plan).chanRun := by
    intro x cfg merged hx c
    show P x.mergedChannels[c] (x.appliedChanRun plan)[c]
    have hc := hx c
    rw [merged]
    rw [cfg] at hc
    simp only [State.appliedChanRun, Fin.getElem_fin, Vector.getElem_ofFn, Fin.eta]
    split
    · exact reset c
    · split
      · exact limit c _ hc
      · next equal =>
        refine same c _ (Bool.eq_false_iff.mpr fun differ => equal ?_) hc
        simpa only [cfg, merged, Fin.getElem_fin] using differ
  unfold State.applyItems
  simp only [State.respondTo_chanCfg, State.respondTo_chanRun]
  refine channelsOk_sendDrops hP _ _ ?_
  simp only [State.trim_chanCfg, State.trim_chanRun]
  refine installed _ (by simp) (by simp [State.mergedChannels]) ?_
  exact State.foldl_law (law := fun x => ChannelsOk P x.chanCfg x.chanRun) (fun _ c hx => channelsOk_dropNotice hP c hx) _ _ h

/-- Without its limit state a record tracks no candidate (R62, R74). -/
theorem limitUnknown_ok {r : ChanRuntime} (h : ChanRunOk r) : ChanRunOk r.limitUnknown :=
  ⟨⟨by simp [ChanRuntime.limitUnknown], by simp [ChanRuntime.limitUnknown], by simp [ChanRuntime.limitUnknown],
    by simp [ChanRuntime.limitUnknown]⟩, h.2⟩

theorem channelsOk_ranges_closeMoves :
    KeptByCloseMoves (fun s => ChannelsOk (fun _ => ChanRunOk) s.chanCfg s.chanRun) where
  applyItems _ early late _ := channelsOk_applyItems (fun _ _ _ change => change.1) _ early late (fun _ => chanRunOk_reset)
    (fun _ _ => limitUnknown_ok) (fun _ _ _ h => h)

/-- A flush drops reports, not the limit records of their channels (R88). -/
theorem channelsOk_flush {P : ChanConfig → ChanRuntime → Prop} (hP : ∀ cfg a b, ChanChange cfg a b → P cfg a → P cfg b)
    (s : State) (k : ReportClass) (h : ChannelsOk P s.chanCfg s.chanRun) :
    ChannelsOk P (s.flush k).chanCfg (s.flush k).chanRun :=
  channelsOk_sendDrops hP _ _ (by simpa using h)

theorem channelsOk_ranges_requestMoves :
    KeptByRequestMoves (fun s => ChannelsOk (fun _ => ChanRunOk) s.chanCfg s.chanRun) where
  flush := channelsOk_flush (fun _ _ _ change => change.1)
  takeReset s scope _ := channelsOk_ranges_takeReset s scope
  applyNow s _ _ valid h := channelsOk_ranges_closeMoves.applyNow channelsOk_ranges_moves s valid h

theorem channelLaw_kept : KeptByStep ChannelLaw :=
  keptByStep_of_moves channelsOk_ranges_moves channelsOk_ranges_endMoves channelsOk_ranges_closeMoves
    channelsOk_ranges_requestMoves

end Sys2Proof.Machine
end

section
/-! The law of the tables: what the merge of a validated list installs is in order. -/

namespace Sys2Proof.Machine

/-! ### The merge, and what a commit has validated (R163) -/

/-- A merged node entry is that of a staged item of its index, or the active one where none is staged. -/
theorem mergeNode_foldl (items : List StagedItem) (v : Vector NodeConfig 24) (i : Fin 24) :
    (∃ cfg, StagedItem.node i cfg ∈ items ∧ (items.foldl mergeNode v)[i] = cfg) ∨
      (∀ cfg, StagedItem.node i cfg ∉ items) ∧ (items.foldl mergeNode v)[i] = v[i] := by
  induction items generalizing v with
  | nil => exact .inr ⟨by simp, rfl⟩
  | cons item rest ih =>
    rw [List.foldl_cons]
    rcases ih (mergeNode v item) with ⟨cfg, staged, found⟩ | ⟨unstaged, kept⟩
    · exact .inl ⟨cfg, List.mem_cons_of_mem _ staged, found⟩
    · rw [kept]
      cases item with
      | node j cfg =>
        by_cases same : j = i
        · subst same
          exact .inl ⟨cfg, List.mem_cons_self, by simp [mergeNode]⟩
        · have apart : (j : Nat) ≠ i := fun e => same (Fin.ext e)
          refine .inr ⟨fun c => ?_, by simp [mergeNode, Vector.getElem_set_ne _ _ apart]⟩
          simp [unstaged c, Ne.symm same]
      | channel c cfg => exact .inr ⟨by simpa using unstaged, rfl⟩
      | settings t => exact .inr ⟨by simpa using unstaged, rfl⟩

/-- A merged channel entry is that of a staged item of its index, or the active one where none is staged. -/
theorem mergeChannel_foldl (items : List StagedItem) (v : Vector ChanConfig 256) (c : Fin 256) :
    (∃ cfg, StagedItem.channel c cfg ∈ items ∧ (items.foldl mergeChannel v)[c] = cfg) ∨
      (∀ cfg, StagedItem.channel c cfg ∉ items) ∧ (items.foldl mergeChannel v)[c] = v[c] := by
  induction items generalizing v with
  | nil => exact .inr ⟨by simp, rfl⟩
  | cons item rest ih =>
    rw [List.foldl_cons]
    rcases ih (mergeChannel v item) with ⟨cfg, staged, found⟩ | ⟨unstaged, kept⟩
    · exact .inl ⟨cfg, List.mem_cons_of_mem _ staged, found⟩
    · rw [kept]
      cases item with
      | node i cfg => exact .inr ⟨by simpa using unstaged, rfl⟩
      | channel d cfg =>
        by_cases same : d = c
        · subst same
          exact .inl ⟨cfg, List.mem_cons_self, by simp [mergeChannel]⟩
        · have apart : (d : Nat) ≠ c := fun e => same (Fin.ext e)
          refine .inr ⟨fun x => ?_, by simp [mergeChannel, Vector.getElem_set_ne _ _ apart]⟩
          simp [unstaged x, Ne.symm same]
      | settings t => exact .inr ⟨by simpa using unstaged, rfl⟩

/-- The merged settings are those of a staged item, or the active ones where none are staged. -/
theorem mergeSettings_foldl (items : List StagedItem) (t : Settings) :
    StagedItem.settings (items.foldl mergeSettings t) ∈ items ∨
      (∀ t', StagedItem.settings t' ∉ items) ∧ items.foldl mergeSettings t = t := by
  induction items generalizing t with
  | nil => exact .inr ⟨by simp, rfl⟩
  | cons item rest ih =>
    rw [List.foldl_cons]
    rcases ih (mergeSettings t item) with staged | ⟨unstaged, kept⟩
    · exact .inl (List.mem_cons_of_mem _ staged)
    · rw [kept]
      cases item with
      | node i cfg => exact .inr ⟨by simpa using unstaged, rfl⟩
      | channel c cfg => exact .inr ⟨by simpa using unstaged, rfl⟩
      | settings t' => exact .inl List.mem_cons_self

/-- Validation rejects nothing exactly where no item is in violation (R163). -/
theorem rejection_eq_none_iff (nodes : Vector NodeConfig 24) (pos : Nat) (items : List StagedItem) :
    rejection nodes pos items = none ↔ ∀ item ∈ items, violation nodes item = none := by
  induction items generalizing pos with
  | nil => simp [rejection]
  | cons item rest ih =>
    rw [rejection, List.forall_mem_cons]
    cases broken : violation nodes item with
    | none => simp [ih]
    | some reason => simp

theorem NodeConfig.sharesAddress_comm (a b : NodeConfig) : a.sharesAddress b = b.sharesAddress a := by
  rw [Bool.eq_iff_iff]
  simp only [NodeConfig.sharesAddress, Bool.and_eq_true, beq_iff_eq]
  exact ⟨fun ⟨⟨ha, hb⟩, h⟩ => ⟨⟨hb, ha⟩, h.symm⟩, fun ⟨⟨ha, hb⟩, h⟩ => ⟨⟨hb, ha⟩, h.symm⟩⟩

theorem NodeConfig.overlaps_comm (a b : NodeConfig) : a.overlaps b = b.overlaps a := by
  rw [Bool.eq_iff_iff]
  simp only [NodeConfig.overlaps, Bool.and_eq_true, decide_eq_true_eq]
  exact ⟨fun ⟨⟨⟨ha, hb⟩, h⟩, k⟩ => ⟨⟨⟨hb, ha⟩, k⟩, h⟩, fun ⟨⟨⟨ha, hb⟩, h⟩, k⟩ => ⟨⟨⟨hb, ha⟩, k⟩, h⟩⟩

theorem clashes_eq_false_iff (nodes : Vector NodeConfig 24) (i : Fin 24) (test : NodeConfig → NodeConfig → Bool) :
    clashes nodes i test = false ↔ ∀ j : Fin 24, i ≠ j → test nodes[i] nodes[j] = false := by
  simp only [clashes, List.any_eq_false, List.mem_finRange, true_implies, Bool.and_eq_true, bne_iff_ne, not_and,
    Bool.not_eq_true]
  exact forall_congr' fun j => ⟨fun h ne => h ne.symm, fun h ne => h ne.symm⟩

/-- A staged node entry that validation passes clashes with no other (R163). -/
theorem violation_node {nodes : Vector NodeConfig 24} {i : Fin 24} {cfg : NodeConfig}
    (valid : violation nodes (.node i cfg) = none) :
    clashes nodes i NodeConfig.sharesAddress = false ∧ clashes nodes i NodeConfig.overlaps = false := by
  simp only [violation] at valid
  split at valid
  · cases valid
  · next address =>
    split at valid
    · cases valid
    · next range => exact ⟨Bool.eq_false_iff.mpr address, Bool.eq_false_iff.mpr range⟩

/-- A test of two entries that holds of no two active ones and of no staged one holds of no two merged ones. -/
theorem merged_apart {s : State} {test : NodeConfig → NodeConfig → Bool} (comm : ∀ a b, test a b = test b a)
    (active : ∀ i j : Fin 24, i ≠ j → test s.nodeCfg[i] s.nodeCfg[j] = false)
    (staged : ∀ i cfg, StagedItem.node i cfg ∈ s.mgmt.session.items → clashes s.mergedNodes i test = false) (i j : Fin 24)
    (apart : i ≠ j) : test s.mergedNodes[i] s.mergedNodes[j] = false := by
  rcases mergeNode_foldl s.mgmt.session.items s.nodeCfg i with ⟨cfg, here, -⟩ | ⟨-, keptI⟩
  · exact (clashes_eq_false_iff _ _ _).mp (staged i cfg here) j apart
  · rcases mergeNode_foldl s.mgmt.session.items s.nodeCfg j with ⟨cfg, here, -⟩ | ⟨-, keptJ⟩
    · rw [comm]
      exact (clashes_eq_false_iff _ _ _).mp (staged j cfg here) i apart.symm
    · show test (s.mgmt.session.items.foldl mergeNode s.nodeCfg)[i] (s.mgmt.session.items.foldl mergeNode s.nodeCfg)[j] = false
      rw [keptI, keptJ]
      exact active i j apart

/-! ### The law of the tables (R19, R38, R157, R163, R164) -/

/-- The law of the tables, which speaks of the tables, the settings and the session alone. -/
def TablesFit (nodes : Vector NodeConfig 24) (chans : Vector ChanConfig 256) (t : Settings) (x : Session) : Prop :=
  TablesLaw { State.reset with nodeCfg := nodes, chanCfg := chans, settings := t, mgmt := { session := x } }

theorem tablesLaw_iff (s : State) : TablesLaw s ↔ TablesFit s.nodeCfg s.chanCfg s.settings s.mgmt.session := Iff.rfl

/-- The merge of a validated list leaves tables in order (R163, R164). -/
theorem tablesOk_merged {s : State} (h : TablesLaw s)
    (valid : rejection s.mergedNodes 0 s.mgmt.session.items = none) :
    TablesOk { s with nodeCfg := s.mergedNodes, chanCfg := s.mergedChannels, settings := s.mergedSettings } := by
  obtain ⟨⟨nodeRange, addresses, ranges, chans, settingsRange, window⟩, itemRange, -, -, -⟩ := h
  rw [rejection_eq_none_iff] at valid
  refine ⟨fun i => ?_, ?_, ?_, fun c => ?_, ?_, ?_⟩
  · rcases mergeNode_foldl s.mgmt.session.items s.nodeCfg i with ⟨cfg, staged, found⟩ | ⟨-, kept⟩
    · exact (congrArg NodeConfig.inRange found).trans (itemRange _ staged)
    · exact (congrArg NodeConfig.inRange kept).trans (nodeRange i)
  · exact merged_apart NodeConfig.sharesAddress_comm addresses (fun i cfg staged => (violation_node (valid _ staged)).1)
  · exact merged_apart NodeConfig.overlaps_comm ranges (fun i cfg staged => (violation_node (valid _ staged)).2)
  · rcases mergeChannel_foldl s.mgmt.session.items s.chanCfg c with ⟨cfg, staged, found⟩ | ⟨-, kept⟩
    · have ordered := valid _ staged
      simp only [violation, ite_eq_right_iff, reduceCtorEq, imp_false, Bool.not_eq_true] at ordered
      exact ⟨(congrArg ChanConfig.inRange found).trans (itemRange _ staged),
        (congrArg ChanConfig.limitOrderBroken found).trans ordered⟩
    · exact ⟨(congrArg ChanConfig.inRange kept).trans (chans c).1, (congrArg ChanConfig.limitOrderBroken kept).trans (chans c).2⟩
  · rcases mergeSettings_foldl s.mgmt.session.items s.settings with staged | ⟨-, kept⟩
    · exact itemRange _ staged
    · exact (congrArg Settings.inRange kept).trans settingsRange
  · rcases mergeSettings_foldl s.mgmt.session.items s.settings with staged | ⟨-, kept⟩
    · have below := valid _ staged
      simp only [violation, ite_eq_right_iff, reduceCtorEq, imp_false, Nat.not_le] at below
      exact below
    · show (s.mgmt.session.items.foldl mergeSettings s.settings).window <
        (s.mgmt.session.items.foldl mergeSettings s.settings).period
      rw [kept]
      exact window

/-- With a commit pending its list has passed validation (R164). -/
theorem TablesLaw.valid {s : State} (h : TablesLaw s)
    (hv : s.mgmt.session.state = .commitPending ∨ rejection s.mergedNodes 0 s.mgmt.session.items = none) :
    rejection s.mergedNodes 0 s.mgmt.session.items = none := by
  obtain ⟨-, -, -, -, pending⟩ := h
  exact hv.elim pending id

/-- What the apply installs (R165). -/
theorem State.applyItems_installs (s : State) (plan : ApplyPlan) (early late : List (Fin 256)) :
    (s.applyItems plan early late).nodeCfg = s.mergedNodes ∧ (s.applyItems plan early late).chanCfg = s.mergedChannels ∧
      (s.applyItems plan early late).settings = s.mergedSettings ∧ (s.applyItems plan early late).mgmt.session = {} := by
  unfold State.applyItems
  simp only [State.respondTo_nodeCfg, State.respondTo_chanCfg, State.respondTo_settings, State.respondTo_mgmt_session,
    State.sendDrops_nodeCfg, State.sendDrops_chanCfg, State.sendDrops_settings, State.sendDrops_mgmt, State.trim_nodeCfg,
    State.trim_chanCfg, State.trim_settings, State.trim_mgmt]
  refine ⟨?_, ?_, ?_, rfl⟩
  · show State.mergedNodes (State.dropNotices s _) = _
    simp [State.mergedNodes]
  · show State.mergedChannels (State.dropNotices s _) = _
    simp [State.mergedChannels]
  · show State.mergedSettings (State.dropNotices s _) = _
    simp [State.mergedSettings]

theorem tablesLaw_applyItems (s : State) (early late : List (Fin 256))
    (hv : s.mgmt.session.state = .commitPending ∨ rejection s.mergedNodes 0 s.mgmt.session.items = none) (h : TablesLaw s) :
    TablesLaw (s.applyItems s.applyPlan early late) := by
  obtain ⟨nodes, chans, settings, session⟩ := s.applyItems_installs s.applyPlan early late
  rw [tablesLaw_iff, nodes, chans, settings, session]
  exact ⟨tablesOk_merged h (h.valid hv), by simp, by simp, fun _ => rfl, by simp⟩

/-! ### The staging list (R161) -/

/-- A record that replaces that of its target leaves the list's targets as they were. -/
theorem targets_replace {items : List StagedItem} {item : StagedItem} {pos : Nat}
    (found : items.findIdx? item.sameTarget = some pos) :
    (items.set pos item).map StagedItem.targetBytes = items.map StagedItem.targetBytes := by
  obtain ⟨hpos, same, -⟩ := List.findIdx?_eq_some_iff_getElem.mp found
  rw [StagedItem.sameTarget, beq_iff_eq] at same
  rw [List.map_set, same]
  apply List.ext_getElem (by simp)
  intro n h1 h2
  rw [List.getElem_set]
  split
  · next e => subst e; simp
  · rfl

/-- A record of a target not yet in the list joins it as its only one. -/
theorem targets_add {items : List StagedItem} {item : StagedItem} (absent : items.findIdx? item.sameTarget = none)
    (h : (items.map StagedItem.targetBytes).Nodup) : ((items ++ [item]).map StagedItem.targetBytes).Nodup := by
  rw [List.findIdx?_eq_none_iff] at absent
  rw [List.map_append, List.map_singleton, List.nodup_append]
  refine ⟨h, by simp, fun a ha b hb => ?_⟩
  obtain ⟨x, hx, rfl⟩ := List.mem_map.mp ha
  obtain rfl := List.mem_singleton.mp hb
  have other := absent x hx
  rw [StagedItem.sameTarget, beq_eq_false_iff_ne] at other
  exact other.symm

theorem tablesLaw_reset : TablesLaw State.reset := by
  refine ⟨⟨fun i => ?_, fun i j _ => ?_, fun i j _ => ?_, fun c => ?_, by decide, by decide⟩, by simp [State.reset],
    by simp [State.reset], fun _ => rfl, by simp [State.reset]⟩
  · simp [State.reset, NodeConfig.inRange]
  · simp [State.reset, NodeConfig.sharesAddress]
  · simp [State.reset, NodeConfig.overlaps]
  · simp [State.reset, ChanConfig.inRange, ChanConfig.limitOrderBroken]

theorem tablesLaw_takeReset (s : State) (scope : Scope) (h : TablesLaw s) : TablesLaw (s.takeReset scope) := by
  cases scope with
  | runtime => exact ⟨h.1, by simp [State.takeReset, State.runtimeReset, State.reset],
      by simp [State.takeReset, State.runtimeReset, State.reset], fun _ => rfl,
      by simp [State.takeReset, State.runtimeReset, State.reset]⟩
  | tables => exact tablesLaw_reset

/-- A session without items, in NONE or OPEN, keeps the tables as they are (R158, R160). -/
theorem TablesLaw.withoutItems {s : State} (h : TablesLaw s) (x : Session) (items : x.items = [])
    (notPending : x.state ≠ .commitPending) : TablesLaw (s.setSession x) :=
  ⟨h.1, by simp [items], by simp [items], fun _ => items, fun pending => absurd pending notPending⟩

theorem tablesFit_moves : KeptByMoves (fun s => TablesFit s.nodeCfg s.chanCfg s.settings s.mgmt.session) where
  powerOn _ := tablesLaw_reset
  advance _ _ h := h
  expireSession s _ _ h := TablesLaw.withoutItems (s := s) h {} rfl (by simp)

theorem tablesFit_endMoves : KeptByEndMoves (fun s => TablesFit s.nodeCfg s.chanCfg s.settings s.mgmt.session) where
  takeReset := tablesLaw_takeReset

theorem tablesFit_closeMoves : KeptByCloseMoves (fun s => TablesFit s.nodeCfg s.chanCfg s.settings s.mgmt.session) where
  applyItems := tablesLaw_applyItems

theorem TablesLaw.replaceItem {s : State} (h : TablesLaw s) {item : StagedItem} {pos : Nat}
    (opened : s.mgmt.session.state = .opened) (ok : item.inRange = true)
    (found : s.mgmt.session.items.findIdx? item.sameTarget = some pos) :
    TablesLaw (s.setSession { s.mgmt.session with items := s.mgmt.session.items.set pos item }) := by
  obtain ⟨tables, ranges, targets, -, -⟩ := h
  refine ⟨tables, fun x hx => ?_, (targets_replace found).symm ▸ targets, fun none => ?_, fun pending => ?_⟩
  · rcases List.mem_or_eq_of_mem_set hx with old | rfl
    · exact ranges x old
    · exact ok
  · exact absurd (opened.symm.trans none) (by decide)
  · exact absurd (opened.symm.trans pending) (by decide)

theorem TablesLaw.addItem {s : State} (h : TablesLaw s) {item : StagedItem} (opened : s.mgmt.session.state = .opened)
    (ok : item.inRange = true) (absent : s.mgmt.session.items.findIdx? item.sameTarget = none) :
    TablesLaw (s.setSession { s.mgmt.session with items := s.mgmt.session.items ++ [item] }) := by
  obtain ⟨tables, ranges, targets, -, -⟩ := h
  refine ⟨tables, fun x hx => ?_, targets_add absent targets, fun none => ?_, fun pending => ?_⟩
  · rcases List.mem_append.mp hx with old | new
    · exact ranges x old
    · exact List.mem_singleton.mp new ▸ ok
  · exact absurd (opened.symm.trans none) (by decide)
  · exact absurd (opened.symm.trans pending) (by decide)

/-- A list that has passed validation may wait for the close (R164). -/
theorem TablesLaw.commitWaits {s : State} (h : TablesLaw s) (valid : rejection s.mergedNodes 0 s.mgmt.session.items = none) :
    TablesLaw (s.setSession { s.mgmt.session with state := .commitPending, idle := none }) := by
  obtain ⟨tables, ranges, targets, -, -⟩ := h
  exact ⟨tables, ranges, targets, fun none => absurd none (by simp), fun _ => valid⟩

theorem tablesFit_requestMoves :
    KeptByRequestMoves (fun s => TablesFit s.nodeCfg s.chanCfg s.settings s.mgmt.session) where
  takeReset := tablesLaw_takeReset
  openSession s token _ h := TablesLaw.withoutItems (s := s) h _ rfl (by simp)
  restartIdle s _ h := h
  replaceItem s item pos opened ok found h := TablesLaw.replaceItem (s := s) h opened ok found
  addItem s item opened ok absent _ h := TablesLaw.addItem (s := s) h opened ok absent
  discard s _ h := TablesLaw.withoutItems (s := s) h {} rfl (by simp)
  commitWaits s _ _ valid h := TablesLaw.commitWaits (s := s) h valid
  applyNow s _ _ valid h := tablesFit_closeMoves.applyNow tablesFit_moves s valid h

/-- Settles O60: only an apply changes the tables, and what it installs has passed validation. -/
theorem tablesLawKept : Obligations.TablesLawKept :=
  keptByStep_of_moves tablesFit_moves tablesFit_endMoves tablesFit_closeMoves tablesFit_requestMoves

end Sys2Proof.Machine
end

section
/-! The persistence count beside the law of the tables, and the runtime records together. -/

namespace Sys2Proof.Machine

/-! ### The persistence count (R39, R69), beside the law of the tables -/

/-- The count is below the persistence of the channel's entry (R69). -/
def CountBelow (cfg : ChanConfig) (r : ChanRuntime) : Prop := r.count < cfg.persistence

theorem countBelow_change (cfg : ChanConfig) (a b : ChanRuntime) (change : ChanChange cfg a b) (h : CountBelow cfg a) :
    CountBelow cfg b := change.2 h

/-- The tables are in order and every count is below its channel's persistence. -/
def CountedTables (s : State) : Prop :=
  TablesFit s.nodeCfg s.chanCfg s.settings s.mgmt.session ∧ ChannelsOk CountBelow s.chanCfg s.chanRun

/-- Tables in order have a persistence of 1 to 8 in every channel entry (R38). -/
theorem TablesOk.persistence {s : State} (h : TablesOk s) (c : Fin 256) :
    1 ≤ s.chanCfg[c].persistence ∧ s.chanCfg[c].persistence ≤ 8 := by
  obtain ⟨-, -, -, chans, -, -⟩ := h
  have range := (chans c).1
  simp only [ChanConfig.inRange, Bool.and_eq_true, decide_eq_true_eq] at range
  exact ⟨range.1.2, range.2⟩

/-- With every record reset, tables in order allow every count (R38, R39). -/
theorem countedTables_of_fresh {s : State} (h : TablesLaw s) (fresh : s.chanRun = Vector.replicate 256 {}) :
    CountedTables s := by
  refine ⟨h, fun c => ?_⟩
  rw [fresh]
  have some : 0 < s.chanCfg[c].persistence := (h.1.persistence c).1
  simpa [CountBelow] using some

theorem countedTables_takeReset (s : State) (scope : Scope) (h : CountedTables s) : CountedTables (s.takeReset scope) :=
  countedTables_of_fresh (tablesLaw_takeReset s scope h.1) (by cases scope <;> rfl)

/-- Where no limit field differs the persistence is the same (R62). -/
theorem persistence_eq_of_limitFields {a b : ChanConfig} (h : limitFieldsDiffer a b = false) : a.persistence = b.persistence := by
  simp only [limitFieldsDiffer, Bool.or_eq_false_iff, bne_eq_false_iff_eq] at h
  exact h.2

theorem countedTables_applyItems (s : State) (early late : List (Fin 256))
    (hv : s.mgmt.session.state = .commitPending ∨ rejection s.mergedNodes 0 s.mgmt.session.items = none)
    (h : CountedTables s) : CountedTables (s.applyItems s.applyPlan early late) := by
  have some : ∀ c : Fin 256, 1 ≤ s.mergedChannels[c].persistence :=
    fun c => ((tablesOk_merged h.1 (TablesLaw.valid h.1 hv)).persistence c).1
  refine ⟨tablesLaw_applyItems s early late hv h.1, ?_⟩
  refine channelsOk_applyItems countBelow_change _ early late some (fun c _ _ => some c) (fun c r same below => ?_) h.2
  rw [CountBelow, ← persistence_eq_of_limitFields same]
  exact below

theorem countedTables_moves : KeptByMoves CountedTables where
  powerOn _ := countedTables_of_fresh tablesLaw_reset rfl
  advance _ _ h := h
  raise s k d w h := by simpa [CountedTables] using h
  offerMq s i h := by simpa [CountedTables] using h
  setChanRun s c r change h := ⟨h.1, channelsOk_setChanRun countBelow_change c r change h.2⟩
  offer s r h := ⟨by simpa using h.1, channelsOk_offer countBelow_change r h.2⟩
  advanceBeacon s h := by simpa [CountedTables] using h
  removeEntry s e _ _ h := by simpa [CountedTables] using h
  endRelay s _ _ _ _ _ _ h := by simpa [CountedTables] using h
  expireSession s _ _ h := ⟨TablesLaw.withoutItems (s := s) h.1 {} rfl (by simp), h.2⟩

theorem countedTables_endMoves : KeptByEndMoves CountedTables where
  freeSlots s n h := by simpa [CountedTables] using h
  removeEntry s q h := by simpa [CountedTables] using h
  endRelay s _ _ _ _ h := by simpa [CountedTables] using h
  takeReset := countedTables_takeReset

theorem countedTables_closeMoves : KeptByCloseMoves CountedTables where
  applyItems := countedTables_applyItems

theorem countedTables_requestMoves : KeptByRequestMoves CountedTables where
  respond s _ _ _ _ h := by simpa [CountedTables] using h
  clearGroup _ _ _ h := by simpa only [CountedTables, State.clearGroup] using h
  unlatch s set h := by simpa [CountedTables] using h
  flush s k h := ⟨by simpa using h.1, channelsOk_flush countBelow_change s k h.2⟩
  takeReset := countedTables_takeReset
  openSession s token _ h := ⟨TablesLaw.withoutItems (s := s) h.1 _ rfl (by simp), h.2⟩
  restartIdle s _ h := h
  replaceItem s item pos opened ok found h := ⟨TablesLaw.replaceItem (s := s) h.1 opened ok found, h.2⟩
  addItem s item opened ok absent _ h := ⟨TablesLaw.addItem (s := s) h.1 opened ok absent, h.2⟩
  discard s _ h := ⟨TablesLaw.withoutItems (s := s) h.1 {} rfl (by simp), h.2⟩
  commitWaits s _ _ valid h := ⟨TablesLaw.commitWaits (s := s) h.1 valid, h.2⟩
  applyNow s _ _ valid h := countedTables_closeMoves.applyNow countedTables_moves s valid h

/-- Beside tables in order, the law of the count is that it is below the persistence, which is at most 8 (R38, R39). -/
theorem persistenceLaw_iff {s : State} (h : TablesLaw s) : PersistenceLaw s ↔ ChannelsOk CountBelow s.chanCfg s.chanRun := by
  refine ⟨fun law c => (law c).1, fun law c => ⟨law c, ?_⟩⟩
  have below : s.chanRun[c].count < s.chanCfg[c].persistence := law c
  have most := (h.1.persistence c).2
  omega

theorem persistenceLaw_kept (s t : State) (tables : TablesLaw s) (counts : PersistenceLaw s) (h : step s = .next t) :
    PersistenceLaw t := by
  obtain ⟨tables', counts'⟩ : CountedTables t := keptByStep_of_moves countedTables_moves countedTables_endMoves
    countedTables_closeMoves countedTables_requestMoves s t ⟨tables, (persistenceLaw_iff tables).mp counts⟩ h
  exact (persistenceLaw_iff (s := t) tables').mpr counts'

/-- Settles O57: the limit step alone lengthens a run of disagreeing samples, and it stops below the persistence; an apply that
changes the persistence ends the run. -/
theorem runtimeLawsKept : Obligations.RuntimeLawsKept := ⟨channelLaw_kept, nodeLaw_kept, persistenceLaw_kept⟩

end Sys2Proof.Machine
end

section
/-! The store's laws, kept by every move: queues at their depths and the STORE_EMPTY condition. -/

namespace Sys2Proof.Machine

/-! ### What an offer and a raise do to the store and to the latch's copy of STORE_EMPTY (R80, R83) -/

@[simp] theorem State.raise_storeEmpty (s : State) (k : EventKind) (d : Byte) (w : Word) :
    (s.raise k d w).latch.storeEmpty = s.latch.storeEmpty := by
  cases latched : s.latch.latched[k.index] with
  | some o => rw [State.raise_latched s k d w o latched]
  | none =>
    rw [State.raise_fresh s k d w latched]
    split <;> simp

@[simp] theorem State.raiseNow_storeEmpty (s : State) (k : EventKind) (d : Byte) :
    (s.raiseNow k d).latch.storeEmpty = s.latch.storeEmpty := State.raise_storeEmpty _ _ _ _

theorem State.admitReport_store (s : State) (r : Report) :
    (s.admitReport r).store = ⟨s.store.free - 1, s.store.cq.set r.cls (s.queue r.cls ++ [r])⟩ := by
  unfold State.admitReport State.applyAdmission
  dsimp only
  split <;> simp <;> rfl

/-- Taking the last free slot makes STORE_EMPTY true (R83). -/
theorem State.admitReport_storeEmpty (s : State) (r : Report) :
    (s.admitReport r).latch.storeEmpty = if s.store.free - 1 = 0 then true else s.latch.storeEmpty := by
  show (if s.store.free - 1 = 0 then _ else _ : State).latch.storeEmpty = _
  split
  · simp [State.tellStoreEmpty]
  · simp

theorem State.evict_store (s : State) (r head : Report) (rest : List Report) :
    (s.evict r head rest).store = { s.store with cq := s.store.cq.set r.cls (rest ++ [r]) } := by
  unfold State.evict State.applyAdmission
  simp
  rfl

theorem State.evict_storeEmpty (s : State) (r head : Report) (rest : List Report) :
    (s.evict r head rest).latch.storeEmpty = s.latch.storeEmpty := by
  unfold State.evict State.applyAdmission
  simp

theorem State.refuse_storeEmpty (s : State) (r : Report) : (s.refuse r).latch.storeEmpty = s.latch.storeEmpty := by
  unfold State.refuse State.applyRefusal
  dsimp only
  split <;> simp

/-- What an offer does to the store: a report joins in a free slot, takes the place of the head, or is not stored (R80). -/
theorem State.offer_store (s : State) (r : Report) :
    ((s.queue r.cls).length < s.settings.limits.get r.cls ∧ 0 < s.store.free ∧
      (s.offer r).store = ⟨s.store.free - 1, s.store.cq.set r.cls (s.queue r.cls ++ [r])⟩ ∧
      (s.offer r).latch.storeEmpty = if s.store.free - 1 = 0 then true else s.latch.storeEmpty) ∨
    (s.offer r).latch.storeEmpty = s.latch.storeEmpty ∧
      ((∃ head rest, s.queue r.cls = head :: rest ∧
        (s.offer r).store = { s.store with cq := s.store.cq.set r.cls (rest ++ [r]) }) ∨
      (s.offer r).store = s.store) := by
  rcases s.offer_cases r with ⟨room, free, answer⟩ | ⟨head, rest, queue, answer⟩ | answer <;> rw [answer]
  · exact .inl ⟨room, free, s.admitReport_store r, s.admitReport_storeEmpty r⟩
  · exact .inr ⟨s.evict_storeEmpty r head rest, .inl ⟨head, rest, queue, s.evict_store r head rest⟩⟩
  · exact .inr ⟨s.refuse_storeEmpty r, .inr (s.refuse_store r)⟩

/-! ### Class queues within their limits (R79) -/

/-- Every class queue's occupancy is at most its limit. -/
def QueuesFit (cq : Quad (List Report)) (t : Settings) : Prop := ∀ k, (cq.get k).length ≤ t.limits.get k

theorem QueuesFit.set {cq : Quad (List Report)} {t : Settings} {k : ReportClass} {q : List Report}
    (hq : q.length ≤ t.limits.get k) (h : QueuesFit cq t) : QueuesFit (cq.set k q) t := by
  intro j
  by_cases same : j = k
  · subst same
    rw [Quad.get_set_self]
    exact hq
  · rw [Quad.get_set_other _ _ _ _ same]
    exact h j

theorem queuesFit_offer (s : State) (r : Report) (h : QueuesFit s.store.cq s.settings) :
    QueuesFit (s.offer r).store.cq (s.offer r).settings := by
  rw [State.offer_settings]
  rcases s.offer_store r with ⟨room, -, stored, -⟩ | ⟨-, ⟨head, rest, queue, stored⟩ | stored⟩ <;> rw [stored]
  · refine h.set ?_
    rw [List.length_append, List.length_singleton]
    exact room
  · refine h.set ?_
    have before : (head :: rest).length ≤ s.settings.limits.get r.cls := queue ▸ h r.cls
    rw [List.length_append, List.length_singleton]
    exact before
  · exact h

theorem queuesFit_takeReset (s : State) (scope : Scope) : QueuesFit (s.takeReset scope).store.cq (s.takeReset scope).settings := by
  intro k
  cases scope <;> cases k <;> exact Nat.zero_le _

theorem queuesFit_moves : KeptByMoves (fun s => QueuesFit s.store.cq s.settings) where
  powerOn _ k := by cases k <;> exact Nat.zero_le _
  offer := queuesFit_offer
  removeEntry s e _ _ h := by simpa [State.removeEntry] using h

theorem queuesFit_endMoves : KeptByEndMoves (fun s => QueuesFit s.store.cq s.settings) where
  dropReports s k n h := h.set (le_trans (List.length_drop ▸ Nat.sub_le _ _) (h k))
  removeEntry s q h := by simpa [State.removeEntry] using h
  takeReset s scope _ := queuesFit_takeReset s scope

/-- The store after an apply is the trimmed one (R89). -/
theorem State.applyItems_store (s : State) (plan : ApplyPlan) (early late : List (Fin 256)) :
    (∀ k, (s.applyItems plan early late).queue k = (s.queue k).drop (s.excessOf k)) ∧
    ∃ n, n = s.excessOf .c0 + s.excessOf .c1 + s.excessOf .c2 + s.excessOf .c3 ∧
      (s.applyItems plan early late).store.free = s.store.free + n ∧
      (s.applyItems plan early late).latch.storeEmpty = if n = 0 then s.latch.storeEmpty else false := by
  unfold State.applyItems State.queue
  dsimp only
  simp only [State.respondTo_store, State.sendDrops_store, State.respondTo_latch, State.sendDrops_latch]
  generalize lost : State.dropNotices s _ = x
  have store : x.store = s.store := by rw [← lost, State.dropNotices_store]
  have latch : x.latch = s.latch := by rw [← lost, State.dropNotices_latch]
  obtain ⟨queues, ⟨n, sum, free, emptied⟩, -⟩ := State.trim_does (x.install plan) s.mergedSettings.limits
  have queue : ∀ k, (x.install plan).queue k = s.queue k := fun k => congrArg (fun y : Store => y.cq.get k) store
  simp only [queue] at queues sum
  refine ⟨fun k => (queues k).1, n, sum, free.trans (congrArg (fun y : Store => y.free + n) store), ?_⟩
  rw [emptied]
  exact congrArg (fun y : Latch => if n = 0 then y.storeEmpty else false) latch

theorem queuesFit_closeMoves : KeptByCloseMoves (fun s => QueuesFit s.store.cq s.settings) where
  applyItems s early late _ _ k := by
    obtain ⟨queues, -⟩ := s.applyItems_store s.applyPlan early late
    obtain ⟨-, -, settings, -⟩ := s.applyItems_installs s.applyPlan early late
    rw [settings]
    show ((s.applyItems s.applyPlan early late).queue k).length ≤ _
    rw [queues, List.length_drop, State.excessOf]
    omega

theorem queuesFit_requestMoves : KeptByRequestMoves (fun s => QueuesFit s.store.cq s.settings) where
  flush s k h := by
    have emptied : QueuesFit (s.store.cq.set k []) s.settings := h.set (Nat.zero_le _)
    simpa [State.flush] using emptied
  takeReset s scope _ := queuesFit_takeReset s scope
  applyNow s _ _ valid h := queuesFit_closeMoves.applyNow queuesFit_moves s valid h

theorem queuesWithinLimits_kept : KeptByStep QueuesWithinLimits :=
  keptByStep_of_moves queuesFit_moves queuesFit_endMoves queuesFit_closeMoves queuesFit_requestMoves

/-! ### The latch's copy of STORE_EMPTY (R83, R178) -/

/-- STORE_EMPTY is true exactly while no slot is free. -/
def EmptyTrue (copy : Bool) (free : Nat) : Prop := copy = true ↔ free = 0

theorem emptyTrue_freeSlots (s : State) (n : Nat) (h : EmptyTrue s.latch.storeEmpty s.store.free) :
    EmptyTrue (s.freeSlots n).latch.storeEmpty (s.freeSlots n).store.free := by
  by_cases none : n = 0
  · rw [none]
    exact h
  · rw [s.freeSlots_pos n none]
    simp [EmptyTrue, none]

theorem emptyTrue_offer (s : State) (r : Report) (h : EmptyTrue s.latch.storeEmpty s.store.free) :
    EmptyTrue (s.offer r).latch.storeEmpty (s.offer r).store.free := by
  rcases s.offer_store r with ⟨-, free, stored, told⟩ | ⟨told, ⟨head, rest, -, stored⟩ | stored⟩ <;> rw [stored, told]
  · by_cases last : s.store.free - 1 = 0
    · simp [EmptyTrue, last]
    · have notEmpty : ¬ s.latch.storeEmpty = true := fun copy => free.ne' (h.mp copy)
      simp [EmptyTrue, last, notEmpty]
  · exact h
  · exact h

theorem emptyTrue_full : EmptyTrue false 384 := ⟨fun h => absurd h (by decide), fun h => absurd h (by decide)⟩

theorem emptyTrue_takeReset (s : State) (scope : Scope) :
    EmptyTrue (s.takeReset scope).latch.storeEmpty (s.takeReset scope).store.free := by
  cases scope <;> exact emptyTrue_full

theorem emptyTrue_moves : KeptByMoves (fun s => EmptyTrue s.latch.storeEmpty s.store.free) where
  powerOn _ := emptyTrue_full
  offer := emptyTrue_offer
  advanceBeacon s h := by
    unfold State.advanceBeacon
    dsimp only
    split
    · exact h
    · split <;> exact h
  removeEntry s e _ _ h := emptyTrue_freeSlots _ 1 h

theorem emptyTrue_endMoves : KeptByEndMoves (fun s => EmptyTrue s.latch.storeEmpty s.store.free) where
  freeSlots := emptyTrue_freeSlots
  removeEntry s q h := emptyTrue_freeSlots _ 1 h
  takeReset s scope _ := emptyTrue_takeReset s scope

theorem emptyTrue_closeMoves : KeptByCloseMoves (fun s => EmptyTrue s.latch.storeEmpty s.store.free) where
  applyItems s early late _ h := by
    obtain ⟨-, n, -, free, copy⟩ := s.applyItems_store s.applyPlan early late
    rw [free, copy]
    by_cases none : n = 0
    · rw [if_pos none, none]
      exact h
    · rw [if_neg none]
      simp [EmptyTrue, none]

theorem emptyTrue_requestMoves : KeptByRequestMoves (fun s => EmptyTrue s.latch.storeEmpty s.store.free) where
  unlatch s set h := h
  flush s k h := by
    have freed := emptyTrue_freeSlots ((s.dropChoice.setQueue k []).countBy (.reportsDropped k) (s.queue k).length)
      (s.queue k).length h
    simpa [State.flush] using freed
  takeReset s scope _ := emptyTrue_takeReset s scope
  applyNow s _ _ valid h := emptyTrue_closeMoves.applyNow emptyTrue_moves s valid h

theorem storeEmptyTrue_kept : KeptByStep StoreEmptyTrue :=
  keptByStep_of_moves emptyTrue_moves emptyTrue_endMoves emptyTrue_closeMoves emptyTrue_requestMoves

/-- Settles O56: an admission needs a queue below its limit and a free slot, an eviction keeps the length, and an apply trims to
the limits that it installs; the latch is told of the last slot taken, and of every slot that returns. -/
theorem storeLawsKept : Obligations.StoreLawsKept := ⟨queuesWithinLimits_kept, storeEmptyTrue_kept⟩

end Sys2Proof.Machine
end

section
/-! The law of the slots: 384 in all, counted in four places. -/

namespace Sys2Proof.Machine

/-! ### The places of a slot (R78) -/

/-- A queue that is replaced changes the number of reports by its own. -/
theorem Quad.total_set (cq : Quad (List Report)) (k : ReportClass) (q : List Report) :
    (cq.set k q).total + (cq.get k).length = cq.total + q.length := by
  cases k <;> simp only [Quad.total, Quad.set, Quad.get] <;> omega

@[simp] theorem replaceEntry_length (entries : List Entry) (e : Entry) : (replaceEntry entries e).length = entries.length :=
  List.length_map _

/-- An entry that is removed leaves the list one shorter. -/
theorem State.entries_eraseP_length {s : State} {q : Byte} {e : Entry} (found : s.entry q = some e) :
    (s.conf.entries.eraseP (fun e => e.seq == q)).length + 1 = s.conf.entries.length := by
  have held := List.find?_some found
  have isIn := List.mem_of_find?_eq_some found
  rw [List.length_eraseP_of_mem isIn held]
  have := List.length_pos_of_mem isIn
  omega

/-- The four places of a slot, added: free list, class queues, frame in flight, outstanding list. -/
def slotsIn (st : Store) (fl : Option Flight) (outstanding : Nat) : Nat :=
  st.free + st.cq.total + flightReports fl + outstanding

/-- The places of a state hold its 384 slots. -/
def SlotsHold (s : State) : Prop := slotsIn s.store s.uplink.flight s.conf.entries.length = Config.storeSlots

theorem SlotsHold.of_eq {s t : State} (h : SlotsHold s)
    (e : slotsIn t.store t.uplink.flight t.conf.entries.length = slotsIn s.store s.uplink.flight s.conf.entries.length) :
    SlotsHold t := e.trans h

theorem slotsIn_offer (s : State) (r : Report) (fl : Option Flight) (n : Nat) :
    slotsIn (s.offer r).store fl n = slotsIn s.store fl n := by
  unfold slotsIn
  rcases s.offer_store r with ⟨-, free, stored, -⟩ | ⟨-, ⟨head, rest, queue, stored⟩ | stored⟩ <;> rw [stored]
  · have total := s.store.cq.total_set r.cls (s.queue r.cls ++ [r])
    rw [List.length_append, List.length_singleton, State.queue] at total
    simp only [State.queue]
    omega
  · have total := s.store.cq.total_set r.cls (rest ++ [r])
    have before : (s.store.cq.get r.cls).length = rest.length + 1 := congrArg List.length queue
    rw [List.length_append, List.length_singleton] at total
    dsimp only
    omega

/-- An entry that is removed gives its slot to the free list (R87). -/
theorem slotsIn_removeEntry {s : State} {q : Byte} {e : Entry} (found : s.entry q = some e) (fl : Option Flight) :
    slotsIn (s.removeEntry q).store fl (s.removeEntry q).conf.entries.length = slotsIn s.store fl s.conf.entries.length := by
  have fewer := State.entries_eraseP_length found
  show ((State.freeSlots _ 1).store.free + (State.freeSlots _ 1).store.cq.total + flightReports fl +
    (s.conf.entries.eraseP (fun e => e.seq == q)).length) = _
  rw [State.freeSlots_free, State.freeSlots_cq]
  simp only [slotsIn]
  omega

/-- Reports that a flush or a trim removes give their slots to the free list (R88, R89). -/
theorem slotsIn_applyItems (s : State) (plan : ApplyPlan) (early late : List (Fin 256)) (fl : Option Flight) (n : Nat) :
    slotsIn (s.applyItems plan early late).store fl n = slotsIn s.store fl n := by
  obtain ⟨queues, m, sum, free, -⟩ := s.applyItems_store plan early late
  have length : ∀ k, ((s.applyItems plan early late).queue k).length = (s.queue k).length - s.excessOf k := fun k => by
    rw [queues, List.length_drop]
  have most : ∀ k, s.excessOf k ≤ (s.queue k).length := fun k => Nat.sub_le _ _
  have l0 := length .c0
  have l1 := length .c1
  have l2 := length .c2
  have l3 := length .c3
  have m0 := most .c0
  have m1 := most .c1
  have m2 := most .c2
  have m3 := most .c3
  simp only [State.queue, Quad.get] at l0 l1 l2 l3 m0 m1 m2 m3
  simp only [slotsIn, Quad.total, free]
  omega

theorem slotsHold_takeReset (s : State) (scope : Scope) : SlotsHold (s.takeReset scope) := by
  cases scope <;> rfl

theorem slotsHold_moves : KeptByMoves SlotsHold where
  powerOn _ := rfl
  advance s dt h := h.of_eq (by
    show slotsIn s.store s.uplink.flight (if _ then _ else _ : Confirmation).entries.length = _
    split <;> simp)
  raise s k d w h := by simpa [SlotsHold] using h
  offerMq s i h := by simpa [SlotsHold] using h
  offer s r h := h.of_eq (by rw [State.offer_uplink, State.offer_conf, slotsIn_offer])
  advanceBeacon s h := by
    unfold State.advanceBeacon
    dsimp only
    split
    · exact h
    · split <;> exact h
  makeDue s e n _ h := h.of_eq (by simp [State.makeDue, State.setEntry])
  mark s e _ _ h := h.of_eq (by simp [State.setEntry])
  removeEntry s e found _ h := h.of_eq (by rw [State.removeEntry_uplink, slotsIn_removeEntry found])
  endRelay s _ _ _ _ _ _ h := by simpa [SlotsHold] using h

theorem slotsHold_closeMoves : KeptByCloseMoves SlotsHold where
  applyItems s early late _ h := h.of_eq (by rw [State.applyItems_uplink, State.applyItems_conf, slotsIn_applyItems])

theorem slotsHold_requestMoves : KeptByRequestMoves SlotsHold where
  respond s _ _ _ _ h := by simpa [SlotsHold] using h
  clearGroup s _ _ h := h.of_eq (by simp only [State.clearGroup])
  unlatch s set h := by simpa [SlotsHold] using h
  flush s k h := h.of_eq (by
    have total := s.store.cq.total_set k []
    have freed : (s.flush k).store.free = s.store.free + (s.queue k).length ∧ (s.flush k).store.cq = s.store.cq.set k [] := by
      simp [State.flush]
    simp only [State.flush_uplink, State.flush_conf, slotsIn, freed.1, freed.2, State.queue, List.length_nil] at total ⊢
    omega)
  takeReset s scope _ := slotsHold_takeReset s scope
  applyNow s _ _ valid h := slotsHold_closeMoves.applyNow slotsHold_moves s valid h

/-! ### The frame in flight (R78, R103, R104) -/

/-- The slots of a state whose frame in flight is another one. -/
theorem slotsIn_flight (st : Store) (fl : Option Flight) (n : Nat) : slotsIn st fl n = slotsIn st none n + flightReports fl := by
  simp only [slotsIn, flightReports]
  omega

/-- What a choice takes out of its queue stands in the frame in flight or in the outstanding list (R84, R85). -/
theorem slotsIn_uplinkChoice (s : State) : slotsIn s.uplinkChoice.store s.uplinkChoice.uplink.flight
    s.uplinkChoice.conf.entries.length = slotsIn s.store s.uplink.flight s.conf.entries.length := by
  rcases s.uplinkChoice_cases with same | ⟨-, idle, took | took | took | took | took | took⟩
  · rw [same]
  all_goals
    rw [idle]
    generalize s.uplinkChoice = t at took
  · unfold State.tier1 at took
    split at took
    · cases took
    · cases took
      exact congrArg (slotsIn s.store none) (replaceEntry_length _ _)
  · unfold State.tier2 at took
    split at took
    · cases took
    · cases took
      rfl
  · unfold State.tier3 at took
    split at took
    · cases took
    · next r rest waiting =>
      split at took
      · cases took
        have total := s.store.cq.total_set .c0 rest
        have before : (s.store.cq.get .c0).length = rest.length + 1 := congrArg List.length waiting
        show s.store.free + (s.store.cq.set .c0 rest).total + 0 + (s.conf.entries ++ [_]).length = _
        simp only [slotsIn, flightReports, List.length_append, List.length_singleton]
        omega
      · cases took
  · unfold State.tier4 at took
    split at took
    · cases took
    · cases took
      rfl
  · unfold State.tier5 at took
    split at took
    · cases took
      rfl
    · cases took
  · obtain ⟨turn, -, rfl⟩ := Option.map_eq_some_iff.mp took
    unfold State.takeMember
    split
    · next k _ =>
      have total := s.store.cq.total_set k ((s.queue k).drop s.settings.packLimit)
      show s.store.free + (s.store.cq.set k ((s.queue k).drop s.settings.packLimit)).total +
        ((s.queue k).take s.settings.packLimit).length + s.conf.entries.length = _
      simp only [slotsIn, flightReports, List.length_drop, List.length_take, State.queue] at total ⊢
      omega
    · dsimp only
      split
      · exact congrArg (fun f => slotsIn s.store f s.conf.entries.length) idle
      · rfl

/-- The slots told of are those of the contents of a frame whose transmission has ended (R86, R103, R104). -/
theorem slotsIn_urgentCompleted (s : State) (q : Byte) :
    slotsIn (s.urgentCompleted q).store s.uplink.flight (s.urgentCompleted q).conf.entries.length =
      slotsIn s.store s.uplink.flight s.conf.entries.length := by
  unfold State.urgentCompleted
  split
  · rfl
  · next e found =>
    split
    · exact slotsIn_removeEntry found _
    · exact congrArg (slotsIn s.store _) (replaceEntry_length _ _)

theorem slotsIn_urgentAborted (s : State) (q : Byte) :
    slotsIn (s.urgentAborted q).store s.uplink.flight (s.urgentAborted q).conf.entries.length =
      slotsIn s.store s.uplink.flight s.conf.entries.length := by
  unfold State.urgentAborted
  split
  · rfl
  · next e found =>
    split
    · exact slotsIn_removeEntry found _
    · exact congrArg (slotsIn s.store _) (replaceEntry_length _ _)

/-- Slots that return with the reports of a frame (R86). -/
theorem slotsIn_freeSlots (s : State) (n : Nat) (fl : Option Flight) (m : Nat) :
    slotsIn (s.freeSlots n).store fl m = slotsIn s.store fl m + n := by
  simp only [slotsIn, State.freeSlots_free, State.freeSlots_cq]
  omega

/-- A pending reset that is taken, or not, leaves the slots in order. -/
theorem slotsHold_takePendingReset (s : State) (h : SlotsHold s) : SlotsHold s.takePendingReset := by
  unfold State.takePendingReset
  split
  · exact slotsHold_takeReset s _
  · exact h

theorem slotsHold_itemEnded (s : State) (i : MqItem) (h : SlotsHold s) : SlotsHold (s.itemEnded i) := by
  unfold State.itemEnded
  split
  · exact slotsHold_takePendingReset s h
  · exact h

/-- A state in which the slots of a frame's contents stand nowhere, until their owner is told. -/
theorem slotsHold_tellCompleted (s : State) (f : Flight)
    (h : slotsIn s.store s.uplink.flight s.conf.entries.length + flightReports (some f) = Config.storeSlots) :
    SlotsHold (s.tellCompleted f) := by
  cases f with
  | reports m rs =>
    show slotsIn (s.freeSlots rs.length).store (s.freeSlots rs.length).uplink.flight (s.freeSlots rs.length).conf.entries.length = _
    rw [State.freeSlots_uplink, State.freeSlots_conf, slotsIn_freeSlots]
    exact h
  | urgent q again =>
    show slotsIn (s.urgentCompleted q).store (s.urgentCompleted q).uplink.flight (s.urgentCompleted q).conf.entries.length = _
    rw [State.urgentCompleted_uplink, slotsIn_urgentCompleted]
    exact h
  | transit _ => exact h
  | item i => exact slotsHold_itemEnded s i h
  | beacon => exact h

theorem slotsHold_tellAborted (s : State) (late : List (Fin 256)) (f : Flight)
    (h : slotsIn s.store s.uplink.flight s.conf.entries.length + flightReports (some f) = Config.storeSlots) :
    SlotsHold (s.tellAborted late f) := by
  cases f with
  | reports m rs =>
    show SlotsHold (State.sendDrops _ late _)
    rw [SlotsHold, State.sendDrops_uplink, State.sendDrops_conf, State.sendDrops_store]
    show slotsIn (s.freeSlots rs.length).store (s.freeSlots rs.length).uplink.flight (s.freeSlots rs.length).conf.entries.length = _
    rw [State.freeSlots_uplink, State.freeSlots_conf, slotsIn_freeSlots]
    exact h
  | urgent q again =>
    show slotsIn (s.urgentAborted q).store (s.urgentAborted q).uplink.flight (s.urgentAborted q).conf.entries.length = _
    rw [State.urgentAborted_uplink, slotsIn_urgentAborted]
    exact h
  | transit _ => exact h
  | item i => exact slotsHold_itemEnded _ i h
  | beacon => exact h

/-- Before its owner is told, the contents of a frame stand outside the places. -/
theorem slotsIn_clearFlight {s : State} {f : Flight} (flight : s.uplink.flight = some f) (h : SlotsHold s) :
    slotsIn s.clearFlight.store s.clearFlight.uplink.flight s.clearFlight.conf.entries.length + flightReports (some f) =
      Config.storeSlots := by
  rw [SlotsHold, flight, slotsIn_flight] at h
  exact h

theorem slotsHold_completed (s : State) (chooseFirst : Bool) (o : Owner) (h : SlotsHold s) :
    SlotsHold (s.tellOwnerCompleted chooseFirst o) := by
  cases o with
  | scheduler =>
    show SlotsHold (s.uplinkCompleted chooseFirst)
    unfold State.uplinkCompleted
    split
    · exact h
    · next f flight =>
      have outside := slotsIn_clearFlight flight h
      split
      · exact slotsHold_tellCompleted _ f ((congrArg (· + _) (slotsIn_uplinkChoice _)).trans outside)
      · exact slotsHold_tellCompleted _ f outside
  | dispatcher => exact h
  | sweepController => exact h
  | relayController =>
    show SlotsHold s.relayCompleted
    unfold State.relayCompleted
    split <;> exact h
  | nobody => exact h

theorem slotsHold_relayLinkDown (s : State) (h : SlotsHold s) : SlotsHold s.relayLinkDown := by
  unfold State.relayLinkDown
  split
  · exact h
  · simpa [SlotsHold] using h

theorem slotsHold_aborted (s : State) (late : List (Fin 256)) (o : Owner) (h : SlotsHold s) :
    SlotsHold (s.tellOwnerAborted late o) := by
  cases o with
  | scheduler =>
    show SlotsHold (s.uplinkAborted late)
    unfold State.uplinkAborted
    split
    · exact h
    · next f flight => exact slotsHold_tellAborted _ late f (slotsIn_clearFlight flight h)
  | dispatcher => exact h
  | sweepController => exact h
  | relayController => exact slotsHold_relayLinkDown s h
  | nobody => exact h

theorem slotsHold_owners : KeptByOwners SlotsHold where
  uplinkChoice s h := (slotsIn_uplinkChoice s).trans h
  completed := slotsHold_completed
  aborted := slotsHold_aborted
  notUp s p h := by
    cases p with
    | tu =>
      show SlotsHold (if s.mgmt.items.any MqItem.answersReset then s.takePendingReset else s)
      split
      · exact slotsHold_takePendingReset s h
      · exact h
    | td => exact h
    | sg => exact slotsHold_relayLinkDown _ h

/-- Settles O53. -/
theorem slotLawKept : Obligations.SlotLawKept :=
  slotsHold_moves.keptByStep (slotsHold_owners.ends slotsHold_moves) (slotsHold_closeMoves.closes slotsHold_moves)
    (slotsHold_requestMoves.requests slotsHold_moves (slotsHold_closeMoves.closes slotsHold_moves))

end Sys2Proof.Machine
end

section
/-! The law of the outstanding list, kept by every move. -/

namespace Sys2Proof.Machine

/-! ### The outstanding list (R107) -/

/-- The frame in flight is the urgent frame of this sequence number (R92). -/
def urgentInFlight (fl : Option Flight) (q : Byte) : Prop := ∃ again, fl = some (.urgent q again)

theorem not_urgentInFlight_none (q : Byte) : ¬ urgentInFlight none q := nofun

@[simp] theorem urgentInFlight_urgent (q : Byte) (again : Bool) (x : Byte) :
    urgentInFlight (some (.urgent q again)) x ↔ x = q := by
  constructor
  · rintro ⟨_, same⟩
    cases same
    rfl
  · rintro rfl
    exact ⟨again, rfl⟩

/-- The outstanding list is in order, with the numbers whose transmission has not ended. -/
structure ListOk (entries : List Entry) (due : List Byte) (live : Byte → Prop) : Prop where
  few : entries.length ≤ Config.outstandingSlots
  distinct : (entries.map Entry.seq).Nodup
  dueOnce : due.Nodup
  dueHeld : ∀ q ∈ due, ∃ e ∈ entries, e.seq = q
  due_iff : ∀ e ∈ entries, e.seq ∈ due ↔ e.state = .due
  sending_iff : ∀ e ∈ entries, e.state = .sending ↔ live e.seq
  liveHeld : ∀ q, live q → ∃ e ∈ entries, e.seq = q
  acked : ∀ e ∈ entries, e.acked = true → e.state = .sending

/-- Entries of one number are one entry. -/
theorem ListOk.unique {entries : List Entry} {due : List Byte} {live : Byte → Prop} (h : ListOk entries due live) {e e' : Entry}
    (isIn : e ∈ entries) (isIn' : e' ∈ entries) (same : e.seq = e'.seq) : e = e' :=
  List.inj_on_of_nodup_map h.distinct isIn isIn' same

theorem outstandingLaw_iff (s : State) :
    OutstandingLaw s ↔ ListOk s.conf.entries s.conf.due (urgentInFlight s.uplink.flight) := by
  constructor
  · rintro ⟨few, distinct, dueOnce, due, sending, held, acked⟩
    refine ⟨few, distinct, dueOnce, fun q isDue => ?_, fun e isIn => ⟨fun isDue => ?_, fun isDue => ?_⟩, sending,
      fun q ⟨again, flight⟩ => held q again flight, acked⟩
    · obtain ⟨e, isIn, seq, -⟩ := (due q).mp isDue
      exact ⟨e, isIn, seq⟩
    · obtain ⟨e', isIn', seq, state⟩ := (due _).mp isDue
      rwa [List.inj_on_of_nodup_map distinct isIn' isIn seq] at state
    · exact (due _).mpr ⟨e, isIn, rfl, isDue⟩
  · intro h
    refine ⟨h.few, h.distinct, h.dueOnce, fun q => ⟨fun isDue => ?_, ?_⟩, h.sending_iff,
      fun q again flight => h.liveHeld q ⟨again, flight⟩, h.acked⟩
    · obtain ⟨e, isIn, rfl⟩ := h.dueHeld q isDue
      exact ⟨e, isIn, rfl, (h.due_iff e isIn).mp isDue⟩
    · rintro ⟨e, isIn, rfl, isDue⟩
      exact (h.due_iff e isIn).mpr isDue

/-! ### What the operations on the list keep -/

namespace ListOk

section

variable {entries : List Entry} {due : List Byte} {live : Byte → Prop} (h : ListOk entries due live)
include h

theorem live_congr {live' : Byte → Prop} (same : ∀ q, live' q ↔ live q) : ListOk entries due live' := by
  have equal : live' = live := funext fun q => propext (same q)
  rwa [equal]

/-- An entry is replaced by another of its number; the DUE order and the live numbers change at that number alone. -/
theorem replace {e e' : Entry} {due' : List Byte} {live' : Byte → Prop} (isIn : e ∈ entries) (seq : e'.seq = e.seq)
    (once : due'.Nodup) (dueOf : e.seq ∈ due' ↔ e'.state = .due) (dueOthers : ∀ q, q ≠ e.seq → (q ∈ due' ↔ q ∈ due))
    (liveOf : live' e.seq ↔ e'.state = .sending) (liveOthers : ∀ q, q ≠ e.seq → (live' q ↔ live q))
    (ack : e'.acked = true → e'.state = .sending) : ListOk (replaceEntry entries e') due' live' := by
  have numbers : (replaceEntry entries e').map Entry.seq = entries.map Entry.seq := by
    rw [replaceEntry, List.map_map]
    refine List.map_congr_left fun x _ => ?_
    show (if x.seq = e'.seq then e' else x).seq = x.seq
    split
    · next same => exact same.symm
    · rfl
  have held : ∀ q, (∃ x ∈ entries, x.seq = q) → ∃ x ∈ replaceEntry entries e', x.seq = q := fun q found => by
    rw [← List.mem_map] at found ⊢
    rwa [numbers]
  have cases : ∀ x ∈ replaceEntry entries e', x = e' ∨ x ∈ entries ∧ x.seq ≠ e.seq := by
    intro x hx
    obtain ⟨y, hy, rfl⟩ := List.mem_map.mp hx
    split
    · exact .inl rfl
    · next other => exact .inr ⟨hy, fun same => other (same.trans seq.symm)⟩
  refine ⟨by rw [replaceEntry_length]; exact h.few, numbers ▸ h.distinct, once, fun q isDue => held q ?_, ?_, ?_,
    fun q isLive => held q ?_, ?_⟩
  · by_cases same : q = e.seq
    · exact ⟨e, isIn, same.symm⟩
    · exact h.dueHeld q ((dueOthers q same).mp isDue)
  · intro x hx
    rcases cases x hx with rfl | ⟨hx, other⟩
    · rw [seq]; exact dueOf
    · rw [dueOthers _ other]; exact h.due_iff x hx
  · intro x hx
    rcases cases x hx with rfl | ⟨hx, other⟩
    · rw [seq]; exact liveOf.symm
    · rw [liveOthers _ other]; exact h.sending_iff x hx
  · by_cases same : q = e.seq
    · exact ⟨e, isIn, same.symm⟩
    · exact h.liveHeld q ((liveOthers q same).mp isLive)
  · intro x hx
    rcases cases x hx with rfl | ⟨hx, other⟩
    · exact ack
    · exact h.acked x hx

/-- An entry that leaves the list leaves the DUE order too. -/
theorem remove {e : Entry} {live' : Byte → Prop} (gone : ¬ live' e.seq)
    (others : ∀ q, q ≠ e.seq → (live' q ↔ live q)) :
    ListOk (entries.eraseP (fun x => x.seq == e.seq)) (due.erase e.seq) live' := by
  have numbers : (entries.eraseP (fun x => x.seq == e.seq)).map Entry.seq = (entries.map Entry.seq).erase e.seq := by
    rw [List.erase_eq_eraseP, List.eraseP_map]
    refine congrArg (List.map Entry.seq) (congrArg (fun p => entries.eraseP p) (funext fun x => ?_))
    rw [Function.comp_apply, Bool.eq_iff_iff, beq_iff_eq, beq_iff_eq, eq_comm]
  have held : ∀ q, q ≠ e.seq → (∃ x ∈ entries, x.seq = q) →
      ∃ x ∈ entries.eraseP (fun x => x.seq == e.seq), x.seq = q := fun q other found => by
    rw [← List.mem_map] at found ⊢
    rw [numbers]
    exact (List.mem_erase_of_ne other).mpr found
  have rest : ∀ x ∈ entries.eraseP (fun x => x.seq == e.seq), x ∈ entries ∧ x.seq ≠ e.seq := by
    intro x hx
    refine ⟨List.mem_of_mem_eraseP hx, fun same => ?_⟩
    have among := List.mem_map_of_mem (f := Entry.seq) hx
    rw [numbers, same] at among
    exact absurd among h.distinct.not_mem_erase
  refine ⟨(List.length_eraseP_le).trans h.few, numbers ▸ h.distinct.erase _, h.dueOnce.erase _, fun q isDue => ?_, ?_, ?_,
    fun q isLive => ?_, fun x hx => h.acked x (rest x hx).1⟩
  · obtain ⟨other, isDue⟩ := (h.dueOnce.mem_erase_iff).mp isDue
    exact held q other (h.dueHeld q isDue)
  · intro x hx
    obtain ⟨hx, other⟩ := rest x hx
    rw [List.mem_erase_of_ne other]
    exact h.due_iff x hx
  · intro x hx
    obtain ⟨hx, other⟩ := rest x hx
    rw [others _ other]
    exact h.sending_iff x hx
  · have other : q ≠ e.seq := fun same => gone (same ▸ isLive)
    exact held q other (h.liveHeld q ((others q other).mp isLive))

/-- An entry of a number that no entry holds joins the list, SENDING. -/
theorem add {e : Entry} {live' : Byte → Prop} (room : entries.length < Config.outstandingSlots)
    (fresh : e.seq ∉ entries.map Entry.seq) (sending : e.state = .sending) (added : ∀ q, live' q ↔ q = e.seq ∨ live q) :
    ListOk (entries ++ [e]) due live' := by
  have other : ∀ x ∈ entries, x.seq ≠ e.seq := fun x hx same => fresh (List.mem_map.mpr ⟨x, hx, same⟩)
  have notDue : e.seq ∉ due := fun isDue => by
    obtain ⟨x, hx, seq⟩ := h.dueHeld _ isDue
    exact other x hx seq
  refine ⟨by rw [List.length_append]; exact room, ?_, h.dueOnce, fun q isDue => ?_, ?_, ?_, fun q isLive => ?_, ?_⟩
  · rw [List.map_append]
    exact h.distinct.append (List.nodup_singleton _) (by simpa using fresh)
  · obtain ⟨x, hx, seq⟩ := h.dueHeld q isDue
    exact ⟨x, List.mem_append_left _ hx, seq⟩
  · intro x hx
    rcases List.mem_append.mp hx with hx | hx
    · exact h.due_iff x hx
    · obtain rfl := List.mem_singleton.mp hx
      simp [notDue, sending]
  · intro x hx
    rcases List.mem_append.mp hx with hx | hx
    · rw [added, h.sending_iff x hx]
      simp [other x hx]
    · obtain rfl := List.mem_singleton.mp hx
      simp [added, sending]
  · rcases (added q).mp isLive with rfl | isLive
    · exact ⟨e, by simp, rfl⟩
    · obtain ⟨x, hx, seq⟩ := h.liveHeld q isLive
      exact ⟨x, List.mem_append_left _ hx, seq⟩
  · intro x hx ack
    rcases List.mem_append.mp hx with hx | hx
    · exact h.acked x hx ack
    · obtain rfl := List.mem_singleton.mp hx
      exact sending

/-- Time takes no entry out of its state (R110, R113). -/
theorem elapse (dt : Nat) : ListOk (entries.map (Entry.elapse dt)) due live := by
  have due_iff : ∀ e : Entry, (e.elapse dt).state = .due ↔ e.state = .due := fun e => by
    unfold Entry.elapse; split <;> simp_all
  have sending_iff : ∀ e : Entry, (e.elapse dt).state = .sending ↔ e.state = .sending := fun e => by
    unfold Entry.elapse; split <;> simp_all
  have acked : ∀ e : Entry, (e.elapse dt).acked = e.acked := fun e => by unfold Entry.elapse; split <;> rfl
  have numbers : (entries.map (Entry.elapse dt)).map Entry.seq = entries.map Entry.seq := by
    rw [List.map_map]
    exact List.map_congr_left fun x _ => Entry.elapse_seq dt x
  have held : ∀ q, (∃ x ∈ entries, x.seq = q) → ∃ x ∈ entries.map (Entry.elapse dt), x.seq = q := fun q found => by
    rw [← List.mem_map] at found ⊢
    rwa [numbers]
  refine ⟨by rw [List.length_map]; exact h.few, numbers ▸ h.distinct, h.dueOnce, fun q isDue => held q (h.dueHeld q isDue),
    ?_, ?_, fun q isLive => held q (h.liveHeld q isLive), ?_⟩
  all_goals
    intro x hx
    obtain ⟨e, isIn, rfl⟩ := List.mem_map.mp hx
  · rw [due_iff, Entry.elapse_seq]; exact h.due_iff e isIn
  · rw [sending_iff, Entry.elapse_seq]; exact h.sending_iff e isIn
  · rw [acked, sending_iff]; exact h.acked e isIn

/-- A number in the DUE order is not in transmission. -/
theorem not_live_of_due {q : Byte} (isDue : q ∈ due) : ¬ live q := by
  obtain ⟨e, isIn, rfl⟩ := h.dueHeld q isDue
  rw [← h.sending_iff e isIn, (h.due_iff e isIn).mp isDue]
  exact nofun

end

end ListOk

/-- An entry found is in the list. -/
theorem State.entry_mem {s : State} {q : Byte} {e : Entry} (found : s.entry q = some e) : e ∈ s.conf.entries :=
  List.mem_of_find?_eq_some found

/-- The outstanding list of a state, with numbers whose owner is yet to be told of the end of their transmission. -/
def Outstanding (extra : Byte → Prop) (s : State) : Prop :=
  ListOk s.conf.entries s.conf.due (fun q => urgentInFlight s.uplink.flight q ∨ extra q)

namespace Outstanding

theorem of_eq {extra : Byte → Prop} {s t : State} (h : Outstanding extra s) (conf : t.conf = s.conf)
    (uplink : t.uplink = s.uplink) : Outstanding extra t := by
  rwa [Outstanding, conf, uplink]

section

variable {extra : Byte → Prop} {s : State} (h : Outstanding extra s)
include h

/-- An entry that is not in transmission is removed. -/
theorem removeEntry {e : Entry} (found : s.entry e.seq = some e) (still : e.state ≠ .sending) :
    Outstanding extra (s.removeEntry e.seq) := by
  have isIn := State.entry_mem found
  rw [Outstanding, State.removeEntry_uplink]
  exact ListOk.remove h ((h.sending_iff e isIn).not.mp still) fun _ _ => Iff.rfl

/-- An entry told of the end of its transmission is removed (R110, R111). -/
theorem removeEntry_told {e : Entry} (apart : ¬ urgentInFlight s.uplink.flight e.seq) :
    Outstanding (fun q => extra q ∧ q ≠ e.seq) (s.removeEntry e.seq) := by
  rw [Outstanding, State.removeEntry_uplink]
  exact ListOk.remove h (by simp [apart]) fun q other => by simp [other]

/-- An entry in WAITING becomes DUE (R112). -/
theorem makeDue {e : Entry} {n : Nat} (found : s.entry e.seq = some { e with state := .waiting n }) :
    Outstanding extra (s.makeDue e) := by
  have isIn := State.entry_mem found
  have notDue : e.seq ∉ s.conf.due := fun isDue => EntryState.noConfusion ((h.due_iff _ isIn).mp isDue)
  have notLive := (h.sending_iff _ isIn).not.mp nofun
  refine ListOk.replace (due' := s.conf.due ++ [e.seq]) h isIn rfl ?_ (by simp) (fun q other => ?_) (by simpa using notLive) (fun _ _ => Iff.rfl) ?_
  · exact h.dueOnce.append (List.nodup_singleton _) (by simpa using notDue)
  · simp [other]
  · exact fun ack => EntryState.noConfusion (h.acked _ isIn ack)

/-- An entry told of the abort of its transmission becomes DUE (R111). -/
theorem makeDue_told {e e' : Entry} (found : s.entry e.seq = some e) (seq : e'.seq = e.seq) (live : extra e.seq)
    (apart : ¬ urgentInFlight s.uplink.flight e.seq) (notAcked : e'.acked = false) :
    Outstanding (fun q => extra q ∧ q ≠ e.seq) (s.makeDue e') := by
  have isIn := State.entry_mem found
  have notDue : e.seq ∉ s.conf.due := fun isDue => ListOk.not_live_of_due h isDue (.inr live)
  have here : e'.seq ∈ s.conf.due ++ [e'.seq] := by simp
  refine ListOk.replace (due' := s.conf.due ++ [e'.seq]) h isIn seq ?_ ?_ (fun q other => ?_) (by simp [apart]) (fun q other => by simp [other]) ?_
  · rw [seq]
    exact h.dueOnce.append (List.nodup_singleton _) (by simpa using notDue)
  · rw [← seq]
    exact ⟨fun _ => rfl, fun _ => here⟩
  · simp [seq, other]
  · exact fun ack => absurd ack (by simp [notAcked])

/-- An entry told of the completion of its transmission waits for its acknowledgement (R110). -/
theorem waits_told {e : Entry} (found : s.entry e.seq = some e) (live : extra e.seq)
    (apart : ¬ urgentInFlight s.uplink.flight e.seq) (notAcked : e.acked = false) (n : Nat) :
    Outstanding (fun q => extra q ∧ q ≠ e.seq) (s.setEntry { e with state := .waiting n }) := by
  have isIn := State.entry_mem found
  have notDue : e.seq ∉ s.conf.due := fun isDue => ListOk.not_live_of_due h isDue (.inr live)
  exact ListOk.replace (due' := s.conf.due) h isIn rfl h.dueOnce (by simp [notDue]) (fun _ _ => Iff.rfl) (by simp [apart])
    (fun q other => by simp [other]) fun ack => absurd ack (by simp [notAcked])

/-- An entry in SENDING is marked acknowledged (R115). -/
theorem mark {e : Entry} (found : s.entry e.seq = some e) (sending : e.state = .sending) :
    Outstanding extra (s.setEntry { e with acked := true }) := by
  have isIn := State.entry_mem found
  exact ListOk.replace h isIn rfl h.dueOnce (h.due_iff e isIn) (fun _ _ => Iff.rfl) (h.sending_iff e isIn).symm
    (fun _ _ => Iff.rfl) fun _ => sending

/-- The tier 1 take of a DUE entry, with no frame in flight (R114). -/
theorem tier1 {t : State} (idle : s.uplink.flight = none) (took : s.tier1 = some t) :
    Outstanding extra t ∧ ∀ q, urgentInFlight t.uplink.flight q → ¬ extra q := by
  unfold State.tier1 at took
  split at took
  · cases took
  · next e found =>
    cases took
    obtain ⟨q, first, found⟩ := Option.bind_eq_some_iff.mp found
    obtain rfl := State.entry_seq found
    have isIn := State.entry_mem found
    have isDue : e.seq ∈ s.conf.due := List.mem_of_head? first
    have notLive := ListOk.not_live_of_due h isDue
    refine ⟨ListOk.replace h isIn rfl (h.dueOnce.erase _) ?_ (fun q other => List.mem_erase_of_ne other) ?_
      (fun q other => ?_) fun _ => rfl, ?_⟩
    · show e.seq ∈ s.conf.due.erase e.seq ↔ EntryState.sending = .due
      simp [h.dueOnce.mem_erase_iff]
    · exact ⟨fun _ => rfl, fun _ => .inl ⟨true, rfl⟩⟩
    · show urgentInFlight (some (.urgent e.seq true)) q ∨ extra q ↔ _
      simp [other, idle, not_urgentInFlight_none]
    · rintro q ⟨again, same⟩ isExtra
      cases same
      exact notLive (.inr isExtra)

/-- The tier 3 take of a new urgent report, with no frame in flight (R109). -/
theorem tier3 {t : State} (idle : s.uplink.flight = none) (took : s.tier3 = some t) :
    Outstanding extra t ∧ ∀ q, urgentInFlight t.uplink.flight q → ¬ extra q := by
  unfold State.tier3 at took
  split at took
  · cases took
  · next r rest waiting =>
    split at took
    · next room =>
      cases took
      obtain ⟨-, -, -, -, fresh⟩ := freeNumber_finds_free (n := 15) (by decide) (Nat.le_of_lt_succ room) s.conf.nextSeq
      refine ⟨ListOk.add h room fresh rfl fun q => ?_, ?_⟩
      · show urgentInFlight (some (.urgent s.nextNumber false)) q ∨ extra q ↔ _
        simp only [urgentInFlight_urgent, idle, not_urgentInFlight_none, false_or]
        rfl
      · rintro q ⟨again, same⟩ isExtra
        cases same
        obtain ⟨e, isIn, seq⟩ := h.liveHeld _ (.inr isExtra)
        exact fresh (List.mem_map.mpr ⟨e, isIn, seq⟩)
    · cases took

/-- Outside tiers 1 and 3 a choice leaves the list as it is, and sends no urgent frame. -/
theorem other {t : State} (idle : s.uplink.flight = none) (conf : t.conf = s.conf)
    (notUrgent : ∀ q, ¬ urgentInFlight t.uplink.flight q) :
    Outstanding extra t ∧ ∀ q, urgentInFlight t.uplink.flight q → ¬ extra q := by
  refine ⟨?_, fun q live => absurd live (notUrgent q)⟩
  rw [Outstanding, conf]
  exact ListOk.live_congr h fun q => by simp only [notUrgent, idle, not_urgentInFlight_none]

/-- A choice puts no number in flight that is in transmission already, and keeps the list in order. -/
theorem uplinkChoice (apart : ∀ q, urgentInFlight s.uplink.flight q → ¬ extra q) :
    Outstanding extra s.uplinkChoice ∧ ∀ q, urgentInFlight s.uplinkChoice.uplink.flight q → ¬ extra q := by
  rcases s.uplinkChoice_cases with same | ⟨-, idle, took | took | took | took | took | took⟩
  · rw [same]
    exact ⟨h, apart⟩
  · exact h.tier1 idle took
  all_goals generalize s.uplinkChoice = t at took
  · unfold State.tier2 at took
    split at took
    · cases took
    · cases took
      exact h.other idle rfl nofun
  · exact h.tier3 idle took
  · unfold State.tier4 at took
    split at took
    · cases took
    · cases took
      exact h.other idle rfl nofun
  · unfold State.tier5 at took
    split at took
    · cases took
      exact h.other idle rfl nofun
    · cases took
  · obtain ⟨turn, -, rfl⟩ := Option.map_eq_some_iff.mp took
    unfold State.takeMember
    split
    · exact h.other idle rfl nofun
    · dsimp only
      split
      · refine h.other idle rfl fun q => ?_
        simpa [idle] using not_urgentInFlight_none q
      · exact h.other idle rfl nofun

end

end Outstanding

/-! ### The law, kept by every step -/

theorem outstandingLaw_iff_noExtra (s : State) : OutstandingLaw s ↔ Outstanding (fun _ => False) s := by
  simp only [outstandingLaw_iff, Outstanding, or_false]

/-- A list with no entry is in order where nothing is in flight. -/
theorem outstanding_of_empty {s : State} (conf : s.conf = {}) (flight : s.uplink.flight = none) : OutstandingLaw s := by
  rw [outstandingLaw_iff, conf, flight]
  exact ⟨Nat.zero_le _, List.nodup_nil, List.nodup_nil, List.forall_mem_nil _, List.forall_mem_nil _, List.forall_mem_nil _,
    fun q live => absurd live (not_urgentInFlight_none q), List.forall_mem_nil _⟩

theorem outstanding_takeReset (s : State) (scope : Scope) : OutstandingLaw (s.takeReset scope) := by
  cases scope
  · exact outstanding_of_empty (s := s.runtimeReset) rfl rfl
  · exact outstanding_of_empty (s := s.tablesReset) rfl rfl

theorem outstanding_takePendingReset (s : State) (h : OutstandingLaw s) : OutstandingLaw s.takePendingReset := by
  unfold State.takePendingReset
  split
  · exact outstanding_takeReset s _
  · exact h

/-- The owner of an urgent frame is told of its completion: its number is no longer in transmission (R110). -/
theorem Outstanding.urgentCompleted {s : State} {q : Byte} (h : Outstanding (fun x => x = q) s)
    (apart : ¬ urgentInFlight s.uplink.flight q) : OutstandingLaw (s.urgentCompleted q) := by
  rw [outstandingLaw_iff_noExtra]
  have settle : ∀ t, Outstanding (fun x => x = q ∧ x ≠ q) t → Outstanding (fun _ => False) t := fun t ht => by
    simpa using ht
  unfold State.urgentCompleted
  split
  · next absent =>
    obtain ⟨e, isIn, seq⟩ := h.liveHeld q (.inr rfl)
    exact absurd (List.find?_eq_none.mp absent e isIn) (by simpa using seq)
  · next e found =>
    obtain rfl := State.entry_seq found
    split
    · exact settle _ ((h.removeEntry_told apart).of_eq (State.count_conf ..) (State.count_uplink ..))
    · next notAcked => exact settle _ (h.waits_told found rfl apart (Bool.eq_false_iff.mpr notAcked) _)

/-- The owner of an urgent frame is told of its abort: its number is no longer in transmission (R111). -/
theorem Outstanding.urgentAborted {s : State} {q : Byte} (h : Outstanding (fun x => x = q) s)
    (apart : ¬ urgentInFlight s.uplink.flight q) : OutstandingLaw (s.urgentAborted q) := by
  rw [outstandingLaw_iff_noExtra]
  have settle : ∀ t, Outstanding (fun x => x = q ∧ x ≠ q) t → Outstanding (fun _ => False) t := fun t ht => by
    simpa using ht
  unfold State.urgentAborted
  split
  · next absent =>
    obtain ⟨e, isIn, seq⟩ := h.liveHeld q (.inr rfl)
    exact absurd (List.find?_eq_none.mp absent e isIn) (by simpa using seq)
  · next e found =>
    obtain rfl := State.entry_seq found
    split
    · exact settle _ ((h.removeEntry_told apart).of_eq (State.count_conf ..) (State.count_uplink ..))
    · next notAcked =>
      exact settle _ (h.makeDue_told (e' := { e with attempt := e.attempt - 1 }) found rfl rfl apart
        (Bool.eq_false_iff.mpr notAcked))

theorem OutstandingLaw.of_eq {s t : State} (h : OutstandingLaw s) (conf : t.conf = s.conf) (uplink : t.uplink = s.uplink) :
    OutstandingLaw t := by
  rwa [OutstandingLaw, conf, uplink]

/-- With an urgent frame's number live only through the frame told of, the list of a state is in order. -/
theorem Outstanding.law_of_notUrgent {s : State} {f : Flight} (h : Outstanding (urgentInFlight (some f)) s)
    (notUrgent : ∀ q, ¬ urgentInFlight (some f) q) : OutstandingLaw s :=
  (outstandingLaw_iff_noExtra s).mpr (ListOk.live_congr h fun q => by simp [notUrgent])

theorem Outstanding.of_urgent {s : State} {q : Byte} {again : Bool} (h : Outstanding (urgentInFlight (some (.urgent q again))) s) :
    Outstanding (fun x => x = q) s :=
  ListOk.live_congr h fun x => by simp

theorem outstanding_itemEnded (s : State) (i : MqItem) (h : OutstandingLaw s) : OutstandingLaw (s.itemEnded i) := by
  unfold State.itemEnded
  split
  · exact outstanding_takePendingReset s h
  · exact h

theorem outstanding_tellCompleted {s : State} {f : Flight} (h : Outstanding (urgentInFlight (some f)) s)
    (apart : ∀ q, urgentInFlight s.uplink.flight q → ¬ urgentInFlight (some f) q) : OutstandingLaw (s.tellCompleted f) := by
  cases f with
  | reports m rs => exact (h.law_of_notUrgent nofun).of_eq (State.freeSlots_conf ..) (State.freeSlots_uplink ..)
  | urgent q again => exact h.of_urgent.urgentCompleted fun live => apart q live ⟨again, rfl⟩
  | transit _ => exact h.law_of_notUrgent nofun
  | item i => exact outstanding_itemEnded s i (h.law_of_notUrgent nofun)
  | beacon => exact h.law_of_notUrgent nofun

theorem outstanding_tellAborted {s : State} {f : Flight} (late : List (Fin 256)) (h : Outstanding (urgentInFlight (some f)) s)
    (apart : ∀ q, urgentInFlight s.uplink.flight q → ¬ urgentInFlight (some f) q) : OutstandingLaw (s.tellAborted late f) := by
  cases f with
  | reports m rs =>
    refine (h.law_of_notUrgent nofun).of_eq ?_ ?_
    · exact (State.sendDrops_conf ..).trans (State.freeSlots_conf s rs.length)
    · exact (State.sendDrops_uplink ..).trans (State.freeSlots_uplink s rs.length)
  | urgent q again => exact h.of_urgent.urgentAborted fun live => apart q live ⟨again, rfl⟩
  | transit _ => exact h.law_of_notUrgent nofun
  | item i => exact outstanding_itemEnded _ i (h.law_of_notUrgent nofun)
  | beacon => exact h.law_of_notUrgent nofun

/-- The frame in flight, cleared before its owner is told, leaves its number to be told of. -/
theorem OutstandingLaw.clearFlight {s : State} {f : Flight} (h : OutstandingLaw s) (flight : s.uplink.flight = some f) :
    Outstanding (urgentInFlight (some f)) s.clearFlight ∧
      ∀ q, urgentInFlight s.clearFlight.uplink.flight q → ¬ urgentInFlight (some f) q := by
  refine ⟨ListOk.live_congr ((outstandingLaw_iff s).mp h) fun q => ?_, nofun⟩
  show urgentInFlight none q ∨ _ ↔ _
  simp [flight, not_urgentInFlight_none]

theorem outstanding_relayLinkDown (s : State) (h : OutstandingLaw s) : OutstandingLaw s.relayLinkDown := by
  unfold State.relayLinkDown
  split
  · exact h
  · exact h.of_eq (State.endRelay_conf ..) (State.endRelay_uplink ..)

theorem outstanding_owners : KeptByOwners OutstandingLaw where
  uplinkChoice s h := by
    rw [outstandingLaw_iff_noExtra] at h ⊢
    exact (h.uplinkChoice fun _ _ => id).1
  completed s chooseFirst o h := by
    cases o with
    | scheduler =>
      show OutstandingLaw (s.uplinkCompleted chooseFirst)
      unfold State.uplinkCompleted
      split
      · exact h
      · next f flight =>
        obtain ⟨cleared, apart⟩ := h.clearFlight flight
        split
        · obtain ⟨chosen, apart⟩ := cleared.uplinkChoice apart
          exact outstanding_tellCompleted chosen apart
        · exact outstanding_tellCompleted cleared apart
    | dispatcher => exact h
    | sweepController => exact h
    | relayController =>
      show OutstandingLaw s.relayCompleted
      unfold State.relayCompleted
      split <;> exact h
    | nobody => exact h
  aborted s late o h := by
    cases o with
    | scheduler =>
      show OutstandingLaw (s.uplinkAborted late)
      unfold State.uplinkAborted
      split
      · exact h
      · next f flight =>
        obtain ⟨cleared, apart⟩ := h.clearFlight flight
        exact outstanding_tellAborted late cleared apart
    | dispatcher => exact h
    | sweepController => exact h
    | relayController => exact outstanding_relayLinkDown s h
    | nobody => exact h
  notUp s p h := by
    cases p with
    | tu =>
      show OutstandingLaw (if s.mgmt.items.any MqItem.answersReset then s.takePendingReset else s)
      split
      · exact outstanding_takePendingReset s h
      · exact h
    | td => exact h
    | sg => exact outstanding_relayLinkDown _ h

theorem outstanding_moves : KeptByMoves OutstandingLaw where
  powerOn s := outstanding_of_empty (s := s.powerOn) rfl rfl
  advance s dt h := by
    rw [outstandingLaw_iff] at h ⊢
    show ListOk (if _ then _ else _ : Confirmation).entries (if _ then _ else _ : Confirmation).due _
    split
    · exact h.elapse dt
    · exact h
  raise s k d w h := h.of_eq (State.raise_conf ..) (State.raise_uplink ..)
  offerMq s i h := h.of_eq (State.offerMq_conf ..) (State.offerMq_uplink ..)
  offer s r h := h.of_eq (State.offer_conf ..) (State.offer_uplink ..)
  advanceBeacon s h := by
    unfold State.advanceBeacon
    dsimp only
    split
    · exact h
    · split <;> exact h
  makeDue s e n found h := by
    rw [outstandingLaw_iff_noExtra] at h ⊢
    exact h.makeDue found
  mark s e found sending h := by
    rw [outstandingLaw_iff_noExtra] at h ⊢
    exact h.mark found sending
  removeEntry s e found still h := by
    rw [outstandingLaw_iff_noExtra] at h ⊢
    exact h.removeEntry found still
  endRelay s _ _ _ _ _ _ h := h.of_eq (State.endRelay_conf ..) (State.endRelay_uplink ..)

theorem outstanding_closeMoves : KeptByCloseMoves OutstandingLaw where
  applyItems s _ _ _ h := h.of_eq (State.applyItems_conf ..) (State.applyItems_uplink ..)

theorem outstanding_requestMoves : KeptByRequestMoves OutstandingLaw where
  respond s _ _ _ _ h := h.of_eq (State.respond_conf ..) (State.respond_uplink ..)
  clearGroup s _ _ h := h.of_eq (by simp only [State.clearGroup]) (by simp only [State.clearGroup])
  unlatch s _ h := h.of_eq (State.unlatch_conf ..) (State.unlatch_uplink ..)
  flush s _ h := h.of_eq (State.flush_conf ..) (State.flush_uplink ..)
  takeReset s scope _ := outstanding_takeReset s scope
  applyNow s _ _ valid h := outstanding_closeMoves.applyNow outstanding_moves s valid h

/-- Settles O54. -/
theorem outstandingLawKept : Obligations.OutstandingLawKept :=
  outstanding_moves.keptByStep (outstanding_owners.ends outstanding_moves) (outstanding_closeMoves.closes outstanding_moves)
    (outstanding_requestMoves.requests outstanding_moves (outstanding_closeMoves.closes outstanding_moves))

end Sys2Proof.Machine
end

section
/-! Link records in order, kept by every move. -/

namespace Sys2Proof.Machine

/-! ### Link records (R121 to R128) -/

/-- The link records of the three ports are in order. -/
def LinksOk (links : PerPort LinkPort) : Prop := ∀ p, LinkOk p (links.get p)

theorem linksOk_set {links : PerPort LinkPort} {p : Port} {lp : LinkPort} (h : LinksOk links) (ok : LinkOk p lp) :
    LinksOk (links.set p lp) := fun q => by
  by_cases same : q = p
  · subst same
    rw [PerPort.get_set_self]
    exact ok
  · rw [PerPort.get_set_other _ _ _ _ same]
    exact h q

theorem linkOk_down (p : Port) : LinkOk p {} := by
  simp [LinkOk, Config.alignRun, Config.noiseErrors]

theorem linkOk_elapse {p : Port} {lp : LinkPort} (now dt : Nat) (ok : LinkOk p lp) : LinkOk p (lp.elapse now dt) := by
  obtain ⟨h1, h2, h3, h4, h5, h6, h7, h8⟩ := ok
  refine ⟨h1, h2, h3, ?_, fun down => ?_, (List.length_filter_le _ _).trans_lt h6, h7, h8⟩
  · show lp.state = .down ↔ lp.silence.map _ = none
    rw [Option.map_eq_none_iff]
    exact h4
  · show recentErrors now lp.errors = []
    rw [h5 down]
    rfl

theorem Transmission.symbols_pos (t : Transmission) : 0 < t.symbols.length := by
  simp [Transmission.symbols, frameSymbols]

theorem linkOk_transmit {p : Port} {lp : LinkPort} (n : Nat) (ok : LinkOk p lp) : LinkOk p (lp.transmit p n) := by
  obtain ⟨h1, h2, h3, h4, h5, h6, h7, -⟩ := ok
  refine ⟨fun off => ⟨(h1 off).1, ?_⟩, h2, h3, h4, h5, h6, h7, fun t ht => ?_⟩
  · show lp.tx.map _ = none
    rw [(h1 off).2]
    rfl
  · obtain ⟨t', -, rfl⟩ := Option.mem_map.mp ht
    have := t'.symbols_pos
    show min (t'.symbols.length - 1) _ < t'.symbols.length
    omega

theorem linkOk_noTx {p : Port} {lp : LinkPort} (ok : LinkOk p lp) : LinkOk p { lp with tx := none } := by
  obtain ⟨h1, h2, h3, h4, h5, h6, h7, -⟩ := ok
  exact ⟨fun off => ⟨(h1 off).1, rfl⟩, h2, h3, h4, h5, h6, h7, nofun⟩

theorem linkOk_orphan {p : Port} {lp : LinkPort} (ok : LinkOk p lp) : LinkOk p lp.orphan := by
  obtain ⟨h1, h2, h3, h4, h5, h6, h7, h8⟩ := ok
  refine ⟨fun off => ⟨(h1 off).1, ?_⟩, h2, h3, h4, h5, h6, h7, fun t ht => ?_⟩
  · show lp.tx.map _ = none
    rw [(h1 off).2]
    rfl
  · obtain ⟨t', ht', rfl⟩ := Option.mem_map.mp ht
    exact h8 t' ht'

theorem linkOk_startTx {p : Port} {lp : LinkPort} (up : lp.state = .up) (bytes : List Byte) (owner : Owner) (ok : LinkOk p lp) :
    LinkOk p { lp with tx := some ⟨bytes, owner, 0⟩ } := by
  obtain ⟨-, h2, h3, h4, h5, h6, h7, -⟩ := ok
  refine ⟨fun off => absurd up off, h2, h3, h4, h5, h6, h7, fun t ht => ?_⟩
  obtain rfl := Option.mem_some.mp ht
  exact Transmission.symbols_pos _

/-- A port that can send is UP with an idle transmitter (R126). -/
theorem State.canSend_iff (s : State) (p : Port) : s.canSend p = true ↔ (s.link p).state = .up ∧ (s.link p).tx = none := by
  simp [State.canSend, State.isUp]

theorem linksOk_startTx {s : State} {p : Port} (send : s.canSend p = true) (bytes : List Byte) (owner : Owner)
    (h : LinksOk s.links) : LinksOk (s.startTx p bytes owner).links :=
  linksOk_set h (linkOk_startTx ((s.canSend_iff p).mp send).1 bytes owner (h p))

theorem linksOk_takeReset (s : State) (scope : Scope) (h : LinksOk s.links) : LinksOk (s.takeReset scope).links := by
  have orphaned : LinksOk ⟨s.links.tu.orphan, s.links.td.orphan, s.links.sg.orphan⟩ := fun p => by
    cases p with
    | tu => exact linkOk_orphan (h .tu)
    | td => exact linkOk_orphan (h .td)
    | sg => exact linkOk_orphan (h .sg)
  cases scope <;> exact orphaned

theorem linksOk_powerOn (s : State) : LinksOk s.powerOn.links := fun p => by
  have first : s.powerOn.links = ⟨{}, {}, {}⟩ := rfl
  rw [first]
  cases p <;> exact linkOk_down _

theorem linksOk_advance (s : State) (dt : Nat) (h : LinksOk s.links) : LinksOk (s.advance dt).links := fun p => by
  cases p with
  | tu => exact linkOk_elapse _ dt (h .tu)
  | td => exact linkOk_elapse _ dt (h .td)
  | sg => exact linkOk_elapse _ dt (h .sg)

theorem linksOk_transmit (s : State) (n : PerPort Nat) (h : LinksOk s.links) : LinksOk (s.transmit n).links := fun p => by
  cases p with
  | tu => exact linkOk_transmit _ (h .tu)
  | td => exact linkOk_transmit _ (h .td)
  | sg => exact linkOk_transmit _ (h .sg)

theorem linkLaw_moves : KeptByMoves (fun s => LinksOk s.links) where
  powerOn := linksOk_powerOn
  advance := linksOk_advance
  transmit := linksOk_transmit
  link s p lp change h := linksOk_set h (change.2 (h p))
  dfqSend s f rest _ send h := linksOk_startTx (s := { s with trunk := { s.trunk with dfq := rest } }) send f.bytes .dispatcher h
  sendTrigger s n _ send h := linksOk_startTx send _ _ h
  sendCommand s r _ _ send h := linksOk_startTx send _ _ h

theorem linkLaw_endMoves : KeptByEndMoves (fun s => LinksOk s.links) where
  endTx s p h := linksOk_set h (linkOk_noTx (h p))
  loseLink s p h := linksOk_set h (linkOk_down p)
  sendUp s fl f send h := linksOk_startTx (s := { s with uplink := { s.uplink with flight := some fl } }) send f.bytes .scheduler h
  takeReset := linksOk_takeReset

theorem linkLaw_closeMoves : KeptByCloseMoves (fun s => LinksOk s.links) where
  applyItems s _ _ _ h := by simpa using h

theorem linkLaw_requestMoves : KeptByRequestMoves (fun s => LinksOk s.links) where
  takeReset s scope h := linksOk_takeReset s scope h
  applyNow s _ _ valid h := linkLaw_closeMoves.applyNow linkLaw_moves s valid h

theorem linkLaw_kept : KeptByStep LinkLaw :=
  keptByStep_of_moves linkLaw_moves linkLaw_endMoves linkLaw_closeMoves linkLaw_requestMoves

end Sys2Proof.Machine
end

section
/-! Who transmits on which port, kept by every step: the end of a transmission is told to its owner. -/

namespace Sys2Proof.Machine

/-! ### Who transmits on which port (R92, R126, R168) -/

/-- The owner of the transmission under way on a port, among link records. -/
def txOwner (links : PerPort LinkPort) (p : Port) : Option Owner := (links.get p).tx.map Transmission.owner

/-- A port sends for its own users, and for nobody after a reset (R126, R167). -/
def serves : Port → Owner → Prop
  | .tu, o => o = .scheduler ∨ o = .nobody
  | .td, o => o = .dispatcher ∨ o = .nobody
  | .sg, o => o = .sweepController ∨ o = .relayController ∨ o = .nobody

/-- The frame in flight and the relay agree with the transmissions under way, and link records are in order. -/
structure Transmitting (flight : Option Flight) (relay : Option PendingRelay) (links : PerPort LinkPort) : Prop where
  records : LinksOk links
  users : ∀ p, ∀ o ∈ txOwner links p, serves p o
  flying : flight.isSome = true ↔ txOwner links .tu = some .scheduler
  relaying : relay.map PendingRelay.phase = some .sending ↔ txOwner links .sg = some .relayController

/-- A state whose transmissions are in order. -/
abbrev TransmitsOk (s : State) : Prop := Transmitting s.uplink.flight s.relay s.links

theorem transmitsOk_iff (s : State) : TransmitsOk s ↔ LinkLaw s ∧ TransmissionLaw s := by
  constructor
  · rintro ⟨links, users, flying, relaying⟩
    exact ⟨links, flying, relaying, users .tu, users .td, users .sg⟩
  · rintro ⟨links, flying, relaying, tu, td, sg⟩
    exact ⟨links, fun p => by cases p <;> assumption, flying, relaying⟩

theorem Transmitting.of_eq {s t : State} (h : TransmitsOk s) (uplink : t.uplink = s.uplink) (relay : t.relay = s.relay)
    (links : t.links = s.links) : TransmitsOk t := by
  rwa [TransmitsOk, uplink, relay, links]

theorem txOwner_set_self (links : PerPort LinkPort) (p : Port) (lp : LinkPort) :
    txOwner (links.set p lp) p = lp.tx.map Transmission.owner := by
  rw [txOwner, PerPort.get_set_self]

theorem txOwner_set_other (links : PerPort LinkPort) {p q : Port} (lp : LinkPort) (other : q ≠ p) :
    txOwner (links.set p lp) q = txOwner links q := by
  rw [txOwner, PerPort.get_set_other _ _ _ _ other, txOwner]

/-- Records that keep their owners keep what stands on owners. -/
theorem Transmitting.congr_links {flight : Option Flight} {relay : Option PendingRelay} {links links' : PerPort LinkPort}
    (h : Transmitting flight relay links) (ok : LinksOk links') (owners : ∀ p, txOwner links' p = txOwner links p) :
    Transmitting flight relay links' where
  records := ok
  users p := owners p ▸ h.users p
  flying := owners .tu ▸ h.flying
  relaying := owners .sg ▸ h.relaying

/-- With no frame in flight and no relay, a reset leaves transmissions that are told to nobody (R167). -/
theorem transmitsOk_takeReset (s : State) (scope : Scope) (h : LinksOk s.links) : TransmitsOk (s.takeReset scope) := by
  have owners : ∀ p, ∀ o ∈ txOwner ⟨s.links.tu.orphan, s.links.td.orphan, s.links.sg.orphan⟩ p, o = .nobody := by
    intro p o ho
    have orphan : ∀ lp : LinkPort, ∀ o ∈ lp.orphan.tx.map Transmission.owner, o = .nobody := by
      intro lp o ho
      simp only [LinkPort.orphan, Option.map_map, Option.mem_def, Option.map_eq_some_iff] at ho
      obtain ⟨t, -, rfl⟩ := ho
      rfl
    cases p with
    | tu => exact orphan _ o ho
    | td => exact orphan _ o ho
    | sg => exact orphan _ o ho
  have links := linksOk_takeReset s scope h
  cases scope
  all_goals
    refine ⟨links, fun p o ho => ?_, ⟨nofun, fun own => ?_⟩, ⟨nofun, fun own => ?_⟩⟩
    · obtain rfl := owners p o ho
      cases p <;> simp [serves]
    · exact absurd (owners .tu _ own) nofun
    · exact absurd (owners .sg _ own) nofun

theorem transmitsOk_powerOn (s : State) : TransmitsOk s.powerOn :=
  ⟨linksOk_powerOn s, fun p => by cases p <;> exact nofun, ⟨nofun, nofun⟩, ⟨nofun, nofun⟩⟩

theorem PendingRelay.elapse_sending (dt : Nat) (r : PendingRelay) : (r.elapse dt).phase = .sending ↔ r.phase = .sending := by
  unfold PendingRelay.elapse
  split <;> simp_all

theorem transmitsOk_advance (s : State) (dt : Nat) (h : TransmitsOk s) : TransmitsOk (s.advance dt) := by
  have phase : ∀ relay : Option PendingRelay, (relay.map (PendingRelay.elapse dt)).map PendingRelay.phase = some .sending ↔
      relay.map PendingRelay.phase = some .sending := by
    rintro (_ | r)
    · exact Iff.rfl
    · simpa using PendingRelay.elapse_sending dt r
  have relayed : Transmitting s.uplink.flight (s.relay.map (PendingRelay.elapse dt)) s.links :=
    ⟨h.records, h.users, h.flying, (phase s.relay).trans h.relaying⟩
  exact relayed.congr_links (linksOk_advance s dt h.records) fun p => by cases p <;> rfl

theorem transmitsOk_transmit (s : State) (n : PerPort Nat) (h : TransmitsOk s) : TransmitsOk (s.transmit n) := by
  refine h.congr_links (linksOk_transmit s n h.records) fun p => ?_
  have sent : ∀ (q : Port) (k : Nat) (lp : LinkPort), (lp.transmit q k).tx.map Transmission.owner =
      lp.tx.map Transmission.owner := fun q k lp => by
    simp only [LinkPort.transmit, Option.map_map]
    rfl
  cases p <;> exact sent ..

/-- A frame handed to an idle transmitter by a user of its port; what stands on that port's owner is shown anew. -/
theorem Transmitting.startTx {s : State} {p : Port} {o : Owner} (h : TransmitsOk s) (send : s.canSend p = true) (bytes : List Byte)
    (user : serves p o) {flight : Option Flight} {relay : Option PendingRelay}
    (flying : if p = .tu then (flight.isSome = true ↔ o = .scheduler) else flight = s.uplink.flight)
    (relaying : if p = .sg then (relay.map PendingRelay.phase = some .sending ↔ o = .relayController) else relay = s.relay) :
    Transmitting flight relay (s.startTx p bytes o).links := by
  have ofPort : txOwner (s.startTx p bytes o).links p = some o := txOwner_set_self ..
  have ofOther : ∀ q, q ≠ p → txOwner (s.startTx p bytes o).links q = txOwner s.links q := fun q => txOwner_set_other _ _
  refine ⟨linksOk_startTx send bytes o h.records, fun q x hx => ?_, ?_, ?_⟩
  · by_cases same : q = p
    · subst same
      rw [ofPort] at hx
      obtain rfl := Option.mem_some.mp hx
      exact user
    · rw [ofOther q same] at hx
      exact h.users q x hx
  · split at flying
    · next same =>
      subst same
      rw [ofPort, flying, Option.some.injEq]
    · next other =>
      rw [ofOther _ (Ne.symm other), flying]
      exact h.flying
  · split at relaying
    · next same =>
      subst same
      rw [ofPort, relaying, Option.some.injEq]
    · next other =>
      rw [ofOther _ (Ne.symm other), relaying]
      exact h.relaying

theorem transmitsOk_sendUp {s : State} (h : TransmitsOk s) (send : s.canSend .tu = true) (fl : Flight) (f : TrunkFrame) :
    TransmitsOk (s.sendUp fl f) :=
  h.startTx (flight := some fl) send f.bytes (.inl rfl) (by simp) rfl

/-- An end of the relay that is not on the line leaves transmissions as they are. -/
theorem transmitsOk_endRelay {s : State} (st : Status) (res : List Byte) (h : TransmitsOk s)
    (still : s.relay.map PendingRelay.phase ≠ some .sending) : TransmitsOk (s.endRelay st res) := by
  have relayless : Transmitting s.uplink.flight none s.links :=
    ⟨h.records, h.users, h.flying, ⟨nofun, fun own => absurd (h.relaying.mpr own) still⟩⟩
  have relay : (s.endRelay st res).relay = none := State.respondTo_relay ..
  rwa [TransmitsOk, State.endRelay_uplink, State.endRelay_links, relay]

theorem transmitsOk_moves : KeptByMoves TransmitsOk where
  powerOn := transmitsOk_powerOn
  advance := transmitsOk_advance
  transmit := transmitsOk_transmit
  raise s k d w h := h.of_eq (State.raise_uplink ..) (State.raise_relay ..) (State.raise_links ..)
  link s p lp change h := h.congr_links (linksOk_set h.records (change.2 (h.records p))) fun q => by
    by_cases same : q = p
    · subst same
      exact (txOwner_set_self ..).trans (congrArg (Option.map Transmission.owner) change.1)
    · exact txOwner_set_other _ _ same
  offerMq s i h := h.of_eq (State.offerMq_uplink ..) (State.offerMq_relay ..) (State.offerMq_links ..)
  dfqSend s f rest _ send h := Transmitting.startTx h send f.bytes (.inl rfl) rfl rfl
  sendTrigger s n _ send h := Transmitting.startTx h send _ (.inl rfl) rfl (by
    have idle : txOwner s.links .sg = none := congrArg (Option.map Transmission.owner) ((s.canSend_iff .sg).mp send).2
    simp [h.relaying, idle])
  sendCommand s r _ _ send h := Transmitting.startTx h send _ (.inr (.inl rfl)) rfl (by simp)
  offer s r h := h.of_eq (State.offer_uplink ..) (State.offer_relay ..) (State.offer_links ..)
  advanceBeacon s h := by
    unfold State.advanceBeacon
    dsimp only
    split
    · exact h
    · split <;> exact h
  removeEntry s e _ _ h := h.of_eq (State.removeEntry_uplink ..) (State.removeEntry_relay ..) (State.removeEntry_links ..)
  endRelay s r n st res pending listening h := transmitsOk_endRelay st res h (by simp [pending, listening])

theorem transmitsOk_closeMoves : KeptByCloseMoves TransmitsOk where
  applyItems s _ _ _ h := h.of_eq (State.applyItems_uplink ..) (State.applyItems_relay ..) (State.applyItems_links ..)

theorem transmitsOk_requestMoves : KeptByRequestMoves TransmitsOk where
  respond s _ _ _ _ h := h.of_eq (State.respond_uplink ..) (State.respond_relay ..) (State.respond_links ..)
  clearGroup s _ _ h := h.of_eq (by simp only [State.clearGroup]) (by simp only [State.clearGroup]) (by simp only [State.clearGroup])
  unlatch s _ h := h.of_eq (State.unlatch_uplink ..) (State.unlatch_relay ..) (State.unlatch_links ..)
  flush s _ h := h.of_eq (State.flush_uplink ..) (State.flush_relay ..) (State.flush_links ..)
  queueRelay s _ _ free h := ⟨h.records, h.users, h.flying, by
    have relaying := h.relaying
    rw [free] at relaying
    rw [← relaying]
    simp⟩
  takeReset s scope h := transmitsOk_takeReset s scope h.records
  applyNow s _ _ valid h := transmitsOk_closeMoves.applyNow transmitsOk_moves s valid h

/-- A choice of the Scheduler puts a frame in flight on an idle transmitter, or changes no transmission (R93). -/
theorem transmitsOk_uplinkChoice (s : State) (h : TransmitsOk s) : TransmitsOk s.uplinkChoice := by
  have sends : ∀ (t : State) (fl : Flight) (f : TrunkFrame), t.uplink.flight = s.uplink.flight → t.relay = s.relay →
      t.links = s.links → s.canSend .tu = true → TransmitsOk (t.sendUp fl f) := by
    intro t fl f flight relay links send
    refine transmitsOk_sendUp ?_ ?_ fl f
    · rwa [TransmitsOk, flight, relay, links]
    · rwa [State.canSend_iff, State.link, links, ← State.link, ← State.canSend_iff]
  rcases s.uplinkChoice_cases with same | ⟨send, -, took | took | took | took | took | took⟩
  · rw [same]
    exact h
  all_goals generalize s.uplinkChoice = t at took
  · unfold State.tier1 at took
    split at took
    · cases took
    · cases took
      exact sends _ _ _ rfl rfl rfl send
  · unfold State.tier2 at took
    split at took
    · cases took
    · cases took
      exact sends _ _ _ rfl rfl rfl send
  · unfold State.tier3 at took
    split at took
    · cases took
    · split at took
      · cases took
        exact sends _ _ _ rfl rfl rfl send
      · cases took
  · unfold State.tier4 at took
    split at took
    · cases took
    · cases took
      exact sends _ _ _ rfl rfl rfl send
  · unfold State.tier5 at took
    split at took
    · cases took
      exact sends _ _ _ rfl rfl rfl send
    · cases took
  · obtain ⟨turn, -, rfl⟩ := Option.map_eq_some_iff.mp took
    unfold State.takeMember
    split
    · exact sends _ _ _ rfl rfl rfl send
    · split
      · exact h
      · exact sends _ _ _ rfl rfl rfl send

/-! ### The end of a transmission (R126, R127) -/

section

variable {law : State → Prop}
  (view : ∀ s t : State, t.uplink = s.uplink → t.relay = s.relay → t.links = s.links → law s → law t)
  (reset : ∀ (s : State) (scope : Scope), law s → law (s.takeReset scope))
include reset

theorem takePendingReset_keeps {s : State} (h : law s) : law s.takePendingReset := by
  unfold State.takePendingReset
  split
  · exact reset s _ h
  · exact h

theorem itemEnded_keeps {s : State} (i : MqItem) (h : law s) : law (s.itemEnded i) := by
  unfold State.itemEnded
  split
  · exact takePendingReset_keeps reset h
  · exact h

include view

/-- What the owner of a frame's contents does touches no transmission, but for a reset (R103). -/
theorem tellCompleted_keeps {s : State} (f : Flight) (h : law s) : law (s.tellCompleted f) := by
  cases f with
  | reports _ rs => exact view s _ (State.freeSlots_uplink ..) (State.freeSlots_relay ..) (State.freeSlots_links ..) h
  | urgent q _ =>
    exact view s _ (State.urgentCompleted_uplink ..) (State.urgentCompleted_relay ..) (State.urgentCompleted_links ..) h
  | transit _ => exact h
  | item i => exact itemEnded_keeps reset i h
  | beacon => exact h

theorem tellAborted_keeps {s : State} (late : List (Fin 256)) (f : Flight) (h : law s) : law (s.tellAborted late f) := by
  cases f with
  | reports _ rs =>
    exact view s _ ((State.sendDrops_uplink ..).trans (State.freeSlots_uplink s rs.length))
      ((State.sendDrops_relay ..).trans (State.freeSlots_relay s rs.length))
      ((State.sendDrops_links ..).trans (State.freeSlots_links s rs.length)) h
  | urgent q _ =>
    exact view s _ (State.urgentAborted_uplink ..) (State.urgentAborted_relay ..) (State.urgentAborted_links ..) h
  | transit _ => exact view s _ rfl rfl rfl h
  | item i => exact itemEnded_keeps reset i (view s (s.count .noticeLost) rfl rfl rfl h)
  | beacon => exact h

end

/-- A transmission of a port has ended whose owner, if one, is yet to be told of its end. -/
structure Ended (p : Port) (o : Option Owner) (s : State) : Prop where
  records : LinksOk s.links
  users : ∀ q, ∀ x ∈ txOwner s.links q, serves q x
  idle : txOwner s.links p = none
  ofPort : ∀ x ∈ o, serves p x
  flying : o ≠ some .scheduler → (s.uplink.flight.isSome = true ↔ txOwner s.links .tu = some .scheduler)
  relaying : o ≠ some .relayController →
    (s.relay.map PendingRelay.phase = some .sending ↔ txOwner s.links .sg = some .relayController)

namespace Ended

theorem transmitsOk {p : Port} {s : State} (h : Ended p none s) : TransmitsOk s :=
  ⟨h.records, h.users, h.flying nofun, h.relaying nofun⟩

theorem of_transmitsOk {p : Port} {s : State} (h : TransmitsOk s) (idle : txOwner s.links p = none) : Ended p none s :=
  ⟨h.records, h.users, idle, nofun, fun _ => h.flying, fun _ => h.relaying⟩

theorem of_eq {p : Port} {o : Option Owner} {s t : State} (h : Ended p o s) (uplink : t.uplink = s.uplink)
    (relay : t.relay = s.relay) (links : t.links = s.links) : Ended p o t := by
  obtain ⟨h1, h2, h3, h4, h5, h6⟩ := h
  refine ⟨?_, ?_, ?_, h4, ?_, ?_⟩ <;> rw [links]
  · exact h1
  · exact h2
  · exact h3
  · rwa [uplink]
  · rwa [relay]

/-- A transmitter falls idle: its owner has not been told yet. -/
theorem of_setLink {s : State} {p : Port} {lp : LinkPort} (h : TransmitsOk s) (ok : LinkOk p lp) (none : lp.tx = none) :
    Ended p (txOwner s.links p) (s.setLink p lp) := by
  have ofPort : txOwner (s.setLink p lp).links p = Option.none := (txOwner_set_self ..).trans (by rw [none]; rfl)
  have ofOther : ∀ q, q ≠ p → txOwner (s.setLink p lp).links q = txOwner s.links q := fun q => txOwner_set_other _ _
  refine ⟨linksOk_set h.records ok, fun q x hx => ?_, ofPort, h.users p, fun notOwner => ?_, fun notOwner => ?_⟩
  · by_cases same : q = p
    · subst same
      rw [ofPort] at hx
      cases hx
    · rw [ofOther q same] at hx
      exact h.users q x hx
  · rw [State.setLink_uplink, h.flying]
    by_cases same : p = .tu
    · subst same
      rw [ofPort]
      exact ⟨fun own => absurd own notOwner, nofun⟩
    · rw [ofOther _ (Ne.symm same)]
  · rw [State.setLink_relay, h.relaying]
    by_cases same : p = .sg
    · subst same
      rw [ofPort]
      exact ⟨fun own => absurd own notOwner, nofun⟩
    · rw [ofOther _ (Ne.symm same)]

section

variable {p : Port} {s : State}

/-- A reset leaves nothing to be told. -/
theorem takeReset {o : Option Owner} (h : Ended p o s) (scope : Scope) : Ended p o (s.takeReset scope) := by
  have reset := transmitsOk_takeReset s scope h.records
  refine ⟨reset.records, reset.users, ?_, h.ofPort, fun _ => reset.flying, fun _ => reset.relaying⟩
  have orphan : ∀ lp : LinkPort, lp.tx.map Transmission.owner = none → lp.orphan.tx.map Transmission.owner = none := by
    intro lp noTx
    rw [Option.map_eq_none_iff] at noTx
    simp [LinkPort.orphan, noTx]
  have idle := h.idle
  cases scope <;> cases p <;> exact orphan _ idle

theorem takePendingReset {o : Option Owner} (h : Ended p o s) : Ended p o s.takePendingReset :=
  takePendingReset_keeps (law := Ended p o) (fun _ scope h => h.takeReset scope) h

/-- The frame in flight is cleared before its contents' owner is told. -/
theorem clearFlight (h : Ended p (some .scheduler) s) : Ended p none s.clearFlight := by
  have isTu : p = .tu := by
    have serves := h.ofPort _ rfl
    cases p <;> simp [Machine.serves] at serves ⊢
  subst isTu
  refine ⟨h.records, h.users, h.idle, nofun, fun _ => ⟨nofun, fun own => ?_⟩, fun _ => h.relaying nofun⟩
  exact absurd (own.symm.trans h.idle) nofun

theorem tellCompleted (h : Ended p none s) (f : Flight) : Ended p none (s.tellCompleted f) :=
  tellCompleted_keeps (fun _ _ uplink relay links h => h.of_eq uplink relay links) (fun _ scope h => h.takeReset scope) f h

theorem tellAborted (h : Ended p none s) (late : List (Fin 256)) (f : Flight) : Ended p none (s.tellAborted late f) :=
  tellAborted_keeps (fun _ _ uplink relay links h => h.of_eq uplink relay links) (fun _ scope h => h.takeReset scope) late f h

/-- The end of a transmission that the frame in flight and the relay have no part in is told without effect. -/
theorem told {o : Owner} (h : Ended p (some o) s) (notScheduler : o ≠ .scheduler) (notRelay : o ≠ .relayController) :
    Ended p none s :=
  ⟨h.records, h.users, h.idle, nofun, fun _ => h.flying fun same => notScheduler (Option.some.inj same),
    fun _ => h.relaying fun same => notRelay (Option.some.inj same)⟩

/-- Where no frame is in flight, the Scheduler has nothing to be told. -/
theorem told_noFlight (h : Ended p (some .scheduler) s) (noFlight : s.uplink.flight = none) : Ended p none s := by
  have cleared := h.clearFlight
  refine ⟨h.records, h.users, h.idle, nofun, fun _ => ?_, fun _ => h.relaying nofun⟩
  rw [noFlight]
  exact cleared.flying nofun

theorem uplinkCompleted (h : Ended p (some .scheduler) s) : Ended p none (s.uplinkCompleted false) := by
  unfold State.uplinkCompleted
  split
  · next noFlight => exact h.told_noFlight noFlight
  · exact h.clearFlight.tellCompleted _

theorem uplinkAborted (h : Ended p (some .scheduler) s) (late : List (Fin 256)) : Ended p none (s.uplinkAborted late) := by
  unfold State.uplinkAborted
  split
  · next noFlight => exact h.told_noFlight noFlight
  · exact h.clearFlight.tellAborted late _

/-- A relay that leaves the phase SENDING, or ends, as its command's transmission has ended. -/
theorem relay_told {t : State} (h : Ended p (some .relayController) s) (uplink : t.uplink = s.uplink) (links : t.links = s.links)
    (still : t.relay.map PendingRelay.phase ≠ some .sending) : Ended p none t := by
  have isSg : p = .sg := by
    have serves := h.ofPort _ rfl
    cases p <;> simp [Machine.serves] at serves ⊢
  subst isSg
  refine ⟨links ▸ h.records, links ▸ h.users, links ▸ h.idle, nofun, fun _ => ?_, fun _ => ⟨fun now => absurd now still, ?_⟩⟩
  · rw [uplink, links]
    exact h.flying nofun
  · rw [links, h.idle]
    exact nofun

theorem relayCompleted (h : Ended p (some .relayController) s) : Ended p none s.relayCompleted := by
  unfold State.relayCompleted
  split
  · next noRelay => exact h.relay_told rfl rfl (by simp [noRelay])
  · exact h.relay_told rfl rfl nofun

theorem relayLinkDown_relay (s : State) : s.relayLinkDown.relay = none := by
  unfold State.relayLinkDown
  split
  · assumption
  · simp [State.endRelay]

theorem relayAborted (h : Ended p (some .relayController) s) : Ended p none s.relayLinkDown :=
  h.relay_told (State.relayLinkDown_uplink ..) (State.relayLinkDown_links ..) (by simp [relayLinkDown_relay])

theorem tellOwnerCompleted {o : Owner} (h : Ended p (some o) s) : Ended p none (s.tellOwnerCompleted false o) := by
  cases o with
  | scheduler => exact h.uplinkCompleted
  | dispatcher => exact h.told nofun nofun
  | sweepController => exact h.told nofun nofun
  | relayController => exact h.relayCompleted
  | nobody => exact h.told nofun nofun

theorem tellOwnerAborted {o : Owner} (h : Ended p (some o) s) (late : List (Fin 256)) :
    Ended p none (s.tellOwnerAborted late o) := by
  cases o with
  | scheduler => exact h.uplinkAborted late
  | dispatcher => exact (h.told nofun nofun).of_eq rfl rfl rfl
  | sweepController => exact h.told nofun nofun
  | relayController => exact h.relayAborted
  | nobody => exact h.told nofun nofun

/-- The blocks behind the port are told that it has left UP, before or after the owner (R125). -/
theorem tellNotUp {o : Option Owner} (h : Ended p o s) : Ended p o (s.tellNotUp p) := by
  cases p with
  | tu =>
    show Ended .tu o (if s.mgmt.items.any MqItem.answersReset then s.takePendingReset else s)
    split
    · exact h.takePendingReset
    · exact h
  | td => exact h.of_eq rfl rfl rfl
  | sg =>
    let waitless : State := { s with sweep := { s.sweep with waiting := none } }
    have uplink : (s.tellNotUp .sg).uplink = s.uplink := State.relayLinkDown_uplink waitless
    have links : (s.tellNotUp .sg).links = s.links := State.relayLinkDown_links waitless
    have relay : (s.tellNotUp .sg).relay = none := relayLinkDown_relay waitless
    refine ⟨links ▸ h.records, links ▸ h.users, links ▸ h.idle, h.ofPort, fun notOwner => ?_, fun _ => ?_⟩
    · rw [uplink, links]
      exact h.flying notOwner
    · rw [relay, links, h.idle]
      exact ⟨nofun, nofun⟩

end

end Ended

/-- The owner of a completed transmission is told, with the next choice taken first or not (R103, R126). -/
theorem Ended.uplinkCompleted_choosing {s : State} {p : Port} (h : Ended p (some .scheduler) s) (chooseFirst : Bool) :
    TransmitsOk (s.uplinkCompleted chooseFirst) := by
  unfold State.uplinkCompleted
  split
  · next noFlight => exact (h.told_noFlight noFlight).transmitsOk
  · next f _ =>
    have told : ∀ t, TransmitsOk t → TransmitsOk (t.tellCompleted f) := fun t =>
      tellCompleted_keeps (fun _ _ uplink relay links h => h.of_eq uplink relay links)
        (fun t scope h => transmitsOk_takeReset t scope h.records) f
    have cleared := h.clearFlight.transmitsOk
    split
    · exact told _ (transmitsOk_uplinkChoice _ cleared)
    · exact told _ cleared

theorem transmitsOk_complete (s : State) (p : Port) (t : Transmission) (sends : (s.link p).tx = some t) (h : TransmitsOk s) :
    TransmitsOk (s.complete p t) := by
  have owner : txOwner s.links p = some t.owner := congrArg (Option.map Transmission.owner) sends
  have ended := owner ▸ Ended.of_setLink h (linkOk_noTx (h.records p)) rfl
  have counted : Ended p (some t.owner) ((s.setLink p { s.link p with tx := none }).count (.framesOut p)) :=
    ended.of_eq rfl rfl rfl
  unfold State.complete
  dsimp only
  split
  · next scheduler =>
    rw [scheduler] at counted
    have dropped : Ended p (some .scheduler) ((s.setLink p { s.link p with tx := none }).count (.framesOut p)).dropChoice :=
      counted.of_eq rfl rfl rfl
    exact dropped.uplinkCompleted_choosing _
  · exact counted.tellOwnerCompleted.transmitsOk

theorem Ended.tellLoss {s : State} {p : Port} {tx : Option Transmission} (c : Choice)
    (h : Ended p (tx.map Transmission.owner) s) : Ended p none (s.tellLoss p tx c) := by
  unfold State.tellLoss
  split
  · exact h.tellNotUp
  · next t =>
    split
    · have counted : Ended p (some t.owner) (s.count (.framesOut p)) := h.of_eq rfl rfl rfl
      exact counted.tellOwnerCompleted.tellNotUp
    · split
      · exact h.tellNotUp.tellOwnerAborted _
      · exact (h.tellOwnerAborted _).tellNotUp

/-- The port's own count and event of a loss touch no transmission (R124). -/
theorem Ended.noteLoss {s : State} {p : Port} {o : Option Owner} (h : Ended p o s) : Ended p o (s.noteLoss p) :=
  h.of_eq (State.noteLoss_uplink ..) (State.noteLoss_relay ..) (State.noteLoss_links ..)

/-- A port that leaves ALIGNING had no transmission; one that leaves UP tells the end of its own (R124, R127). -/
theorem transmitsOk_linkLoss (s : State) (p : Port) (h : TransmitsOk s) : TransmitsOk (s.linkLoss p) := by
  have down := Ended.of_setLink h (linkOk_down p) rfl
  unfold State.linkLoss
  dsimp only
  split
  · exact h
  · next aligning =>
    have noTx : txOwner s.links p = none := by
      have off := (h.records p).1 (by rw [show (s.links.get p).state = _ from aligning]; exact nofun)
      exact congrArg (Option.map Transmission.owner) off.2
    exact (noTx ▸ down).transmitsOk
  · have lost : Ended p ((s.link p).tx.map Transmission.owner) (s.setLink p (s.link p).lost).dropChoice :=
      down.of_eq rfl rfl rfl
    split
    · exact (lost.tellLoss _).noteLoss.transmitsOk
    · exact (lost.noteLoss.tellLoss _).transmitsOk

theorem transmitsOk_ends : KeptByEnds TransmitsOk where
  uplinkChoice := transmitsOk_uplinkChoice
  complete := transmitsOk_complete
  linkLoss := transmitsOk_linkLoss

/-- Settles O58. -/
theorem linkLawsKept : Obligations.LinkLawsKept := by
  refine ⟨linkLaw_kept, fun s t links transmissions stepped => ?_⟩
  have kept : KeptByStep TransmitsOk :=
    transmitsOk_moves.keptByStep transmitsOk_ends (transmitsOk_closeMoves.closes transmitsOk_moves)
      (transmitsOk_requestMoves.requests transmitsOk_moves (transmitsOk_closeMoves.closes transmitsOk_moves))
  exact ((transmitsOk_iff t).mp (kept s t ((transmitsOk_iff s).mpr ⟨links, transmissions⟩) stepped)).2

end Sys2Proof.Machine
end

section
/-! A close in two phases, and the sweep record in order after every step. -/

namespace Sys2Proof.Machine

/-! ### A close in two phases -/

theorem onceEach_count (a : CloseAct) (comesOnce : a.again = false) (l : List CloseAct) :
    (onceEach l).count a = if a ∈ l then 1 else 0 := by
  induction l with
  | nil => rfl
  | cons b rest ih =>
    unfold onceEach
    split
    · next skipped =>
      simp only [Bool.and_eq_true, decide_eq_true_eq] at skipped
      rw [ih]
      by_cases same : a = b
      · subst same
        simp [skipped.2]
      · simp [same]
    · next kept =>
      rw [List.count_cons, ih]
      by_cases same : a = b
      · subst same
        have last : a ∉ rest := by simpa [comesOnce] using kept
        simp [last]
      · simp [same, Ne.symm same]

/-- An act that comes once in the default order comes once in every order of a close. -/
theorem closeOrder_count {a : CloseAct} (comesOnce : a.again = false) (default : defaultActs.count a = 1)
    (prefer : List CloseAct) : (closeOrder prefer).count a = 1 := by
  rw [closeOrder, List.count_append, onceEach_count a comesOnce]
  by_cases chosen : a ∈ prefer
  · have others : (defaultActs.filter (fun b => decide (b ∉ prefer))).count a = 0 :=
      List.count_eq_zero.mpr fun among => absurd chosen (by simpa using (List.mem_filter.mp among).2)
    rw [if_pos chosen, others]
  · rw [if_neg chosen, List.count_filter (by simpa using chosen), default]

theorem defaultActs_count_apply : defaultActs.count .apply = 1 := by
  simp [defaultActs, List.count_append, List.count_eq_zero.mpr]

theorem defaultActs_count_proceed : defaultActs.count .proceed = 1 := by
  simp [defaultActs, List.count_append, List.count_eq_zero.mpr]

/-- What comes once divides a list in two. -/
theorem split_of_count_eq_one {a : CloseAct} {l : List CloseAct} (once : l.count a = 1) :
    ∃ pre post, l = pre ++ a :: post ∧ a ∉ pre ∧ a ∉ post := by
  have isIn : a ∈ l := List.count_pos_iff.mp (by omega)
  obtain ⟨pre, post, rfl⟩ := List.append_of_mem isIn
  rw [List.count_append, List.count_cons_self] at once
  exact ⟨pre, post, rfl, List.count_eq_zero.mp (by omega), List.count_eq_zero.mp (by omega)⟩

/-- What holds of a close before one of its acts, and what from that act on, where the act comes once. -/
theorem Closing.fold_phases {before after : State → Prop} {k : CloseKind} {w : Word} {supply : Choice} {a : CloseAct}
    {l : List CloseAct} (once : l.count a = 1)
    (first : ∀ x b, b ≠ a → before x.state → before (Closing.act k w supply x b).state)
    (turn : ∀ x, before x.state → after (Closing.act k w supply x a).state)
    (last : ∀ x b, b ≠ a → after x.state → after (Closing.act k w supply x b).state)
    (x : Closing) (h : before x.state) : after (l.foldl (Closing.act k w supply) x).state := by
  obtain ⟨pre, post, rfl, notFirst, notLast⟩ := split_of_count_eq_one once
  have run : ∀ (law : State → Prop) (l : List CloseAct), a ∉ l →
      (∀ x b, b ≠ a → law x.state → law (Closing.act k w supply x b).state) →
      ∀ x : Closing, law x.state → law (l.foldl (Closing.act k w supply) x).state := by
    intro law l
    induction l with
    | nil => exact fun _ _ _ hx => hx
    | cons b rest ih =>
      intro absent keeps x hx
      rw [List.mem_cons, not_or] at absent
      exact ih absent.2 keeps _ (keeps x b (Ne.symm absent.1) hx)
  rw [List.foldl_append, List.foldl_cons]
  exact run after post notLast last _ (turn _ (run before pre notFirst first x h))

/-- Acts other than the apply and the Controller's own move leave the sweep record, the settings, the session, the relay and
the reserved slots. -/
theorem Closing.act_controller (k : CloseKind) (w : Word) (supply : Choice) (x : Closing) {a : CloseAct}
    (notApply : a ≠ .apply) (notProceed : a ≠ .proceed) :
    (Closing.act k w supply x a).state.sweep = x.state.sweep ∧
      (Closing.act k w supply x a).state.settings = x.state.settings ∧
      (Closing.act k w supply x a).state.mgmt.session = x.state.mgmt.session ∧
      (Closing.act k w supply x a).state.mgmt.reserved = x.state.mgmt.reserved := by
  cases a with
  | judge i =>
    show (x.judge i w).state.sweep = _ ∧ (x.judge i w).state.settings = _ ∧ (x.judge i w).state.mgmt.session = _ ∧
      (x.judge i w).state.mgmt.reserved = _
    unfold Closing.judge
    split <;> simp
  | take f => simp [Closing.act]
  | shares => simp [Closing.act]
  | drops => simp [Closing.act]
  | duties c => simp [Closing.act]
  | deliveries => simp [Closing.act]
  | apply => exact absurd rfl notApply
  | beacon => simp [Closing.act]
  | proceed => exact absurd rfl notProceed

/-! ### The sweep's law (R3, R6, R7, R14, R17) -/

/-- The sweep law, as a law of the sweep record and the active source. -/
def SweepOk (w : Sweep) (source : SweepSource) : Prop :=
  (w.state = .collecting ↔ w.window.isSome = true) ∧ (w.waiting.isSome = true → w.state = .collecting) ∧
  (w.supervision.isSome = true → source = .trunk ∧ w.state ≠ .stopped) ∧
  (w.oneShot = true → w.state = .collecting ∧ source = .localTimer)

/-- A sweep that ends without a next one. -/
theorem sweepOk_stopped (w : Sweep) (source : SweepSource) (window : w.window = none) (waiting : w.waiting = none) :
    SweepOk { w with state := .stopped, oneShot := false, supervision := none } source := by
  simp [SweepOk, window, waiting]

theorem sweepOk_trigger (s : State) (number : Word)
    (oneShot : s.sweep.oneShot = true → s.settings.source = .localTimer)
    (supervision : s.sweep.supervision.isSome = true → s.settings.source = .trunk) :
    SweepOk (s.trigger number).sweep s.settings.source := by
  refine ⟨by simp [State.trigger], fun _ => rfl, fun runs => ?_, fun mark => ⟨rfl, oneShot mark⟩⟩
  refine ⟨?_, nofun⟩
  by_cases trunk : s.settings.source = .trunk
  · exact trunk
  · simp only [State.trigger, if_neg trunk] at runs
    exact supervision runs

theorem sweepOk_moves : KeptByMoves (fun s => SweepOk s.sweep s.settings.source) where
  powerOn s := by
    have first : s.powerOn.sweep = {} := rfl
    rw [first]
    simp [SweepOk]
  advance s dt h := by
    obtain ⟨window, waiting, supervision, oneShot⟩ := h
    exact ⟨by simpa [State.advance] using window, waiting, by simpa [State.advance] using supervision, oneShot⟩
  sendTrigger s n _ _ h := by
    obtain ⟨window, -, supervision, oneShot⟩ := h
    exact ⟨window, nofun, supervision, oneShot⟩
  trigger s n h := sweepOk_trigger s n (fun mark => (h.2.2.2 mark).2) (fun runs => (h.2.2.1 runs).1)
  restartSupervision s n runs h := by
    obtain ⟨window, waiting, supervision, oneShot⟩ := h
    exact ⟨window, waiting, fun _ => supervision (by simp [runs]), oneShot⟩

theorem sweepOk_endMoves : KeptByEndMoves (fun s => SweepOk s.sweep s.settings.source) where
  dropWaiting s h := by
    obtain ⟨window, -, supervision, oneShot⟩ := h
    exact ⟨window, nofun, supervision, oneShot⟩
  takeReset s scope _ := by cases scope <;> simp [SweepOk, State.takeReset, State.runtimeReset, State.tablesReset, State.reset]

/-- A state whose sweep record is in order. -/
abbrev SweepInOrder (s : State) : Prop := SweepOk s.sweep s.settings.source

/-- The supervision timer after a change of source (R11, R14). -/
theorem State.sourceApplied_sweep (old : Settings) (s : State) : (s.sourceApplied old).sweep = { s.sweep with
    supervision := if old.source = .trunk ∧ s.settings.source = .localTimer then none else s.sweep.supervision } := by
  unfold State.sourceApplied
  split <;> rfl

/-- A timer that runs in TRUNK source only runs so after a change of source, where a change to LOCAL stops it (R11, R14). -/
theorem supervision_sourceApplied {s : State} {old : Settings}
    (runs : s.sweep.supervision.isSome = true → old.source = .trunk) :
    (s.sourceApplied old).sweep.supervision.isSome = true → s.settings.source = .trunk ∧ s.sweep.supervision.isSome = true := by
  rw [State.sourceApplied_sweep]
  intro still
  split at still
  · cases still
  · next change =>
    cases source : s.settings.source with
    | trunk => exact ⟨rfl, still⟩
    | localTimer => exact absurd ⟨runs still, source⟩ change

/-- A change of source with the sweep's mark clear leaves the record in order. -/
theorem sweepOk_sourceApplied {s : State} {old : Settings} (h : SweepOk s.sweep old.source) (noMark : s.sweep.oneShot = false) :
    SweepInOrder (s.sourceApplied old) := by
  obtain ⟨window, waiting, supervision, -⟩ := h
  have after := supervision_sourceApplied (s := s) (old := old) fun runs => (supervision runs).1
  rw [SweepInOrder, State.sourceApplied_settings]
  rw [State.sourceApplied_sweep] at after ⊢
  refine ⟨window, waiting, fun runs => ?_, by simp [noMark]⟩
  obtain ⟨trunk, ran⟩ := after runs
  exact ⟨trunk, (supervision ran).2⟩

/-- What an apply does at the Controller where the part is, or becomes, QUIET: the source's change, and the period test. -/
theorem State.settingsApplied_cases (old : Settings) (s : State) :
    ∃ t : State, (s.settingsApplied old = t ∨ s.settingsApplied old = t.periodTest) ∧ t.settings = s.settings ∧
      (old.source = .localTimer ∧ s.settings.source = .trunk ∧ t = s.startSupervision ∨ t = s.sourceApplied old) := by
  have test : ∀ t : State, s.settingsApplied old = (if old.source ≠ s.settings.source ∨ old.period ≠ s.settings.period
      then t.periodTest else t) → s.settingsApplied old = t ∨ s.settingsApplied old = t.periodTest := by
    intro t result
    rw [result]
    split
    · exact .inr rfl
    · exact .inl rfl
  by_cases change : old.source = .localTimer ∧ s.settings.source = .trunk
  · exact ⟨s.startSupervision, test _ (by simp only [State.settingsApplied, if_pos change]), rfl,
      .inl ⟨change.1, change.2, rfl⟩⟩
  · refine ⟨s.sourceApplied old, test _ ?_, State.sourceApplied_settings .., .inr rfl⟩
    simp only [State.settingsApplied, if_neg change, State.sourceApplied]

theorem sweepOk_startSupervision {s : State} {old : SweepSource} (h : SweepOk s.sweep old) (trunk : s.settings.source = .trunk)
    (notStopped : s.sweep.state ≠ .stopped) (noMark : s.sweep.oneShot = false) : SweepInOrder s.startSupervision := by
  obtain ⟨window, waiting, -, -⟩ := h
  exact ⟨window, waiting, fun _ => ⟨trunk, notStopped⟩, by simp [State.startSupervision, noMark]⟩

theorem sweepOk_periodTest {s : State} (h : SweepInOrder s) : SweepInOrder s.periodTest :=
  KeptByCloseMoves.periodTest (law := SweepInOrder) sweepOk_moves s h

/-- An apply's effect on a sweep that has its next state already (R10, R11). -/
theorem sweepOk_settingsApplied {s : State} {old : Settings} (h : SweepOk s.sweep old.source)
    (notStopped : s.sweep.state ≠ .stopped) (noMark : s.sweep.oneShot = false) : SweepInOrder (s.settingsApplied old) := by
  obtain ⟨t, result, -, change⟩ := s.settingsApplied_cases old
  have inOrder : SweepInOrder t := by
    rcases change with ⟨-, trunk, rfl⟩ | rfl
    · exact sweepOk_startSupervision h trunk notStopped noMark
    · exact sweepOk_sourceApplied h noMark
  rcases result with same | tested
  · rwa [same]
  · rw [tested]
    exact sweepOk_periodTest inOrder

/-- The period test starts a sweep or changes nothing: it clears no mark and stops no sweep. -/
theorem State.periodTest_cases (s : State) : s.periodTest = s ∨ s.periodTest = s.trigger (s.sweep.number + 1) := by
  unfold State.periodTest
  split
  · exact .inr rfl
  · exact .inl rfl

/-! ### The sweep in a close (R7 to R12) -/

/-- A sweep that ends, before the Controller's own move: its mark stands only where that move clears it. -/
structure SweepEnding (k : CloseKind) (s : State) : Prop where
  state : s.sweep.state = .collecting
  window : s.sweep.window = none
  waiting : s.sweep.waiting = none
  supervision : s.sweep.supervision.isSome = true → s.settings.source = .trunk
  mark : s.sweep.oneShot = true → k = .expiry true ∨ k = .stop

/-- A sweep that has ended: the Controller has made its own move. -/
structure SweepEnded (k : CloseKind) (s : State) : Prop where
  inOrder : SweepInOrder s
  noMark : s.sweep.oneShot = false
  notStopped : k = .expiry false → s.sweep.state ≠ .stopped

theorem SweepEnding.of_eq {k : CloseKind} {s t : State} (h : SweepEnding k s) (sweep : t.sweep = s.sweep)
    (settings : t.settings = s.settings) : SweepEnding k t := by
  obtain ⟨h1, h2, h3, h4, h5⟩ := h
  exact ⟨sweep ▸ h1, sweep ▸ h2, sweep ▸ h3, by rwa [sweep, settings], sweep ▸ h5⟩

theorem SweepEnded.of_eq {k : CloseKind} {s t : State} (h : SweepEnded k s) (sweep : t.sweep = s.sweep)
    (settings : t.settings = s.settings) : SweepEnded k t := by
  obtain ⟨h1, h2, h3⟩ := h
  exact ⟨by rwa [SweepInOrder, sweep, settings], sweep ▸ h2, sweep ▸ h3⟩

/-- The close's own first steps end the sweep (R6, R8). -/
theorem sweepEnding_start {s : State} {k : CloseKind} (due : s.closeDue k) (h : SweepInOrder s) :
    SweepEnding k s.dropChoice.endCollection := by
  obtain ⟨-, -, supervision, oneShot⟩ := h
  obtain ⟨collecting, cause⟩ := due
  refine ⟨collecting, rfl, rfl, fun runs => (supervision runs).1, fun mark => ?_⟩
  have isSet : s.sweep.oneShot = true := mark
  cases k with
  | expiry b =>
    obtain rfl : b = s.sweep.oneShot := cause
    exact .inl (congrArg CloseKind.expiry isSet)
  | stop => exact .inr rfl
  | sync n =>
    have trunk : s.settings.source = .trunk := cause
    exact absurd ((oneShot isSet).2.symm.trans trunk) nofun

/-- The Controller's own move (R7, R9, R12). -/
theorem SweepEnding.proceed {k : CloseKind} {s : State} (h : SweepEnding k s) : SweepEnded k (s.afterClose k) := by
  obtain ⟨state, window, waiting, supervision, mark⟩ := h
  have noMark : k ≠ .expiry true → k ≠ .stop → s.sweep.oneShot = false := fun notExpiry notStop =>
    Bool.eq_false_iff.mpr fun isSet => (mark isSet).elim notExpiry notStop
  have stopped : SweepInOrder s.becomeStopped := sweepOk_stopped s.sweep s.settings.source window waiting
  cases k with
  | stop => exact ⟨stopped, rfl, nofun⟩
  | sync n =>
    have clear := noMark nofun nofun
    exact ⟨sweepOk_trigger s n (by simp [clear]) supervision, clear, nofun⟩
  | expiry b =>
    cases b with
    | true => exact ⟨stopped, rfl, nofun⟩
    | false =>
      have clear := noMark nofun nofun
      have quiet : SweepInOrder s.becomeQuiet :=
        ⟨by simp [State.becomeQuiet, window], by simp [State.becomeQuiet, waiting], fun runs => ⟨supervision runs, nofun⟩,
          by simp [State.becomeQuiet, clear]⟩
      show SweepEnded _ s.becomeQuiet.periodTest
      refine ⟨sweepOk_periodTest quiet, ?_, fun _ => ?_⟩
      all_goals rcases s.becomeQuiet.periodTest_cases with same | tested
      · rw [same]; exact clear
      · rw [tested]; exact clear
      · rw [same]; exact nofun
      · rw [tested]; exact nofun

/-- What an apply does at the Controller in a close of this cause (R11). -/
theorem Closing.apply_state {x : Closing} (pending : x.state.mgmt.session.state = .commitPending) (k : CloseKind)
    (early late : List (Fin 256)) :
    (x.apply k early late).state = match k with
      | .expiry false => (x.state.applyItems x.state.applyPlan early late).settingsApplied x.state.settings
      | .expiry true => (x.state.applyItems x.state.applyPlan early late).sourceApplied x.state.settings
      | .stop => (x.state.applyItems x.state.applyPlan early late).sourceApplied x.state.settings
      | .sync _ => (x.state.applyItems x.state.applyPlan early late).sourceApplied x.state.settings :=
  congrArg Closing.state (if_pos pending)

/-- In a close of this cause an apply at the Controller is the source's change, or in a window expiry to QUIET all of R10. -/
theorem Closing.apply_cases (x : Closing) (k : CloseKind) (early late : List (Fin 256)) :
    (x.apply k early late).state = x.state ∨
      x.state.mgmt.session.state = .commitPending ∧
        ((x.apply k early late).state = (x.state.applyItems x.state.applyPlan early late).sourceApplied x.state.settings ∨
          k = .expiry false ∧
            (x.apply k early late).state =
              (x.state.applyItems x.state.applyPlan early late).settingsApplied x.state.settings) := by
  by_cases pending : x.state.mgmt.session.state = .commitPending
  · refine .inr ⟨pending, ?_⟩
    rw [Closing.apply_state pending]
    cases k with
    | expiry b => cases b <;> simp
    | stop => exact .inl rfl
    | sync n => exact .inl rfl
  · unfold Closing.apply
    rw [if_neg pending]
    exact .inl rfl

theorem SweepEnding.sourceApplied {k : CloseKind} {s t : State} (h : SweepEnding k s) (sweep : t.sweep = s.sweep) :
    SweepEnding k (t.sourceApplied s.settings) := by
  obtain ⟨state, window, waiting, supervision, mark⟩ := h
  have after := supervision_sourceApplied (s := t) (old := s.settings) (by rwa [sweep])
  rw [State.sourceApplied_sweep, sweep] at after
  refine ⟨?_, ?_, ?_, ?_, ?_⟩ <;> rw [State.sourceApplied_sweep, sweep]
  · exact state
  · exact window
  · exact waiting
  · rw [State.sourceApplied_settings]
    exact fun runs => (after runs).1
  · exact mark

theorem SweepEnding.settingsApplied {k : CloseKind} {s t : State} (h : SweepEnding k s) (sweep : t.sweep = s.sweep) :
    SweepEnding k (t.settingsApplied s.settings) := by
  obtain ⟨u, result, -, change⟩ := t.settingsApplied_cases s.settings
  have ending : SweepEnding k u := by
    rcases change with ⟨-, trunk, rfl⟩ | rfl
    · obtain ⟨state, window, waiting, -, mark⟩ := h
      refine ⟨?_, ?_, ?_, fun _ => trunk, ?_⟩ <;> simp only [State.startSupervision, sweep]
      · exact state
      · exact window
      · exact waiting
      · exact mark
    · exact h.sourceApplied sweep
  rcases result with same | tested
  · rwa [same]
  · have notQuiet : ¬ (u.settings.source = .localTimer ∧ u.sweep.state = .quiet ∧ u.periodLeft = 0) := by
      rw [ending.state]
      exact fun ⟨_, quiet, _⟩ => nomatch quiet
    rw [tested, State.periodTest, if_neg notQuiet]
    exact ending

theorem SweepEnding.apply {k : CloseKind} {x : Closing} (h : SweepEnding k x.state) (early late : List (Fin 256)) :
    SweepEnding k (x.apply k early late).state := by
  rcases x.apply_cases k early late with same | ⟨-, applied | ⟨-, applied⟩⟩ <;> rw [‹(x.apply k early late).state = _›]
  · exact h
  · exact h.sourceApplied (State.applyItems_sweep ..)
  · exact h.settingsApplied (State.applyItems_sweep ..)

theorem SweepEnded.apply {k : CloseKind} {x : Closing} (h : SweepEnded k x.state) (early late : List (Fin 256)) :
    SweepEnded k (x.apply k early late).state := by
  obtain ⟨inOrder, noMark, notStopped⟩ := id h
  have sweep := State.applyItems_sweep x.state x.state.applyPlan early late
  rcases x.apply_cases k early late with same | ⟨-, applied | ⟨cause, applied⟩⟩ <;> rw [‹(x.apply k early late).state = _›]
  · exact h
  · refine ⟨sweepOk_sourceApplied (sweep ▸ inOrder) (sweep ▸ noMark), ?_, fun cause => ?_⟩ <;>
      rw [State.sourceApplied_sweep, sweep]
    · exact noMark
    · exact notStopped cause
  · generalize x.state.applyItems x.state.applyPlan early late = t at sweep
    have still := notStopped cause
    refine ⟨sweepOk_settingsApplied (sweep ▸ inOrder) (sweep ▸ still) (sweep ▸ noMark), ?_, fun _ => ?_⟩
    all_goals
      obtain ⟨u, result, -, change⟩ := t.settingsApplied_cases x.state.settings
      have kept : u.sweep.state = x.state.sweep.state ∧ u.sweep.oneShot = x.state.sweep.oneShot := by
        rcases change with ⟨-, -, rfl⟩ | rfl
        · simp only [State.startSupervision, sweep, and_self]
        · rw [State.sourceApplied_sweep, sweep]
          exact ⟨rfl, rfl⟩
    · rcases result with same | tested
      · rw [same, kept.2, noMark]
      · rw [tested]
        rcases u.periodTest_cases with same | started
        · rw [same, kept.2, noMark]
        · rw [started]
          exact kept.2.trans noMark
    · rcases result with same | tested
      · rw [same, kept.1]
        exact still
      · rw [tested]
        rcases u.periodTest_cases with same | started
        · rw [same, kept.1]
          exact still
        · rw [started]
          exact nofun

/-- A close leaves the sweep record in order (R7, R8, R9, R12). -/
theorem sweepOk_closes : KeptByCloses SweepInOrder := by
  intro s k due h
  have ended := Closing.fold_phases (before := SweepEnding k) (after := SweepEnded k) (k := k) (w := s.sweep.number)
    (supply := s.choice) (closeOrder_count rfl defaultActs_count_proceed s.choice.acts)
    (fun x b other hx => by
      by_cases isApply : b = .apply
      · subst isApply
        exact hx.apply _ _
      · obtain ⟨sweep, settings, -⟩ := Closing.act_controller k s.sweep.number s.choice x isApply other
        exact hx.of_eq sweep settings)
    (fun x hx => hx.proceed)
    (fun x b other hx => by
      by_cases isApply : b = .apply
      · subst isApply
        exact hx.apply _ _
      · obtain ⟨sweep, settings, -⟩ := Closing.act_controller k s.sweep.number s.choice x isApply other
        exact hx.of_eq sweep settings)
    { state := s.dropChoice.endCollection } (sweepEnding_start due h)
  have result := ended.inOrder
  unfold State.sweepClose
  simpa [SweepInOrder] using result

/-- An apply at once, in STOPPED or QUIET (R10, R11). -/
theorem sweepOk_applyNow (s : State) (still : s.sweep.state ≠ .collecting) (h : SweepInOrder s) : SweepInOrder s.applyNow := by
  have noMark : s.sweep.oneShot = false := Bool.eq_false_iff.mpr fun isSet => still (h.2.2.2 isSet).1
  have sweep := State.applyItems_sweep s.dropChoice s.applyPlan s.choice.dropFirst s.choice.lateDrops
  unfold State.applyNow
  dsimp only
  generalize s.dropChoice.applyItems s.applyPlan s.choice.dropFirst s.choice.lateDrops = t at sweep
  change t.sweep = s.sweep at sweep
  split
  · next quiet =>
    exact sweepOk_settingsApplied (sweep ▸ h) (by rw [sweep, quiet]; exact nofun) (sweep ▸ noMark)
  · next notQuiet =>
    obtain ⟨window, waiting, supervision, -⟩ := h
    rw [SweepInOrder, sweep]
    refine ⟨window, waiting, fun runs => ?_, by simp [noMark]⟩
    have stopped : s.sweep.state = .stopped := by
      cases state : s.sweep.state with
      | stopped => rfl
      | collecting => exact absurd state still
      | quiet => exact absurd state notQuiet
    exact absurd stopped (supervision runs).2

theorem sweepOk_requestMoves : KeptByRequestMoves (fun s => SweepOk s.sweep s.settings.source) where
  oneShot s collecting local_ h := by
    obtain ⟨window, waiting, supervision, -⟩ := h
    exact ⟨window, waiting, supervision, fun _ => ⟨collecting, local_⟩⟩
  startQuiet s stopped trunk h := by
    obtain ⟨window, waiting, -, oneShot⟩ := h
    have noWindow : s.sweep.window.isSome = false := Bool.eq_false_iff.mpr fun runs => by
      rw [window.mpr runs] at stopped
      exact nomatch stopped
    refine ⟨?_, fun waits => ?_, fun _ => ⟨trunk, nofun⟩, fun mark => ?_⟩
    · simp [State.becomeQuiet, State.startSupervision, noWindow]
    · exact absurd ((waiting waits).symm.trans stopped) nofun
    · exact absurd ((oneShot mark).1.symm.trans stopped) nofun
  stopQuiet s quiet h := by
    obtain ⟨window, waiting, -, -⟩ := h
    refine sweepOk_stopped s.sweep s.settings.source (Option.not_isSome_iff_eq_none.mp fun runs => ?_)
      (Option.not_isSome_iff_eq_none.mp fun waits => ?_)
    · exact absurd ((window.mpr runs).symm.trans quiet) nofun
    · exact absurd ((waiting waits).symm.trans quiet) nofun
  takeReset := sweepOk_endMoves.takeReset
  applyNow s _ still _ h := sweepOk_applyNow s still h

theorem sweepLaw_kept : KeptByStep SweepLaw :=
  sweepOk_moves.keptByStep ((sweepOk_endMoves.owners sweepOk_moves).ends sweepOk_moves) sweepOk_closes
    (sweepOk_requestMoves.requests sweepOk_moves sweepOk_closes)

end Sys2Proof.Machine
end

section
/-! The session record in order after every step. -/

namespace Sys2Proof.Machine

/-! ### The session's law (R147, R160, R161, R164) -/

/-- The session record in order, apart from the sweep that a pending commit waits for. -/
structure SessionOk (x : Session) : Prop where
  empty : x.state = .none → x.items = [] ∧ x.token = none
  token : x.state ≠ .none → x.token.isSome = true
  idle : x.state = .opened ↔ x.idle.isSome = true
  few : x.items.length ≤ Config.stagingItems
  distinct : (x.items.map StagedItem.targetBytes).Nodup

/-- A state whose session record is in order, a commit pending in COLLECTING only. -/
abbrev SessionInOrder (s : State) : Prop :=
  SessionOk s.mgmt.session ∧ (s.mgmt.session.state = .commitPending → s.sweep.state = .collecting)

theorem sessionLaw_iff (s : State) : SessionLaw s ↔ SessionInOrder s :=
  ⟨fun ⟨empty, token, idle, few, distinct, pending⟩ => ⟨⟨empty, token, idle, few, distinct⟩, pending⟩,
    fun ⟨⟨empty, token, idle, few, distinct⟩, pending⟩ => ⟨empty, token, idle, few, distinct, pending⟩⟩

theorem sessionOk_ended : SessionOk {} :=
  ⟨fun _ => ⟨rfl, rfl⟩, fun open_ => absurd rfl open_, ⟨nofun, nofun⟩, Nat.zero_le _, List.nodup_nil⟩

/-- With no session, no commit is pending. -/
theorem sessionInOrder_ended {s : State} (h : s.mgmt.session = {}) : SessionInOrder s := by
  rw [SessionInOrder, h]
  exact ⟨sessionOk_ended, nofun⟩

/-- A session in OPEN. -/
theorem sessionInOrder_opened {s : State} (ok : SessionOk s.mgmt.session) (opened : s.mgmt.session.state = .opened) :
    SessionInOrder s :=
  ⟨ok, fun pending => absurd (opened.symm.trans pending) nofun⟩

theorem SessionOk.setIdle {x : Session} (ok : SessionOk x) (opened : x.state = .opened) (n : Nat) :
    SessionOk { x with idle := some n } :=
  ⟨ok.empty, ok.token, ⟨fun _ => rfl, fun _ => opened⟩, ok.few, ok.distinct⟩

theorem SessionOk.setItems {x : Session} (ok : SessionOk x) (opened : x.state = .opened) {items : List StagedItem}
    (few : items.length ≤ Config.stagingItems) (distinct : (items.map StagedItem.targetBytes).Nodup) :
    SessionOk { x with items := items } :=
  ⟨fun none => absurd (opened.symm.trans none) nofun, ok.token, ok.idle, few, distinct⟩

theorem sessionInOrder_moves : KeptByMoves SessionInOrder where
  powerOn s := sessionInOrder_ended (s := s.powerOn) rfl
  advance s dt h := by
    obtain ⟨⟨empty, token, idle, few, distinct⟩, pending⟩ := h
    exact ⟨⟨empty, token, by simpa [State.advance] using idle, few, distinct⟩, pending⟩
  raise s k d w h := by simpa [SessionInOrder] using h
  offerMq s i h := by simpa [SessionInOrder] using h
  offer s r h := by simpa [SessionInOrder] using h
  advanceBeacon s h := by simpa [SessionInOrder] using h
  removeEntry s e _ _ h := by simpa [SessionInOrder] using h
  endRelay s _ _ _ _ _ _ h := by simpa [SessionInOrder] using h
  trigger s n h := ⟨h.1, fun _ => rfl⟩
  expireSession s n _ h := sessionInOrder_ended rfl

theorem sessionInOrder_takeReset (s : State) (scope : Scope) : SessionInOrder (s.takeReset scope) := by
  cases scope <;> exact sessionInOrder_ended rfl

theorem sessionInOrder_endMoves : KeptByEndMoves SessionInOrder where
  freeSlots s n h := by simpa [SessionInOrder] using h
  removeEntry s q h := by simpa [SessionInOrder] using h
  endRelay s _ _ _ _ h := by simpa [SessionInOrder] using h
  takeReset s scope _ := sessionInOrder_takeReset s scope

/-- The apply of a close ends the session; with none pending it leaves the session. -/
theorem Closing.apply_session (x : Closing) (k : CloseKind) (early late : List (Fin 256)) :
    (x.apply k early late).state.mgmt.session =
      if x.state.mgmt.session.state = .commitPending then {} else x.state.mgmt.session := by
  obtain ⟨-, -, -, ended⟩ := x.state.applyItems_installs x.state.applyPlan early late
  split
  · next pending =>
    rcases x.apply_cases k early late with same | ⟨-, applied | ⟨-, applied⟩⟩
    · rw [Closing.apply_state pending]
      cases k with
      | expiry b => cases b <;> simpa using ended
      | stop => simpa using ended
      | sync n => simpa using ended
    · rw [applied, State.sourceApplied_mgmt, ended]
    · rw [applied, State.settingsApplied_mgmt, ended]
  · next notPending =>
    unfold Closing.apply
    rw [if_neg notPending]

/-- Outside the apply, the acts of a close leave the session. -/
theorem Closing.act_session (k : CloseKind) (w : Word) (supply : Choice) (x : Closing) {a : CloseAct} (notApply : a ≠ .apply) :
    (Closing.act k w supply x a).state.mgmt.session = x.state.mgmt.session := by
  by_cases isProceed : a = .proceed
  · subst isProceed
    show (State.afterClose _ k).mgmt.session = _
    rw [State.afterClose_mgmt]
  · exact (Closing.act_controller k w supply x notApply isProceed).2.2.1

/-- No commit is pending after a close, and the session record stays in order (R164, R165). -/
theorem State.sweepClose_session (s : State) (k : CloseKind) :
    (s.sweepClose k).mgmt.session = s.mgmt.session ∧ s.mgmt.session.state ≠ .commitPending ∨
      (s.sweepClose k).mgmt.session = {} := by
  have folded := Closing.fold_phases
    (before := fun t => t.mgmt.session = s.mgmt.session)
    (after := fun t => t.mgmt.session = if s.mgmt.session.state = .commitPending then {} else s.mgmt.session)
    (k := k) (w := s.sweep.number) (supply := s.choice) (closeOrder_count rfl defaultActs_count_apply s.choice.acts)
    (fun x b other hx => (Closing.act_session k _ _ x other).trans hx)
    (fun x hx => by
      show (x.apply k _ _).state.mgmt.session = _
      rw [Closing.apply_session, hx])
    (fun x b other hx => (Closing.act_session k _ _ x other).trans hx)
    { state := s.dropChoice.endCollection } rfl
  have result : (s.sweepClose k).mgmt.session =
      if s.mgmt.session.state = .commitPending then {} else s.mgmt.session := by
    unfold State.sweepClose
    simpa using folded
  rw [result]
  split
  · exact .inr rfl
  · next notPending => exact .inl ⟨rfl, notPending⟩

theorem sessionInOrder_closes : KeptByCloses SessionInOrder := by
  intro s k _ h
  rcases s.sweepClose_session k with ⟨same, notPending⟩ | ended
  · rw [SessionInOrder, same]
    exact ⟨h.1, fun pending => absurd pending notPending⟩
  · exact sessionInOrder_ended ended

theorem State.applyNow_session (s : State) : s.applyNow.mgmt.session = {} := by
  obtain ⟨-, -, -, ended⟩ := s.dropChoice.applyItems_installs s.applyPlan s.choice.dropFirst s.choice.lateDrops
  unfold State.applyNow
  dsimp only
  split
  · rw [State.settingsApplied_mgmt, ended]
  · exact ended

theorem sessionInOrder_requestMoves : KeptByRequestMoves SessionInOrder where
  respond s _ _ _ _ h := by simpa [SessionInOrder] using h
  clearGroup s _ _ h := by simpa only [SessionInOrder, State.clearGroup] using h
  unlatch s _ h := by simpa [SessionInOrder] using h
  startQuiet s stopped _ h := ⟨h.1, fun pending => absurd ((h.2 pending).symm.trans stopped) nofun⟩
  stopQuiet s quiet h := ⟨h.1, fun pending => absurd ((h.2 pending).symm.trans quiet) nofun⟩
  flush s k h := by simpa [SessionInOrder] using h
  takeReset s scope _ := sessionInOrder_takeReset s scope
  openSession s token _ _ := sessionInOrder_opened
    ⟨nofun, fun _ => rfl, ⟨fun _ => rfl, fun _ => rfl⟩, Nat.zero_le _, List.nodup_nil⟩ rfl
  restartIdle s opened h := sessionInOrder_opened (h.1.setIdle opened _) opened
  replaceItem s item pos opened _ found h := by
    refine sessionInOrder_opened (h.1.setItems opened ?_ ?_) opened
    · rw [List.length_set]
      exact h.1.few
    · rw [targets_replace found]
      exact h.1.distinct
  addItem s item opened _ absent room h := by
    refine sessionInOrder_opened (h.1.setItems opened ?_ ?_) opened
    · rw [List.length_append]
      exact room
    · exact targets_add absent h.1.distinct
  discard s _ _ := sessionInOrder_ended rfl
  commitWaits s opened collecting _ h :=
    ⟨⟨nofun, fun _ => h.1.token (by rw [opened]; exact nofun), ⟨nofun, nofun⟩, h.1.few, h.1.distinct⟩, fun _ => collecting⟩
  applyNow s _ _ _ _ := sessionInOrder_ended s.applyNow_session

theorem sessionLaw_kept : KeptByStep SessionLaw := by
  have kept : KeptByStep SessionInOrder :=
    sessionInOrder_moves.keptByStep ((sessionInOrder_endMoves.owners sessionInOrder_moves).ends sessionInOrder_moves)
      sessionInOrder_closes (sessionInOrder_requestMoves.requests sessionInOrder_moves sessionInOrder_closes)
  intro s t h stepped
  exact (sessionLaw_iff t).mpr (kept s t ((sessionLaw_iff s).mp h) stepped)

end Sys2Proof.Machine
end

section
/-! The reserved slots of MQ: those of the responses owed, with the slot of a request in hand beside them. -/

namespace Sys2Proof.Machine

/-! ### The reserved slots of MQ (R150, R164, R168) -/

/-- The codes of the requests whose responses are owed: SEGMENT_RELAY's and a pending COMMIT's. -/
def owed (relay : Option PendingRelay) (x : Session) : List Byte :=
  (if relay.isSome then [15] else []) ++ (if x.state = .commitPending then [22] else [])

/-- The reserved slots are those of the responses owed, besides `extra`; the session's idle timer runs in OPEN only. -/
structure Owing (extra reserved : List Reservation) (relay : Option PendingRelay) (x : Session) : Prop where
  idle : x.idle.isSome = true → x.state = .opened
  slots : ∃ held, reserved.Perm (extra ++ held) ∧ (held.map Reservation.code).Perm (owed relay x)

/-- The reserved slots of a state are in order, besides `extra`. -/
abbrev Owes (extra : List Reservation) (s : State) : Prop := Owing extra s.mgmt.reserved s.relay s.mgmt.session

theorem reservationLaw_iff (s : State) :
    ReservationLaw s ↔ (s.mgmt.reserved.map Reservation.code).Perm (owed s.relay s.mgmt.session) := by
  have count : ∀ c : Byte, (s.mgmt.reserved.map Reservation.code).count c =
      (s.mgmt.reserved.filter (fun r => r.code == c)).length := fun c => by
    rw [List.count, List.countP_map, List.countP_eq_length_filter]
    rfl
  have owed15 : (owed s.relay s.mgmt.session).count 15 = if s.relay.isSome then 1 else 0 := by
    unfold owed
    split <;> split <;> rfl
  have owed22 : (owed s.relay s.mgmt.session).count 22 = if s.mgmt.session.state = .commitPending then 1 else 0 := by
    unfold owed
    split <;> split <;> rfl
  have owedOther : ∀ c ∈ owed s.relay s.mgmt.session, c = 15 ∨ c = 22 := by
    unfold owed
    split <;> split <;> simp
  constructor
  · rintro ⟨relay, commit, other⟩
    refine List.perm_iff_count.mpr fun c => ?_
    by_cases is15 : c = 15
    · rw [is15, count, relay, owed15]
    · by_cases is22 : c = 22
      · rw [is22, count, commit, owed22]
      · rw [List.count_eq_zero.mpr, List.count_eq_zero.mpr]
        · exact fun among => (owedOther c among).elim is15 is22
        · intro among
          obtain ⟨r, isIn, rfl⟩ := List.mem_map.mp among
          exact (other r isIn).elim is15 is22
  · intro perm
    refine ⟨by rw [← count, perm.count_eq, owed15], by rw [← count, perm.count_eq, owed22], fun r isIn => ?_⟩
    exact owedOther r.code (perm.mem_iff.mp (List.mem_map_of_mem isIn))

theorem owes_nil_iff (s : State) :
    Owes [] s ↔ (s.mgmt.session.idle.isSome = true → s.mgmt.session.state = .opened) ∧ ReservationLaw s := by
  rw [reservationLaw_iff]
  constructor
  · rintro ⟨idle, held, perm, codes⟩
    exact ⟨idle, (perm.map _).trans codes⟩
  · rintro ⟨idle, perm⟩
    exact ⟨idle, _, .refl _, perm⟩

/-! ### What leaves and joins the reserved slots -/

theorem State.respond_reserved (s : State) (tag code : Byte) (st : Status) (res : List Byte) :
    (s.respond tag code st res).mgmt.reserved = s.mgmt.reserved.erase ⟨tag, code⟩ := by
  unfold State.respond
  split
  · rfl
  · next absent => exact (List.erase_of_not_mem absent).symm

/-- The reserved slots after the response that waits for a code (R150). -/
def slotsAfter (code : Byte) (reserved : List Reservation) : List Reservation :=
  match reserved.find? (fun r => r.code == code) with
  | some r => reserved.erase r
  | none => reserved

theorem State.respondTo_reserved (s : State) (code : Byte) (st : Status) (res : List Byte) :
    (s.respondTo code st res).mgmt.reserved = slotsAfter code s.mgmt.reserved := by
  unfold State.respondTo slotsAfter
  cases s.mgmt.reserved.find? (fun r => r.code == code) with
  | some r => exact s.respond_reserved _ _ st res
  | none => rfl

/-- Of the slots held, the response takes one of its code. -/
theorem slotsAfter_held {code : Byte} {extra reserved held : List Reservation} {rest : List Byte}
    (slots : reserved.Perm (extra ++ held)) (codes : (held.map Reservation.code).Perm (code :: rest))
    (others : ∀ r ∈ extra, r.code ≠ code) :
    ∃ left, (slotsAfter code reserved).Perm (extra ++ left) ∧ (left.map Reservation.code).Perm rest := by
  have waits : ∃ r ∈ reserved, r.code = code := by
    obtain ⟨r, isHeld, same⟩ := List.mem_map.mp (codes.mem_iff.mpr (List.mem_cons_self ..))
    exact ⟨r, slots.mem_iff.mpr (List.mem_append_right _ isHeld), same⟩
  unfold slotsAfter
  split
  · next r found =>
    have same : r.code = code := by simpa using List.find?_some found
    have notExtra : r ∉ extra := fun among => others r among same
    have isHeld : r ∈ held := by
      have among := slots.mem_iff.mp (List.mem_of_find?_eq_some found)
      exact (List.mem_append.mp among).resolve_left notExtra
    refine ⟨held.erase r, ?_, ?_⟩
    · have erased := slots.erase r
      rwa [List.erase_append_right _ notExtra] at erased
    · have moved := ((List.perm_cons_erase isHeld).map Reservation.code).symm.trans codes
      rw [List.map_cons, same] at moved
      exact moved.cons_inv
  · next absent =>
    obtain ⟨r, isIn, same⟩ := waits
    exact absurd (List.find?_eq_none.mp absent r isIn) (by simpa using same)

namespace Owing

section

variable {extra reserved : List Reservation} {relay : Option PendingRelay} {x : Session} (h : Owing extra reserved relay x)
include h

/-- What is owed depends on whether a relay is pending and whether a commit is. -/
theorem owed_congr {relay' : Option PendingRelay} {x' : Session} (pending : relay'.isSome = relay.isSome)
    (commit : x'.state = .commitPending ↔ x.state = .commitPending) (idle : x'.idle.isSome = true → x'.state = .opened) :
    Owing extra reserved relay' x' := by
  obtain ⟨held, slots, codes⟩ := h.slots
  refine ⟨idle, held, slots, ?_⟩
  simpa only [owed, pending, commit] using codes

/-- A relay that ends gives its slot to its response (R150, R168). -/
theorem relayEnds (pending : relay.isSome = true) (others : ∀ r ∈ extra, r.code ≠ 15) :
    Owing extra (slotsAfter 15 reserved) none x := by
  obtain ⟨held, slots, codes⟩ := h.slots
  exact ⟨h.idle, slotsAfter_held slots (by simpa [owed, pending] using codes) others⟩

/-- A pending commit that is applied gives its slot to its response (R150, R164). -/
theorem commitEnds (pending : x.state = .commitPending) (others : ∀ r ∈ extra, r.code ≠ 22) :
    Owing extra (slotsAfter 22 reserved) relay {} := by
  obtain ⟨held, slots, codes⟩ := h.slots
  refine ⟨nofun, slotsAfter_held slots ?_ others⟩
  simpa [owed, pending] using codes.trans List.perm_append_comm

/-- A slot reserved besides the others. -/
theorem reserve (r : Reservation) : Owing (r :: extra) (r :: reserved) relay x := by
  obtain ⟨held, slots, codes⟩ := h.slots
  exact ⟨h.idle, held, slots.cons r, codes⟩

/-- Nothing is owed besides what is reserved already where the session and the relay are at rest. -/
theorem respond {r : Reservation} (own : extra = [r]) : Owing [] (reserved.erase r) relay x := by
  obtain ⟨held, slots, codes⟩ := h.slots
  subst own
  refine ⟨h.idle, held, ?_, codes⟩
  simpa using slots.erase r

/-- The slot reserved at a SEGMENT_RELAY's admission is that of the relay (R168). -/
theorem queueRelay {tag : Byte} {r : PendingRelay} (own : extra = [⟨tag, 15⟩]) (none : relay = Option.none) :
    Owing [] reserved (some r) x := by
  obtain ⟨held, slots, codes⟩ := h.slots
  subst own none
  exact ⟨h.idle, _, slots, codes.cons 15⟩

/-- The slot reserved at a COMMIT's admission is that of the pending commit (R164). -/
theorem commitWaits {tag : Byte} {x' : Session} (own : extra = [⟨tag, 22⟩]) (free : x.state ≠ .commitPending)
    (pending : x'.state = .commitPending) (idle : x'.idle = none) : Owing [] reserved relay x' := by
  obtain ⟨held, slots, codes⟩ := h.slots
  subst own
  refine ⟨fun runs => by simp [idle] at runs, _, slots, ?_⟩
  have before : owed relay x' = owed relay x ++ [22] := by simp [owed, pending, free]
  rw [before]
  exact (codes.cons 22).trans (List.perm_append_comm (l₁ := [22]))

/-- A COMMIT that is applied at once fills the slot reserved at its admission (R164). -/
theorem commitApplies {tag : Byte} (own : extra = [⟨tag, 22⟩]) (free : x.state ≠ .commitPending) :
    Owing [] (slotsAfter 22 reserved) relay {} := by
  obtain ⟨held, slots, codes⟩ := h.slots
  subst own
  refine ⟨nofun, slotsAfter_held (extra := []) slots ?_ (by simp)⟩
  have before : owed relay {} = owed relay x := by simp [owed, free]
  rw [before]
  exact codes.cons 22

end

end Owing

theorem owing_reset : Owing [] [] none {} := ⟨nofun, [], .refl _, .refl _⟩

/-! ### The moves -/

theorem State.endRelay_reserved (s : State) (st : Status) (res : List Byte) :
    (s.endRelay st res).mgmt.reserved = slotsAfter 15 s.mgmt.reserved := State.respondTo_reserved ..

theorem State.endRelay_relay (s : State) (st : Status) (res : List Byte) : (s.endRelay st res).relay = none :=
  State.respondTo_relay ..

theorem owes_endRelay {extra : List Reservation} {s : State} {r : PendingRelay} (pending : s.relay = some r)
    (others : ∀ r ∈ extra, r.code ≠ 15) (st : Status) (res : List Byte) (h : Owes extra s) :
    Owes extra (s.endRelay st res) := by
  rw [Owes, State.endRelay_reserved, State.endRelay_relay, State.endRelay_mgmt_session]
  exact h.relayEnds (by simp [pending]) others

theorem owes_takeReset (s : State) (scope : Scope) : Owes [] (s.takeReset scope) := by
  cases scope <;> exact owing_reset

theorem owes_moves : KeptByMoves (Owes []) where
  powerOn _ := owing_reset
  advance s dt h := h.owed_congr (by simp [State.advance]) Iff.rfl fun runs => h.idle (by simpa [State.advance] using runs)
  raise s k d w h := by simpa [Owes] using h
  offerMq s i h := by simpa [Owes] using h
  sendCommand s r pending _ _ h := h.owed_congr (by simp [pending]) Iff.rfl h.idle
  offer s r h := by simpa [Owes] using h
  advanceBeacon s h := by simpa [Owes] using h
  removeEntry s e _ _ h := by simpa [Owes] using h
  endRelay s r _ st res pending _ h := owes_endRelay pending (by simp) st res h
  expireSession s n runs h := h.owed_congr rfl (by
    have opened := h.idle (by simp [runs])
    simp [opened, State.endSession]) nofun

theorem owes_endMoves : KeptByEndMoves (Owes []) where
  freeSlots s n h := by simpa [Owes] using h
  removeEntry s q h := by simpa [Owes] using h
  listen s r n pending h := h.owed_congr (by simp [pending, State.setPhase]) Iff.rfl h.idle
  endRelay s r st res pending h := owes_endRelay pending (by simp) st res h
  takeReset s scope _ := owes_takeReset s scope

/-! ### The apply -/

theorem State.applyItems_reserved (s : State) (plan : ApplyPlan) (early late : List (Fin 256)) :
    (s.applyItems plan early late).mgmt.reserved = slotsAfter 22 s.mgmt.reserved := by
  unfold State.applyItems
  rw [State.respondTo_reserved, State.sendDrops_mgmt, State.trim_mgmt]
  show slotsAfter 22 (State.dropNotices s _).mgmt.reserved = _
  rw [State.dropNotices_mgmt]

/-- An apply fills the slot of the commit, and no commit is pending. -/
theorem owes_apply {extra : List Reservation} {x : Closing} (others : ∀ r ∈ extra, r.code ≠ 22) (k : CloseKind)
    (early late : List (Fin 256)) (h : Owes extra x.state) : Owes extra (x.apply k early late).state := by
  rcases x.apply_cases k early late with same | ⟨pending, applied⟩
  · rwa [same]
  · have ended := h.commitEnds pending others
    have session := (x.state.applyItems_installs x.state.applyPlan early late).2.2.2
    have slots := x.state.applyItems_reserved x.state.applyPlan early late
    rcases applied with applied | ⟨-, applied⟩ <;> rw [Owes, applied]
    · rwa [State.sourceApplied_mgmt, State.sourceApplied_relay, slots, session, State.applyItems_relay]
    · rwa [State.settingsApplied_mgmt, State.settingsApplied_relay, slots, session, State.applyItems_relay]

/-- A close fills no slot but that of a pending commit. -/
theorem owes_sweepClose {extra : List Reservation} (others : ∀ r ∈ extra, r.code ≠ 22) (s : State) (k : CloseKind)
    (h : Owes extra s) : Owes extra (s.sweepClose k) := by
  have act : ∀ (x : Closing) (a : CloseAct), Owes extra x.state →
      Owes extra (Closing.act k s.sweep.number s.choice x a).state := by
    intro x a hx
    by_cases isApply : a = .apply
    · subst isApply
      exact owes_apply others k _ _ hx
    · by_cases isProceed : a = .proceed
      · subst isProceed
        show Owes extra (x.state.afterClose k)
        rwa [Owes, State.afterClose_mgmt, State.afterClose_relay]
      · obtain ⟨-, -, session, slots⟩ := Closing.act_controller k s.sweep.number s.choice x isApply isProceed
        rwa [Owes, session, slots, Closing.act_relay]
  have acts : ∀ (l : List CloseAct) (x : Closing), Owes extra x.state →
      Owes extra (l.foldl (Closing.act k s.sweep.number s.choice) x).state := by
    intro l
    induction l with
    | nil => exact fun _ hx => hx
    | cons a rest ih => exact fun x hx => ih _ (act x a hx)
  have result := acts (closeOrder s.choice.acts) { state := s.dropChoice.endCollection } h
  unfold State.sweepClose
  simpa [Owes] using result

/-! ### The requests -/

/-- A rule that answers at once and fills no slot but that of a pending commit. -/
structure AnswersAtOnce (body : State → State × Answer) : Prop where
  owes : ∀ (extra : List Reservation) (s : State), (∀ r ∈ extra, r.code ≠ 22) → Owes extra s → Owes extra (body s).1
  answers : ∀ s, (body s).2 ≠ .deferred

/-- What the rule of an addressed request leaves: its own slot reserved with an answer to fill it, or filled or kept. -/
def Handled (tag code : Byte) (result : State × Answer) : Prop :=
  match result.2 with
  | .done _ _ => Owes [⟨tag, code⟩] result.1
  | .deferred => Owes [] result.1

theorem Handled.refused {tag code : Byte} {s : State} (h : Owes [⟨tag, code⟩] s) (st : Status) :
    Handled tag code (s, refusal st) := h

theorem AnswersAtOnce.handled {body : State → State × Answer} (b : AnswersAtOnce body) {tag code : Byte} (other : code ≠ 22)
    {s : State} (h : Owes [⟨tag, code⟩] s) : Handled tag code (body s) := by
  unfold Handled
  split
  · exact b.owes _ s (by simpa using other) h
  · next deferred => exact absurd deferred (b.answers s)

/-- A rule that changes neither the slots, nor the relay, nor the session, and answers at once. -/
theorem answersAtOnce_of_same {body : State → State × Answer}
    (slots : ∀ s, (body s).1.mgmt.reserved = s.mgmt.reserved) (relay : ∀ s, (body s).1.relay = s.relay)
    (session : ∀ s, (body s).1.mgmt.session = s.mgmt.session) (answers : ∀ s, (body s).2 ≠ .deferred) : AnswersAtOnce body :=
  ⟨fun extra s _ h => by rwa [Owes, slots, relay, session], answers⟩

theorem answersAtOnce_reading (results : State → Answer) (answers : ∀ s, results s ≠ .deferred) :
    AnswersAtOnce (reading results) :=
  answersAtOnce_of_same (fun _ => rfl) (fun _ => rfl) (fun _ => rfl) answers

theorem answersAtOnce_readNode (fields : List Byte) : AnswersAtOnce (readNode fields) := by
  have body : ∀ s, ((readNode fields s).1 = s ∨ ∃ i r, (readNode fields s).1 = s.setNodeRun i r) ∧
      (readNode fields s).2 ≠ .deferred := by
    intro s
    unfold readNode
    split
    · dsimp only
      split
      · exact ⟨.inl rfl, nofun⟩
      · dsimp only
        split
        · exact ⟨.inr ⟨_, _, rfl⟩, nofun⟩
        · exact ⟨.inl rfl, nofun⟩
    · exact ⟨.inl rfl, nofun⟩
  refine ⟨fun extra s _ h => ?_, fun s => (body s).2⟩
  rcases (body s).1 with same | ⟨i, r, changed⟩
  · rwa [same]
  · rwa [changed]

theorem readChannel_answers (fields : List Byte) (s : State) : readChannel fields s ≠ .deferred := by
  unfold readChannel
  split <;> exact nofun

theorem answersAtOnce_readCounters (fields : List Byte) : AnswersAtOnce (readCounters fields) := by
  refine ⟨fun extra s _ h => ?_, fun s => ?_⟩ <;> unfold readCounters <;> split
  · dsimp only
    split
    · simpa only [Owes, State.clearGroup] using h
    · exact h
  · exact h
  · exact nofun
  · exact nofun

theorem answersAtOnce_clearEvents (fields : List Byte) : AnswersAtOnce (clearEvents fields) := by
  refine ⟨fun extra s _ h => ?_, fun s => ?_⟩ <;> unfold clearEvents <;> dsimp only <;> split
  · exact h
  · dsimp only
    split
    · simpa [Owes] using h
    · exact h
  · exact nofun
  · exact nofun

theorem answersAtOnce_setNotify (fields : List Byte) : AnswersAtOnce (setNotify fields) := by
  refine ⟨fun extra s _ h => ?_, fun s => ?_⟩ <;> unfold setNotify <;> dsimp only <;> split
  · exact h
  · exact h
  · exact nofun
  · exact nofun

theorem answersAtOnce_startSweeps : AnswersAtOnce State.startSweepsAnswer := by
  refine ⟨fun extra s _ h => ?_, fun s => nofun⟩
  show Owes extra s.startSweeps.1
  unfold State.startSweeps
  split
  · split <;> exact h
  · exact h

theorem answersAtOnce_stopSweeps : AnswersAtOnce (fun x => (x.stopSweeps, okAnswer)) := by
  refine ⟨fun extra s others h => ?_, fun s => nofun⟩
  show Owes extra s.stopSweeps
  unfold State.stopSweeps
  split
  · exact h
  · exact h
  · exact owes_sweepClose others s _ h

theorem answersAtOnce_triggerOnce : AnswersAtOnce (fun x => (x.triggerOnce.1, .done x.triggerOnce.2 [])) := by
  refine ⟨fun extra s _ h => ?_, fun s => nofun⟩
  show Owes extra s.triggerOnce.1
  unfold State.triggerOnce
  split <;> exact h

theorem answersAtOnce_forceReport (fields : List Byte) : AnswersAtOnce (forceReport fields) := by
  have marked : ∀ (cs : List (Fin 256)) (extra : List Reservation) (s : State), Owes extra s → Owes extra (s.markForced cs) :=
    fun cs extra s h => State.foldl_law
      (g := fun (x : State) c => x.setChanRun c { x.chanRun[c] with forcePending := true }) (fun _ _ hx => hx) cs s h
  refine ⟨fun extra s _ h => ?_, fun s => ?_⟩ <;> unfold forceReport <;> dsimp only <;> split
  · exact h
  · split
    · exact h
    · exact marked _ extra s h
  · exact nofun
  · split <;> exact nofun

theorem answersAtOnce_flushClass (fields : List Byte) : AnswersAtOnce (flushClass fields) := by
  refine ⟨fun extra s _ h => ?_, fun s => ?_⟩ <;> unfold flushClass <;> split
  · exact h
  · simpa [Owes] using h
  · exact nofun
  · exact nofun

/-- A session in OPEN owes nothing, before and after a change of its record that keeps it so. -/
theorem owes_setSession {extra : List Reservation} {s : State} {x : Session} (free : s.mgmt.session.state ≠ .commitPending)
    (still : x.state ≠ .commitPending) (idle : x.idle.isSome = true → x.state = .opened) (h : Owes extra s) :
    Owes extra (s.setSession x) :=
  h.owed_congr rfl ⟨fun pending => absurd pending still, fun pending => absurd pending free⟩ idle

theorem owes_restartIdle {extra : List Reservation} {s : State} (opened : s.mgmt.session.state = .opened) (h : Owes extra s) :
    Owes extra s.restartIdle :=
  owes_setSession (by rw [opened]; exact nofun) (by rw [opened]; exact nofun) (fun _ => opened) h

theorem answersAtOnce_sessionOpen (fields : List Byte) : AnswersAtOnce (sessionOpen fields) := by
  refine ⟨fun extra s _ h => ?_, fun s => ?_⟩ <;> unfold sessionOpen <;> dsimp only <;> split
  · next none => exact owes_setSession (by rw [none]; exact nofun) nofun (fun _ => rfl) h
  · next opened =>
    split
    · exact owes_restartIdle opened h
    · exact h
  · exact h
  · exact nofun
  · split <;> exact nofun
  · exact nofun

/-- A rule that runs in OPEN keeps the slots in order, and answers at once. -/
structure AnswersInOpen (body : State → State × Answer) : Prop where
  owes : ∀ (extra : List Reservation) (s : State), s.mgmt.session.state = .opened → Owes extra s → Owes extra (body s).1
  answers : ∀ s, (body s).2 ≠ .deferred

/-- The checks of R159 before a rule of the session. -/
theorem AnswersInOpen.inSession {body : State → State × Answer} (b : AnswersInOpen body) (token : Word) (whilePending : Bool)
    (inPending : whilePending = true → ∀ s, (body s).1 = s) : AnswersAtOnce (inSession token whilePending body) := by
  refine ⟨fun extra s _ h => ?_, fun s => ?_⟩ <;> unfold Machine.inSession <;> split
  · exact h
  · next opened =>
    split
    · exact b.owes extra _ opened (owes_restartIdle opened h)
    · exact h
  · split
    · exact h
    · split
      · next runs => exact (inPending runs s).symm ▸ h
      · exact h
  · exact nofun
  · split
    · exact b.answers _
    · exact nofun
  · split
    · exact nofun
    · split
      · exact b.answers _
      · exact nofun

theorem answersInOpen_stageItem (item : StagedItem) : AnswersInOpen (stageItem item) := by
  have placed : ∀ (extra : List Reservation) (s : State) (items : List StagedItem), s.mgmt.session.state = .opened →
      Owes extra s → Owes extra (s.setSession { s.mgmt.session with items := items }) := fun extra s items opened h =>
    owes_setSession (by rw [opened]; exact nofun) (by rw [opened]; exact nofun) (fun _ => opened) h
  refine ⟨fun extra s opened h => ?_, fun s => ?_⟩ <;> unfold stageItem <;> dsimp only <;> split
  · exact placed extra s _ opened h
  · split
    · exact placed extra s _ opened h
    · exact h
  · exact nofun
  · split <;> exact nofun

/-- A record that is read is staged; one that is not, or out of its table, is refused (R161). -/
theorem answersInOpen_of_cases {body : State → State × Answer}
    (cases : ∀ s, (∃ st, body s = (s, refusal st)) ∨ ∃ item, body s = stageItem item s) : AnswersInOpen body := by
  refine ⟨fun extra s opened h => ?_, fun s => ?_⟩ <;> rcases cases s with ⟨st, refused⟩ | ⟨item, staged⟩
  · rwa [refused]
  · rw [staged]
    exact (answersInOpen_stageItem item).owes extra s opened h
  · rw [refused]
    exact nofun
  · rw [staged]
    exact (answersInOpen_stageItem item).answers s

theorem answersInOpen_stageNode (fields : List Byte) : AnswersInOpen (stageNode fields) :=
  answersInOpen_of_cases fun s => by
    unfold stageNode
    split
    · split
      · exact .inl ⟨_, rfl⟩
      · exact .inr ⟨_, rfl⟩
    · exact .inl ⟨_, rfl⟩

theorem answersInOpen_stageChannel (fields : List Byte) : AnswersInOpen (stageChannel fields) :=
  answersInOpen_of_cases fun s => by
    unfold stageChannel
    split
    · split
      · exact .inl ⟨_, rfl⟩
      · exact .inr ⟨_, rfl⟩
    · exact .inl ⟨_, rfl⟩

theorem answersInOpen_stageSettings (fields : List Byte) : AnswersInOpen (stageSettings fields) :=
  answersInOpen_of_cases fun s => by
    unfold stageSettings
    split
    · exact .inl ⟨_, rfl⟩
    · exact .inr ⟨_, rfl⟩

theorem answersInOpen_readStaged (fields : List Byte) : AnswersInOpen (readStaged fields) := by
  refine ⟨fun extra s _ h => (KeptByRequestMoves.readStaged_same s fields).symm ▸ h, fun s => ?_⟩
  unfold readStaged
  dsimp only
  split
  · exact nofun
  · split <;> exact nofun

theorem answersInOpen_sessionDiscard : AnswersInOpen sessionDiscard :=
  ⟨fun extra s opened h => owes_setSession (by rw [opened]; exact nofun) nofun nofun h, fun _ => nofun⟩

/-- SEGMENT_RELAY is refused, or its slot is kept for the relay (R169). -/
theorem segmentRelay_handled (tag : Byte) (fields : List Byte) (s : State) (h : Owes [⟨tag, 15⟩] s) :
    Handled tag 15 (segmentRelay fields s) := by
  unfold segmentRelay
  split
  · exact h
  · split
    · exact h
    · split
      · exact h
      · next free =>
        split
        · exact h
        · exact h.queueRelay rfl (Option.not_isSome_iff_eq_none.mp free)

/-- COMMIT is refused, or its slot is kept for the pending commit, or filled by the apply (R164). -/
theorem commitSession_handled (tag : Byte) (s : State) (opened : s.mgmt.session.state = .opened) (h : Owes [⟨tag, 22⟩] s) :
    Handled tag 22 (commitSession s) := by
  have free : s.mgmt.session.state ≠ .commitPending := by rw [opened]; exact nofun
  unfold commitSession
  split
  · exact h
  · split
    · exact h.commitWaits rfl free rfl rfl
    · have applied := h.commitApplies rfl free
      have session := s.applyNow_session
      have slots := s.dropChoice.applyItems_reserved s.applyPlan s.choice.dropFirst s.choice.lateDrops
      show Owes [] s.applyNow
      rw [Owes, session]
      unfold State.applyNow
      dsimp only
      split
      · rwa [State.settingsApplied_mgmt, State.settingsApplied_relay, slots, State.applyItems_relay]
      · rwa [slots, State.applyItems_relay]

theorem commit_handled (tag : Byte) (token : Word) (s : State) (h : Owes [⟨tag, 22⟩] s) :
    Handled tag 22 (inSession token false commitSession s) := by
  unfold inSession
  split
  · exact h
  · next opened =>
    split
    · exact commitSession_handled tag _ opened (owes_restartIdle opened h)
    · exact h
  · split
    · exact h
    · split
      · next runs => exact absurd runs nofun
      · exact h

/-- RESET_PART is refused, or its slot is filled at once (R166). -/
theorem resetPart_handled (tag : Byte) (fields : List Byte) (s : State) (h : Owes [⟨tag, 23⟩] s) :
    Handled tag 23 (resetPart tag fields s) := by
  unfold resetPart
  split
  · exact h
  · have answered : Owes [] (s.respond tag 23 .ok []) := by
      rw [Owes, State.respond_reserved, State.respond_relay, State.respond_mgmt_session]
      exact h.respond rfl
    dsimp only
    split
    · exact answered
    · exact owes_takeReset _ _

/-- The rules other than SEGMENT_RELAY, COMMIT and RESET_PART answer at once. -/
theorem rule_handled {c : Instr} {q : RequestRule} (rule : ruleOf c = some q) (s : State)
    (h : Owes [⟨q.request.tag, q.code⟩] s) : Handled q.request.tag q.code (q.body s) := by
  cases c <;> cases rule
  case getIdentity => exact h
  case readSettings => exact h
  case readNode r => exact (answersAtOnce_readNode r.fields).handled (by simp) h
  case readChannel r => exact (answersAtOnce_reading _ (readChannel_answers r.fields)).handled (by simp) h
  case readQueues => exact h
  case readCounters r => exact (answersAtOnce_readCounters r.fields).handled (by simp) h
  case readEvents => exact h
  case clearEvents r => exact (answersAtOnce_clearEvents r.fields).handled (by simp) h
  case setNotify r => exact (answersAtOnce_setNotify r.fields).handled (by simp) h
  case startSweeps => exact answersAtOnce_startSweeps.handled (by simp) h
  case stopSweeps => exact answersAtOnce_stopSweeps.handled (by simp) h
  case triggerOnce => exact answersAtOnce_triggerOnce.handled (by simp) h
  case forceReport r => exact (answersAtOnce_forceReport r.fields).handled (by simp) h
  case flushClass r => exact (answersAtOnce_flushClass r.fields).handled (by simp) h
  case segmentRelay r => exact segmentRelay_handled r.tag r.fields s h
  case sessionOpen r => exact (answersAtOnce_sessionOpen r.fields).handled (by simp) h
  case stageNode r => exact ((answersInOpen_stageNode r.fields).inSession _ false nofun).handled (by simp) h
  case stageChannel r => exact ((answersInOpen_stageChannel r.fields).inSession _ false nofun).handled (by simp) h
  case stageSettings r => exact ((answersInOpen_stageSettings r.fields).inSession _ false nofun).handled (by simp) h
  case readStaged r =>
    exact ((answersInOpen_readStaged r.fields).inSession _ true fun _ x =>
      KeptByRequestMoves.readStaged_same x r.fields).handled (by simp) h
  case sessionDiscard r => exact (answersInOpen_sessionDiscard.inSession _ false nofun).handled (by simp) h
  case commit r => exact commit_handled r.tag _ s h
  case resetPart r => exact resetPart_handled r.tag r.fields s h

/-- A rule that is permitted as a broadcast keeps the slots in order (R152). -/
theorem rule_broadcast {c : Instr} {q : RequestRule} (rule : ruleOf c = some q) (permitted : q.permitted = true) (s : State)
    (h : Owes [] s) : Owes [] (q.body s).1 := by
  cases c <;> cases rule <;> cases permitted
  case clearEvents r => exact (answersAtOnce_clearEvents r.fields).owes [] s (by simp) h
  case startSweeps => exact answersAtOnce_startSweeps.owes [] s (by simp) h
  case stopSweeps => exact answersAtOnce_stopSweeps.owes [] s (by simp) h
  case forceReport r => exact (answersAtOnce_forceReport r.fields).owes [] s (by simp) h

/-- An addressed request leaves no slot but those owed: its own is filled, or is owed from now on (R149, R150). -/
theorem owes_addressed {tag code : Byte} {body : State → State × Answer}
    (handled : ∀ s, Owes [⟨tag, code⟩] s → Handled tag code (body s)) (formOk : Bool) (s : State) (h : Owes [] s) :
    Owes [] (s.addressed code tag formOk body) := by
  have responds : ∀ (t : State) (st : Status) (res : List Byte), Owes [⟨tag, code⟩] t → Owes [] (t.respond tag code st res) := by
    intro t st res ht
    rw [Owes, State.respond_reserved, State.respond_relay, State.respond_mgmt_session]
    exact ht.respond rfl
  unfold State.addressed
  split
  · exact owes_moves.countRaise s _ _ _ h
  · have reserved : Owes [⟨tag, code⟩] (s.reserve tag code) := h.reserve ⟨tag, code⟩
    unfold State.answerRequest
    split
    · exact responds _ _ _ reserved
    · split
      · exact responds _ _ _ reserved
      · have done := handled _ reserved
        unfold Handled at done
        split
        · next out =>
          rw [out] at done
          exact responds _ _ _ done
        · next out =>
          rw [out] at done
          exact done

theorem owes_requests : KeptByRequests (Owes []) where
  runRule c q s rule h := by
    have taken : Owes [] (s.takeHanded q.request.broadcast (q.request.tag :: q.code :: q.request.fields)) := h
    unfold State.runRule State.runRequest
    dsimp only
    split
    · unfold State.broadcast
      split
      · next executed =>
        have permitted : q.permitted = true := by
          simp only [Bool.and_eq_true] at executed
          exact executed.1.1.1.1
        exact rule_broadcast rule permitted _ taken
      · exact h
    · exact owes_addressed (fun x hx => rule_handled rule x hx) _ _ taken
  unknown s b payload h := by
    unfold State.unknownRequest
    split
    · split
      · exact h
      · split
        · exact h
        · exact owes_addressed (fun x hx => Handled.refused hx _) _ (s.takeHanded false _) h
    · exact h

theorem owes_kept : KeptByStep (Owes []) :=
  owes_moves.keptByStep ((owes_endMoves.owners owes_moves).ends owes_moves)
    (fun s k _ h => owes_sweepClose (by simp) s k h) owes_requests

/-- Settles O59. -/
theorem sweepAndSessionKept : Obligations.SweepAndSessionKept := by
  refine ⟨sweepLaw_kept, sessionLaw_kept, fun s t session slots stepped => ?_⟩
  have idle : s.mgmt.session.idle.isSome = true → s.mgmt.session.state = .opened := session.2.2.1.mpr
  exact ((owes_nil_iff t).mp (owes_kept s t ((owes_nil_iff s).mpr ⟨idle, slots⟩) stepped)).2

end Sys2Proof.Machine
end

section
/-! The step, reset, RESET_PART and the symbols that a port receives: what the commands do, one by one. -/

namespace Sys2Proof.Machine

/-! ### The step -/

theorem State.isUp_iff (s : State) (p : Port) : s.isUp p = true ↔ (s.link p).state = .up := by
  simp [State.isUp]

/-- A port's record after the symbols of a tick have left (R121, R126). -/
theorem LinkPort.transmit_eq (p : Port) (n : Nat) (lp : LinkPort) :
    lp.transmit p n = { lp with tx := lp.tx.map (fun t => { t with
      sent := min (t.bytes.length + 3) (t.sent + min (if p = .sg then 16 else 125) n) }) } := by
  have rate : symbolsPerTick p = if p = .sg then 16 else 125 := by cases p <;> rfl
  simp only [LinkPort.transmit, rate]
  congr 2
  funext t
  rw [Transmission.send, Transmission.symbols_length]
  rfl

/-- Settles O1. -/
theorem stepRunsFrontCommandOrTick : Obligations.StepRunsFrontCommandOrTick := by
  refine ⟨fun c rest s => rfl, fun s empty => ⟨_, rfl, ?_⟩⟩
  have up : (s.isUp .tu = true) = (s.links.tu.state = .up) := propext (s.isUp_iff .tu)
  have conf : (if s.isUp .tu = true then { s.conf with entries := s.conf.entries.map (Entry.elapse 1) } else s.conf) =
      if s.links.tu.state = .up then { s.conf with entries := s.conf.entries.map (Entry.elapse 1) } else s.conf := by
    simp only [up]
  have passed : s.advance 1 = { s with
      now := s.now + 1
      sweep := { s.sweep with
        window := s.sweep.window.map (· - 1)
        supervision := s.sweep.supervision.map (· - 1) }
      conf := if s.links.tu.state = .up then { s.conf with entries := s.conf.entries.map (Entry.elapse 1) } else s.conf
      links := ⟨s.links.tu.elapse (s.now + 1) 1, s.links.td.elapse (s.now + 1) 1, s.links.sg.elapse (s.now + 1) 1⟩
      mgmt := { s.mgmt with session := { s.mgmt.session with idle := s.mgmt.session.idle.map (· - 1) } }
      relay := s.relay.map (PendingRelay.elapse 1) } := by
    rw [← conf]
    rfl
  have stepped := step_of_empty s empty
  have calm_iff : (s.notices = [] ∧ s.drops = [] ∧ s.handed = [] ∧ ∀ p, (s.link p).tx = none) ↔
      s.filterIdle ∧ s.lineIdle := by
    constructor
    · rintro ⟨notices, drops, handed, tx⟩
      exact ⟨⟨notices, drops, handed⟩, tx .tu, tx .td, tx .sg⟩
    · rintro ⟨⟨notices, drops, handed⟩, tu, td, sg⟩
      exact ⟨notices, drops, handed, fun p => by cases p <;> assumption⟩
  refine ⟨_, rfl, fun calm => ?_, fun busy => ?_⟩
  · obtain ⟨filter, line⟩ := calm_iff.mp calm
    rw [stepped, s.idle_calm filter line, passed]
    rfl
  · have ticked : s.idle = ((s.advance 1).dropChoice.transmit s.choice.symbols).settle s.choice :=
      if_neg fun quiet => busy (calm_iff.mpr quiet)
    refine ⟨(s.advance 1).dropChoice.transmit s.choice.symbols, _, ?_, fun p => ?_, rfl, fun late => ?_, fun late => ?_⟩
    · rw [passed]
      rfl
    · cases p
      · exact LinkPort.transmit_eq .tu _ _
      · exact LinkPort.transmit_eq .td _ _
      · exact LinkPort.transmit_eq .sg _ _
    · rw [stepped, ticked, State.settle, if_pos late]
    · rw [stepped, ticked, State.settle, if_neg (by rw [late]; exact nofun)]

/-! ### Reset -/

/-- Settles O2. -/
theorem resetValuesAndPowerOn : Obligations.ResetValuesAndPowerOn := by
  refine ⟨rfl, fun i => ?_, fun c => ?_, rfl, rfl, rfl, rfl, fun p => ?_, rfl, rfl, rfl, fun k => ?_, rfl, rfl, rfl,
    fun c => ?_, fun s => ⟨rfl, rfl⟩⟩
  · simp [State.reset]
  · simp [State.reset]
  · cases p <;> rfl
  · simp [State.reset]
  · simp [State.counter, State.reset]

/-- Settles O3. -/
theorem lawsAtReset : Obligations.LawsAtReset := by
  have keeps : ∀ {law : State → Prop}, KeptByMoves law → law State.reset := fun {law} m =>
    show law State.reset.powerOn from m.powerOn State.reset
  have tables := keeps countedTables_moves
  have transmissions := (transmitsOk_iff _).mp (keeps transmitsOk_moves)
  exact ⟨keeps slotsHold_moves, keeps queuesFit_moves, keeps emptyTrue_moves, keeps outstanding_moves, keeps mqFits_moves,
    ((owes_nil_iff _).mp (keeps owes_moves)).2, keeps trunkFits_moves, keeps channelsOk_ranges_moves,
    (persistenceLaw_iff tables.1).mpr tables.2, keeps nodesOk_moves, transmissions.1, transmissions.2, keeps sweepOk_moves,
    (sessionLaw_iff _).mpr (keeps sessionInOrder_moves), tables.1⟩

/-! ### RESET_PART (R166, R167) -/

theorem parseScope_zero : parseScope 0 = some .runtime := rfl

theorem parseScope_one : parseScope 1 = some .tables := rfl

/-- A scope byte above 1 names no scope (R166). -/
theorem parseScope_above {b : Byte} (above : 1 < b.toNat) : parseScope b = none := by
  have not0 : b ≠ 0 := fun zero => absurd above (by rw [zero]; decide)
  have not1 : b ≠ 1 := fun one => absurd above (by rw [one]; decide)
  rw [parseScope, if_neg not0, if_neg not1]

/-- Settles O4. -/
theorem resetPartRequest : Obligations.ResetPartRequest := by
  intro r b s admits fields
  have form : hasFields r 1 = true := by simp [hasFields, fields]
  have byte : byteAt r.fields 0 = b := by simp [fields, byteAt]
  have run : exec (.resetPart r) s = .next (match resetPart r.tag r.fields ((s.tookRequest 23 r).reserve r.tag 23) with
      | (s1, .done st res) => s1.respond r.tag 23 st res
      | (s1, .deferred) => s1) := congrArg _ (s.runRequest_admitted 23 r false _ _ admits form)
  have rule : ∀ scope, parseScope b = some scope → exec (.resetPart r) s = .next
      (if s.isUp .tu then { (s.tookRequest 23 r).answered r 23 .ok [] with mgmt := { s.mgmt with
          items := s.mgmt.items ++ [.response r.tag 23 .ok []]
          resetPending := some scope } }
        else (State.takeReset { (s.tookRequest 23 r).answered r 23 .ok [] with mgmt := { s.mgmt with
          items := s.mgmt.items ++ [.response r.tag 23 .ok []]
          resetPending := some scope } } scope)) := by
    intro scope named
    rw [run]
    unfold resetPart
    rw [byte, named]
    dsimp only
    rw [State.respond_reserve]
    rfl
  refine ⟨fun named up => ?_, fun named down => ?_, fun named down => ?_, fun above => ?_⟩
  · have scope : parseScope b = some (if b = 0 then .runtime else .tables) := by
      rcases named with rfl | rfl <;> rfl
    rw [rule _ scope, if_pos up]
  · subst named
    rw [rule _ parseScope_zero, if_neg (by rw [down]; exact nofun)]
    rfl
  · subst named
    rw [rule _ parseScope_one, if_neg (by rw [down]; exact nofun)]
    rfl
  · rw [run]
    unfold resetPart
    rw [byte, parseScope_above above]
    dsimp only [refusal]
    rw [State.respond_reserve]
    rfl

/-! ### Link ports (R123, R128) -/

section

variable {s : State} {p : Port}

theorem State.receive_down (down : (s.link p).state = .down) (sym : ValidSymbol) : s.receive p sym =
    s.setLink p { s.link p with state := .aligning, silence := some 0, errors := [], idleRun := if sym = .idle then 1 else 0 } := by
  simp only [State.receive, down]
  rfl

theorem State.receive_aligning_idle (aligning : (s.link p).state = .aligning) (run : (s.link p).idleRun < 63) :
    s.receive p .idle = s.setLink p { s.link p with silence := some 0, idleRun := (s.link p).idleRun + 1 } := by
  have short : ¬ idleAfter (s.link p).idleRun .idle = Config.alignRun := by
    show ¬ (s.link p).idleRun + 1 = 64
    omega
  simp only [State.receive, aligning, if_neg short]
  rfl

theorem State.receive_aligning_last (aligning : (s.link p).state = .aligning) (run : (s.link p).idleRun = 63) :
    s.receive p .idle = s.setLink p { s.link p with state := .up, silence := some 0, idleRun := 0 } := by
  have whole : idleAfter (s.link p).idleRun .idle = Config.alignRun := by
    show (s.link p).idleRun + 1 = 64
    omega
  simp only [State.receive, aligning, if_pos whole]

theorem State.receive_aligning_other (aligning : (s.link p).state = .aligning) {sym : ValidSymbol} (other : sym ≠ .idle) :
    s.receive p sym = s.setLink p { s.link p with silence := some 0, idleRun := 0 } := by
  have ended : idleAfter (s.link p).idleRun sym = 0 := if_neg other
  have short : ¬ (0 = Config.alignRun) := by decide
  simp only [State.receive, aligning, ended, if_neg short]

theorem State.receive_up (up : (s.link p).state = .up) (sym : ValidSymbol) : s.receive p sym = s.receiveUp p sym := by
  simp only [State.receive, up]

end

/-- Settles O6. -/
theorem linkAlignment : Obligations.LinkAlignment := by
  refine fun p s => ⟨fun down => ?_, fun aligning => ?_⟩
  · have first : ∀ sym, exec (.linkAligning p sym) s = .next (s.receive p sym) := fun sym => congrArg _ (if_pos down)
    have errorless : s.codeError p = s := if_pos down
    exact ⟨fun sym => (first sym).trans (congrArg _ (State.receive_down down sym)), (first _).symm, (first _).symm,
      fun b => (first _).symm, (first _).symm, congrArg _ errorless⟩
  · have other : ∀ sym, sym ≠ .idle → (Host.Outcome.next (s.receive p sym) : Host.Outcome State Fault Refusal) =
        .next (s.setLink p { s.link p with silence := some 0, idleRun := 0 }) :=
      fun sym notIdle => congrArg _ (State.receive_aligning_other aligning notIdle)
    exact ⟨fun run => congrArg _ (State.receive_aligning_idle aligning run),
      fun run => congrArg _ (State.receive_aligning_last aligning run),
      other .startFrame nofun, fun b => other (.data b) nofun, other .endFrame nofun, congrArg _ (if_pos aligning)⟩

/-- Settles O7. -/
theorem receptionInUp : Obligations.ReceptionInUp := by
  intro p s up
  have heard : ∀ sym, (Host.Outcome.next (s.receive p sym) : Host.Outcome State Fault Refusal) = .next (s.receiveUp p sym) :=
    fun sym => congrArg _ (State.receive_up up sym)
  refine ⟨fun outside => ?_, fun rx inFrame => ?_⟩
  · have still : ∀ sym, sym ≠ .startFrame → s.receiveUp p sym = s.setLink p { s.link p with silence := some 0 } :=
      fun sym other => by
        rw [s.receiveUp_outside p sym outside, if_neg other, ← outside]
    refine ⟨(heard _).trans (congrArg _ (still _ nofun)), (heard _).trans (congrArg _ ?_),
      fun b => (heard _).trans (congrArg _ (still _ nofun))⟩
    rw [s.receiveUp_outside p _ outside, if_pos rfl]
  · have truncated : ∀ restart, exec (.frameTruncated p restart) s = .next (s.receive p (if restart then .startFrame else .idle)) :=
      fun restart => congrArg _ (if_pos (by simp [State.isUp, up, inFrame]))
    have most : maxFrame p = if p = .sg then 67 else 103 := by cases p <;> rfl
    refine ⟨(heard _).trans (congrArg _ ?_), truncated false, (heard _).trans (congrArg _ ?_), truncated true,
      fun b => (heard _).trans (congrArg _ ?_)⟩
    · unfold State.receiveUp
      simp only [inFrame]
    · unfold State.receiveUp
      simp only [inFrame]
    · rw [s.receiveUp_data p rx b inFrame, Reception.add, most]

end Sys2Proof.Machine
end

section
/-! Closed frames judged, frames from TU routed, and code errors. -/

namespace Sys2Proof.Machine

/-- The state a command leads to, in another form. -/
theorem exec_eq {c : Instr} {s t u : State} (run : exec c s = .next t) (same : t = u) : exec c s = .next u := same ▸ run

/-! ### The checks of a closed frame (R129 to R131) -/

/-- A byte enters the CRC register in 8 shifts (R131). -/
theorem crcByte_eq_iterate (c : Word) (b : Byte) :
    crcByte c b = (fun c : Word => if c.msb then (c <<< 1) ^^^ 0x1021 else c <<< 1)^[8] (c ^^^ (b.zeroExtend 16 <<< 8)) := rfl

theorem crc16_append (bs : List Byte) (b : Byte) : crc16 (bs ++ [b]) = crcByte (crc16 bs) b := by
  simp [crc16, List.foldl_append]

section

variable {p : Port} {rx : Reception}

/-- The first check is of the frame's size (R129). -/
theorem failedCheck_size (size : rx.oversize = true ∨ rx.bytes.length < headerLength p + 2) :
    failedCheck p rx = some (.lengthErrors p) := by
  unfold failedCheck
  rw [if_pos (by simpa using size)]

/-- A frame of a size that may hold a CRC. -/
def Sized (p : Port) (rx : Reception) : Prop := ¬ (rx.oversize = true ∨ rx.bytes.length < headerLength p + 2)

theorem failedCheck_sized (sized : Sized p rx) : failedCheck p rx =
    if rx.spoilt = true ∨ rx.bytes.getD (rx.bytes.length - 2) 0 ++ rx.bytes.getD (rx.bytes.length - 1) 0 ≠
        crc16 (rx.bytes.take (rx.bytes.length - 2)) then some (.crcErrors p)
    else if statedLength p rx.bytes + headerLength p + 2 ≠ rx.bytes.length then some (.lengthErrors p)
    else if misdirected p rx.bytes = true then some .misdirected
    else if (byteAt rx.bytes 0 = kindSync ∨ byteAt rx.bytes 0 = kindEnumerate) ∧ statedLength p rx.bytes ≠ 2 then
      some (.lengthErrors p)
    else none := by
  have long : 2 ≤ rx.bytes.length := by
    have := not_or.mp sized
    omega
  have crc := crcGood_iff rx.bytes long
  unfold failedCheck
  rw [if_neg (by simpa [Sized] using sized)]
  simp only [Bool.or_eq_true, Bool.not_eq_true', ← Bool.not_eq_true, crc, bne_iff_ne, Bool.and_eq_true, beq_iff_eq, ne_eq]

theorem misdirected_iff : misdirected p rx.bytes = true ↔
    rx.bytes.getD 0 0 ∉ deliveredKinds p ∨
      if p = .sg then 63 < (rx.bytes.getD 1 0).toNat
      else 31 < (rx.bytes.getD 2 0).toNat ∨ 31 < (rx.bytes.getD 3 0).toNat := by
  cases p <;> simp [misdirected, byteAt]

theorem headerLength_eq (p : Port) : headerLength p = if p = .sg then 3 else 5 := by cases p <;> rfl

end

/-- A port in UP hears an END (R128, R129). -/
theorem State.receive_end {s : State} {p : Port} {rx : Reception} (up : (s.link p).state = .up) (inFrame : (s.link p).rx = some rx) :
    exec (.frameReceived p) s = .next ((s.setLink p { s.link p with silence := some 0, rx := none }).judgeFrame p rx) :=
  congrArg _ ((State.receive_up up .endFrame).trans (s.receiveUp_end p rx inFrame))

theorem State.judgeFrame_failed {p : Port} {rx : Reception} {c : Counter} (failed : failedCheck p rx = some c) (s : State) :
    s.judgeFrame p rx = s.count c := by
  unfold State.judgeFrame
  rw [failed]

theorem State.judgeFrame_good {p : Port} {rx : Reception} (good : failedCheck p rx = none) (s : State) :
    s.judgeFrame p rx = (s.count (.framesIn p)).deliver rx.bytes p := by
  unfold State.judgeFrame
  rw [good]

/-- A frame from TD joins the transit queue that its URGENT flag names, or is dropped (R145). -/
theorem State.arriveTD_cases (s : State) (f : TrunkFrame) :
    (f.flags.getLsbD 0 = true → s.trunk.tqU.length < 16 →
      s.arriveTD f = { s with trunk := { s.trunk with tqU := s.trunk.tqU ++ [f] } }) ∧
    (f.flags.getLsbD 0 = false → s.trunk.tqN.length < 32 →
      s.arriveTD f = { s with trunk := { s.trunk with tqN := s.trunk.tqN ++ [f] } }) ∧
    ((if f.flags.getLsbD 0 then 16 ≤ s.trunk.tqU.length else 32 ≤ s.trunk.tqN.length) →
      s.arriveTD f = (s.count .transitDrop).raiseNow .transitDrop 0) := by
  unfold State.arriveTD urgentBit Config.tqUSlots Config.tqNSlots
  refine ⟨fun urgent room => ?_, fun plain room => ?_, fun full => ?_⟩
  · rw [if_pos urgent, if_pos room]
  · rw [if_neg (by rw [plain]; exact nofun), if_pos room]
  · split at full
    · next urgent =>
      rw [if_pos urgent, if_neg (Nat.not_lt.mpr full)]
      rfl
    · next plain =>
      rw [if_neg plain, if_neg (Nat.not_lt.mpr full)]
      rfl

/-- Settles O8. -/
theorem frameJudged : Obligations.FrameJudged := by
  refine ⟨⟨_, rfl, rfl, fun bs b => (crc16_append bs b).trans (crcByte_eq_iterate _ b)⟩, fun p rx => ?_, fun p s up => ?_⟩
  · refine ⟨_, _, _, _, _, _, _, _, rfl, rfl, rfl, rfl, rfl, rfl, rfl, rfl, ?_⟩
    have astray : (rx.bytes.getD 0 0 ∉ (match p with
          | .tu => [0x11, 0x12, 0x13, 0x14]
          | .td => [0x01, 0x02, 0x03, 0x04, 0x05]
          | .sg => [0x31, 0x32] : List Byte) ∨
        if p = .sg then 63 < (rx.bytes.getD 1 0).toNat
        else 31 < (rx.bytes.getD 2 0).toNat ∨ 31 < (rx.bytes.getD 3 0).toNat) ↔ misdirected p rx.bytes = true := by
      rw [misdirected_iff]
      cases p <;> rfl
    have stated : (rx.bytes.getD (headerLength p - 1) 0).toNat = statedLength p rx.bytes := rfl
    simp only [← headerLength_eq p, stated]
    refine ⟨failedCheck_size, fun sized crc => ?_, fun sized crc length => ?_, fun sized crc length lost => ?_,
      fun sized crc length known payload => ?_, fun sized crc length known payload => ?_⟩ <;> rw [failedCheck_sized sized]
    · rw [if_pos crc]
    · rw [if_neg crc, if_pos length]
    · rw [if_neg crc, if_neg length, if_pos (astray.mp lost)]
    · rw [if_neg crc, if_neg length, if_neg (astray.not.mp known)]
      exact if_pos payload
    · rw [if_neg crc, if_neg length, if_neg (astray.not.mp known)]
      exact if_neg payload
  · refine ⟨fun outside => ?_, fun rx inFrame => ⟨_, rfl, ?_⟩⟩
    · refine congrArg _ ((State.receive_up up _).trans ?_)
      rw [s.receiveUp_outside p _ outside, if_neg nofun, ← outside]
    · rw [State.receive_end up inFrame]
      have failed : ∀ c, failedCheck p rx = some c →
          (s.setLink p { s.link p with silence := some 0, rx := none }).judgeFrame p rx =
            (s.setLink p { s.link p with silence := some 0, rx := none }).count c := fun c h => State.judgeFrame_failed h _
      refine ⟨fun tooLong => congrArg _ (failed _ (failedCheck_size (.inl tooLong))), fun whole long spoilt => congrArg _ (failed _ ?_),
        fun c h => congrArg _ (failed c h), fun good isSg => ?_, fun good isTd f read => ?_⟩
      · have sized : Sized p rx := by
          rintro (tooLong | short)
          · exact absurd (tooLong.symm.trans whole) nofun
          · rw [headerLength_eq] at short
            split at short <;> split at long <;> simp_all <;> omega
        rw [failedCheck_sized sized, if_pos (.inl spoilt)]
      · rw [State.judgeFrame_good good]
        subst isSg
        rfl
      · rw [State.judgeFrame_good good]
        subst isTd read
        obtain ⟨urgent, plain, full⟩ := State.arriveTD_cases
          ((s.setLink .td { s.link .td with silence := some 0, rx := none }).count (.framesIn .td)) (readTrunk rx.bytes)
        exact ⟨fun flag room => congrArg _ (urgent flag room), fun flag room => congrArg _ (plain flag room),
          fun none => congrArg _ (full none)⟩

/-! ### Routing of frames from TU (R136, R141) -/

theorem State.raise_withInbox (s : State) (k : EventKind) (d : Byte) (w : Word) (i : Inbox) :
    ({ s with inbox := i } : State).raise k d w = { s.raise k d w with inbox := i } := by
  unfold State.raise
  show (match s.latch.latched[k.index] with | some _ => _ | none => _) = _
  cases s.latch.latched[k.index] with
  | some o => rfl
  | none =>
    dsimp only
    split
    · unfold State.offerMq
      show (if 0 < s.mqFree then _ else _) = { (if 0 < s.mqFree then _ else _ : State) with inbox := i }
      split <;> rfl
    · rfl

theorem State.forwardOffer_withInbox (s : State) (f : TrunkFrame) (i : Inbox) :
    ({ s with inbox := i } : State).forwardOffer f = { s.forwardOffer f with inbox := i } := by
  unfold State.forwardOffer
  show (if (s.isUp .td && _) = true then _ else _) = { (if (s.isUp .td && _) = true then _ else _ : State) with inbox := i }
  split
  · rfl
  · exact State.raise_withInbox (s.count .forwardDrop) _ _ _ i

section

variable (s : State) (f : TrunkFrame)

/-- The address names this part (R136). -/
def State.addresses (s : State) (f : TrunkFrame) : Prop := f.dest.toNat = s.trunk.own ∧ s.trunk.own ≠ 0

theorem State.routeFrame_ownRequest (kind : f.kind = kindRequest) (mine : s.addresses f) :
    s.routeFrame f = { s with inbox := { s.inbox with executor := s.inbox.executor ++ [⟨false, f.payload⟩] } } := by
  unfold State.routeFrame
  dsimp only
  rw [if_pos kind, if_pos (by simp [mine.1, mine.2])]

theorem State.routeFrame_broadcast (kind : f.kind = kindRequest) (dest : f.dest = 31) (own : s.trunk.own ≤ 30) :
    s.routeFrame f = ({ s with inbox := { s.inbox with executor := s.inbox.executor ++ [⟨true, f.payload⟩] } } :
      State).forwardOffer f := by
  have other : 31 ≠ s.trunk.own := by omega
  unfold State.routeFrame
  dsimp only
  rw [if_pos kind, if_neg (by simp [dest, other]), if_pos dest]

theorem State.routeFrame_otherRequest (kind : f.kind = kindRequest) (other : ¬ s.addresses f) (dest : f.dest ≠ 31) :
    s.routeFrame f = s.forwardOffer f := by
  unfold State.routeFrame
  dsimp only
  rw [if_pos kind, if_neg (by simpa [State.addresses] using other), if_neg dest]

theorem State.routeFrame_ownAck (kind : f.kind = kindAck) (mine : s.addresses f) :
    s.routeFrame f = { s with inbox := { s.inbox with confirm := s.inbox.confirm ++ [f.payload] } } := by
  unfold State.routeFrame
  dsimp only
  rw [if_neg (by rw [kind]; decide), if_pos (by simp [mine.1, mine.2])]

theorem State.routeFrame_otherAck (kind : f.kind = kindAck) (other : ¬ s.addresses f) : s.routeFrame f = s.forwardOffer f := by
  unfold State.routeFrame
  dsimp only
  rw [if_neg (by rw [kind]; decide), if_neg (by simpa [State.addresses] using other)]

/-- The arrivals from TU that wait take no part in the routing of a frame. -/
theorem State.routeFrame_withTu (l : List TrunkFrame) :
    ({ s with inbox := { s.inbox with tu := l } } : State).routeFrame f =
      { s.routeFrame f with inbox := { (s.routeFrame f).inbox with tu := l } } := by
  have passed : ({ s with inbox := { s.inbox with tu := l } } : State).forwardOffer f =
      { s.forwardOffer f with inbox := { (s.forwardOffer f).inbox with tu := l } } := by
    rw [s.forwardOffer_inbox]
    exact s.forwardOffer_withInbox f _
  unfold State.routeFrame
  dsimp only
  split
  · split
    · rfl
    · split
      · have offered := s.forwardOffer_withInbox f { s.inbox with executor := s.inbox.executor ++ [⟨true, f.payload⟩] }
        refine (s.forwardOffer_withInbox f _).trans ?_
        rw [offered]
      · exact passed
  · split
    · rfl
    · exact passed

theorem State.routeFrame_tu : (s.routeFrame f).inbox.tu = s.inbox.tu := by
  unfold State.routeFrame
  dsimp only
  split
  · split
    · rfl
    · split <;> simp
  · split
    · rfl
    · simp

/-- A frame with no command of its own that finds none waiting is routed at once (R136). -/
theorem State.arriveTU_routed (empty : s.inbox.tu = []) (routed : f.isStep = false) : s.arriveTU f = s.routeFrame f := by
  have same : (s.routeFrame f).inbox.tu = [] := (s.routeFrame_tu f).trans empty
  unfold State.arriveTU State.drain
  dsimp only
  rw [empty, List.nil_append, routeAll, if_neg (by rw [routed]; exact nofun), State.routeFrame_withTu, routeAll, ← same]

/-- A SYNC or ENUMERATE that finds no frame waiting waits for its command (R136). -/
theorem State.arriveTU_step (empty : s.inbox.tu = []) (waits : f.isStep = true) :
    s.arriveTU f = { s with inbox := { s.inbox with tu := [f] } } := by
  unfold State.arriveTU State.drain
  dsimp only
  rw [empty, List.nil_append, routeAll, if_pos waits]

/-- A frame behind a SYNC or ENUMERATE joins it (R136). -/
theorem State.arriveTU_behind {g : TrunkFrame} {rest : List TrunkFrame} (head : s.inbox.tu = g :: rest) (waits : g.isStep = true) :
    s.arriveTU f = { s with inbox := { s.inbox with tu := g :: rest ++ [f] } } := by
  unfold State.arriveTU State.drain
  dsimp only
  rw [head, List.cons_append, routeAll, if_pos waits]

end

theorem TrunkFrame.isStep_iff (f : TrunkFrame) : f.isStep = true ↔ f.kind = 0x13 ∨ f.kind = 0x14 := by
  simp [TrunkFrame.isStep, kindSync, kindEnumerate]

/-- Settles O9. -/
theorem trunkRouting : Obligations.TrunkRouting := by
  refine ⟨fun s rx f up inFrame good empty read => ⟨_, rfl, ?_⟩, fun s rx g rest up inFrame good head kind => ?_,
    fun s f => ⟨s.forwardOffer_joins f, s.forwardOffer_refused f⟩⟩
  · rw [State.receive_end up inFrame, State.judgeFrame_good good]
    subst read
    show _ ∧ _ ∧ _ ∧ _ ∧ _ ∧ _
    generalize hs0 : (s.setLink .tu { s.link .tu with silence := some 0, rx := none }).count (.framesIn .tu) = s0
    have inbox : s0.inbox = s.inbox := by rw [← hs0]; rfl
    have own : s0.trunk.own = s.trunk.own := by rw [← hs0]; rfl
    have none : s0.inbox.tu = [] := inbox ▸ empty
    have routed : ∀ k, (readTrunk rx.bytes).kind = k → k = 0x11 ∨ k = 0x12 →
        s0.deliver rx.bytes .tu = s0.routeFrame (readTrunk rx.bytes) := by
      rintro k kind own
      refine s0.arriveTU_routed _ none (Bool.eq_false_iff.mpr fun isStep => ?_)
      rcases (TrunkFrame.isStep_iff _).mp isStep with same | same <;> rw [kind] at same <;> subst same <;>
        simp at own
    have notMine : ∀ f : TrunkFrame, f.dest.toNat ≠ s.trunk.own ∨ s.trunk.own = 0 → ¬ s0.addresses f := by
      rintro f other ⟨mine, assigned⟩
      rw [own] at mine assigned
      exact other.elim (fun h => h mine) (fun h => assigned h)
    refine ⟨fun kind mine assigned => ?_, fun kind dest low => ?_, fun kind other dest => ?_, fun kind mine assigned => ?_,
      fun kind other => ?_, fun kind => ?_⟩
    · rw [routed _ kind (.inl rfl), s0.routeFrame_ownRequest _ kind (by rw [State.addresses, own]; exact ⟨mine, assigned⟩), inbox]
    · rw [routed _ kind (.inl rfl), s0.routeFrame_broadcast _ kind dest (own ▸ low), inbox]
    · rw [routed _ kind (.inl rfl), s0.routeFrame_otherRequest _ kind (notMine _ other) dest]
    · rw [routed _ kind (.inr rfl), s0.routeFrame_ownAck _ kind (by rw [State.addresses, own]; exact ⟨mine, assigned⟩), inbox]
    · rw [routed _ kind (.inr rfl), s0.routeFrame_otherAck _ kind (notMine _ other)]
    · show Host.Outcome.next (s0.arriveTU (readTrunk rx.bytes)) = _
      rw [s0.arriveTU_step _ none ((TrunkFrame.isStep_iff _).mpr kind), inbox]
  · rw [State.receive_end up inFrame, State.judgeFrame_good good]
    exact congrArg _ (State.arriveTU_behind _ _ head ((TrunkFrame.isStep_iff g).mpr kind))

/-! ### Code errors and losses outside UP (R123, R124) -/

theorem State.link_advance_state (s : State) (dt : Nat) (p : Port) : ((s.advance dt).link p).state = (s.link p).state := by
  cases p <;> rfl

/-- A loss in ALIGNING empties the link record alone (R124). -/
theorem State.linkLoss_aligning {s : State} {p : Port} (aligning : (s.link p).state = .aligning) :
    s.linkLoss p = s.setLink p {} := by
  unfold State.linkLoss
  dsimp only
  rw [aligning]
  rfl

/-- Settles O10. -/
theorem codeErrorsAndLossInAligning : Obligations.CodeErrorsAndLossInAligning := by
  refine fun p s on => ⟨fun few => exec_eq rfl ?_, fun many => exec_eq rfl ?_,
    fun aligning => exec_eq rfl ?_,
    fun n silence => ?_⟩
  · have short : ¬ Config.noiseErrors ≤ (recentErrors s.now (s.link p).errors).length + 1 := Nat.not_le.mpr (Nat.succ_lt_succ few)
    unfold State.codeError
    dsimp only
    rw [if_neg on, if_neg short]
    rfl
  · have noisy : Config.noiseErrors ≤ (recentErrors s.now (s.link p).errors).length + 1 := Nat.succ_le_succ many
    unfold State.codeError
    dsimp only
    rw [if_neg on, if_pos noisy]
  · exact State.linkLoss_aligning aligning
  · have lost : exec (.linkSilenceLoss p) s = exec (.linkNoiseLoss p) (s.advance (10 - n)) := by
      show execLinkSilenceLoss p s = _
      unfold execLinkSilenceLoss
      rw [silence]
      rfl
    refine ⟨lost, fun aligning => lost.trans (exec_eq rfl ?_)⟩
    exact State.linkLoss_aligning ((s.link_advance_state _ p).trans aligning)

end Sys2Proof.Machine
end

section
/-! Transmissions: how a port starts, what its end and its abort tell the owner, and the turns of Diagnostics and SG. -/

namespace Sys2Proof.Machine

/-! ### The end of a transmission (R103, R104, R126, R127) -/

/-- The state in which the owner of a completed transmission is told (R126). -/
def State.sent (s : State) (p : Port) : State := (s.setLink p { s.link p with tx := none }).count (.framesOut p)

theorem exec_transmissionComplete {s : State} {p : Port} {tx : Transmission} (sends : (s.link p).tx = some tx) :
    exec (.transmissionComplete p) s = .next (s.complete p tx) := by
  show execTransmissionComplete p s = _
  unfold execTransmissionComplete
  rw [sends]

theorem State.complete_scheduler {s : State} {p : Port} {tx : Transmission} (owner : tx.owner = .scheduler) :
    s.complete p tx = (s.sent p).dropChoice.uplinkCompleted s.choice.chooseFirst := if_pos owner

theorem State.complete_other {s : State} {p : Port} {tx : Transmission} (owner : tx.owner ≠ .scheduler) :
    s.complete p tx = (s.sent p).tellOwnerCompleted false tx.owner := if_neg owner

theorem State.uplinkCompleted_flight {s : State} {f : Flight} (flight : s.uplink.flight = some f) (chooseFirst : Bool) :
    s.uplinkCompleted chooseFirst =
      if chooseFirst then s.clearFlight.uplinkChoice.tellCompleted f else s.clearFlight.tellCompleted f := by
  unfold State.uplinkCompleted
  rw [flight]

theorem State.uplinkAborted_flight {s : State} {f : Flight} (flight : s.uplink.flight = some f) (late : List (Fin 256)) :
    s.uplinkAborted late = s.clearFlight.tellAborted late f := by
  unfold State.uplinkAborted
  rw [flight]

theorem State.takePendingReset_some {s : State} {scope : Scope} (pending : s.mgmt.resetPending = some scope) :
    s.takePendingReset = s.takeReset scope := by
  unfold State.takePendingReset
  rw [pending]

theorem State.takePendingReset_none {s : State} (none : s.mgmt.resetPending = Option.none) : s.takePendingReset = s := by
  unfold State.takePendingReset
  rw [none]

/-- With no reset pending, an item's end changes nothing (R167). -/
theorem State.itemEnded_noReset {s : State} (none : s.mgmt.resetPending = Option.none) (i : MqItem) : s.itemEnded i = s := by
  unfold State.itemEnded
  split
  · exact State.takePendingReset_none none
  · rfl

theorem State.itemEnded_other (s : State) {i : MqItem} (other : i.answersReset = false) : s.itemEnded i = s :=
  if_neg (by rw [other]; exact nofun)

/-- With no reset pending, TU that leaves UP tells nobody (R125, R167). -/
theorem State.tellNotUp_noReset {s : State} (none : s.mgmt.resetPending = Option.none) : s.tellNotUp .tu = s := by
  show (if s.mgmt.items.any MqItem.answersReset then s.takePendingReset else s) = s
  split
  · exact State.takePendingReset_none none
  · rfl

/-- Settles O12. -/
theorem transmissionCompleted : Obligations.TransmissionCompleted := by
  refine fun p s tx sends => ⟨s.sent p, rfl, fun owner => ?_, fun r owner pending => ?_, fun f owner flight => ⟨_, rfl, ?_, ?_⟩⟩ <;>
    rw [exec_transmissionComplete sends]
  · rcases owner with owner | owner | owner <;> rw [State.complete_other (by rw [owner]; exact nofun), owner] <;> rfl
  · have relay : (s.sent p).relay = some r := pending
    rw [State.complete_other (by rw [owner]; exact nofun), owner]
    show Host.Outcome.next (s.sent p).relayCompleted = _
    unfold State.relayCompleted
    rw [relay]
    show Host.Outcome.next ((s.sent p).setPhase r (.listening (s.settings.relayTimeout * 100))) = _
    rw [Nat.mul_comm]
    rfl
  · intro first
    rw [State.complete_scheduler owner, first, State.uplinkCompleted_flight (s := (s.sent p).dropChoice) flight]
    rfl
  · intro later
    rw [State.complete_scheduler owner, later, State.uplinkCompleted_flight (s := (s.sent p).dropChoice) flight,
      if_neg Bool.false_ne_true]
    have other : ∀ i : MqItem, i.answersReset = false →
        (s.sent p).dropChoice.clearFlight.tellCompleted (.item i) = (s.sent p).dropChoice.clearFlight :=
      fun i notReset => State.itemEnded_other _ notReset
    refine ⟨fun m rs same some => ?_, fun q again same => ?_, fun same => ?_, fun k sw d same => ?_, fun same => ?_,
      fun tag code st rs same notReset => ?_, fun tag rs scope same pending => ?_⟩
    · subst same
      have freed := (s.sent p).dropChoice.clearFlight.freeSlots_pos rs.length (by simpa using some)
      exact congrArg _ freed
    · subst same
      rfl
    · rcases same with rfl | rfl | rfl <;> rfl
    · subst same
      exact congrArg _ (other _ rfl)
    · subst same
      exact congrArg _ (other _ rfl)
    · subst same
      by_cases none : s.mgmt.resetPending = none
      · exact congrArg _ (State.itemEnded_noReset (s := (s.sent p).dropChoice.clearFlight) none _)
      · refine congrArg _ (other _ ?_)
        show (code == 23 && st == .ok) = false
        rcases notReset with notCode | notOk | notPending
        · rw [beq_eq_false_iff_ne.mpr notCode, Bool.false_and]
        · rw [beq_eq_false_iff_ne.mpr notOk, Bool.and_false]
        · exact absurd notPending none
    · subst same
      exact congrArg _ (State.takePendingReset_some (s := (s.sent p).dropChoice.clearFlight) pending)

/-! ### The loss of a link in UP (R124, R125) -/

/-- The state in which a port that has lost its link has nothing on its line (R124, R125). -/
def State.down (s : State) (p : Port) : State := (s.setLink p {}).dropChoice

theorem State.linkLoss_up {s : State} {p : Port} (up : (s.link p).state = .up) :
    s.linkLoss p = if s.choice.tellFirst then ((s.down p).tellLoss p (s.link p).tx s.choice).noteLoss p
      else ((s.down p).noteLoss p).tellLoss p (s.link p).tx s.choice := by
  unfold State.linkLoss
  dsimp only
  rw [up]
  rfl

/-- A transmission whose END has not left, and which no reset cuts off, is aborted and then TU tells that it is down (R127). -/
theorem State.tellLoss_aborted {s : State} {p : Port} {t : Transmission} {c : Choice} (notGone : c.endLeft = false)
    (notSent : t.sent < t.bytes.length + 2) :
    s.tellLoss p (some t) c =
      if c.resetFirst then (s.tellNotUp p).tellOwnerAborted c.lateDrops t.owner
      else (s.tellOwnerAborted c.lateDrops t.owner).tellNotUp p := by
  have open_ : ¬ (c.endLeft || t.endGone) = true := by
    simp [notGone, Transmission.endGone]
    omega
  show (if (c.endLeft || t.endGone) = true then _ else _) = _
  rw [if_neg open_]

/-- With no reset pending, the loss of TU told of a frame in flight is its abort, in either order (R104). -/
theorem State.tellLoss_tu_noReset {s : State} {bytes : List Byte} {sent : Nat} {f : Flight} {c : Choice}
    (notGone : c.endLeft = false) (notSent : sent < bytes.length + 2) (flight : s.uplink.flight = some f)
    (none : s.mgmt.resetPending = Option.none)
    (kept : (s.clearFlight.tellAborted c.lateDrops f).mgmt.resetPending = Option.none) :
    s.tellLoss .tu (some ⟨bytes, .scheduler, sent⟩) c = s.clearFlight.tellAborted c.lateDrops f := by
  have aborted : s.tellOwnerAborted c.lateDrops .scheduler = s.clearFlight.tellAborted c.lateDrops f :=
    State.uplinkAborted_flight flight _
  rw [State.tellLoss_aborted notGone notSent]
  split
  · rw [State.tellNotUp_noReset none]
    exact aborted
  · show (s.tellOwnerAborted c.lateDrops .scheduler).tellNotUp .tu = _
    rw [aborted]
    exact State.tellNotUp_noReset kept

/-- Settles O13. -/
theorem uplinkAbort : Obligations.UplinkAbort := by
  intro s bytes sent f up sends notSent flight none notGone noteFirst
  have uplink : ((s.down .tu).noteLoss .tu).uplink = s.uplink := State.noteLoss_uplink ..
  have pending : ((s.down .tu).noteLoss .tu).mgmt.resetPending = Option.none := (State.noteLoss_mgmt_resetPending ..).trans none
  generalize noted : (s.down .tu).noteLoss .tu = t at uplink pending
  have lost : (t.clearFlight.tellAborted s.choice.lateDrops f).mgmt.resetPending = Option.none →
      exec (.linkNoiseLoss .tu) s = .next (t.clearFlight.tellAborted s.choice.lateDrops f) := by
    intro kept
    refine exec_eq rfl ?_
    rw [State.linkLoss_up up, if_neg (by rw [noteFirst]; exact nofun), sends, noted]
    exact State.tellLoss_tu_noReset notGone notSent (uplink ▸ flight) pending kept
  refine ⟨t.clearFlight, ?_, fun m rs same => ?_, fun q again same => ?_, fun same => ?_, fun i same => ?_, fun same => ?_⟩
  · rw [← noted, State.clearFlight, State.noteLoss_uplink]
    rfl
  · subst same
    exact lost (by simpa [State.tellAborted] using pending)
  · subst same
    refine lost ?_
    show (t.clearFlight.urgentAborted q).mgmt.resetPending = _
    rw [State.urgentAborted_mgmt]
    exact pending
  · rcases same with rfl | rfl <;> exact lost pending
  · subst same
    have ended := State.itemEnded_noReset (s := t.clearFlight.count .noticeLost) pending i
    have told : t.clearFlight.tellAborted s.choice.lateDrops (.item i) = t.clearFlight.count .noticeLost := ended
    rw [← told]
    exact lost (told ▸ pending)
  · subst same
    exact lost pending

/-! ### The starts of transmission on TD and SG, and the symbols sent (R5, R121, R126, R143, R170) -/

theorem frameSymbols_getD (bytes : List Byte) :
    (frameSymbols bytes).getD 0 .idle = .startFrame ∧
    (∀ i b, bytes[i]? = some b → (frameSymbols bytes).getD (i + 1) .idle = .data b) ∧
    (frameSymbols bytes).getD (bytes.length + 1) .idle = .endFrame ∧
    (frameSymbols bytes).getD (bytes.length + 2) .idle = .idle ∧
    (frameSymbols bytes).getD (bytes.length + 3) .idle = .idle := by
  refine ⟨rfl, fun i b held => ?_, ?_, ?_, ?_⟩
  · obtain ⟨inFrame, held⟩ := List.getElem?_eq_some_iff.mp held
    simp [frameSymbols, List.getD, List.getElem?_append_left, inFrame, held]
  · simp [frameSymbols, List.getD]
  · simp [frameSymbols, List.getD]
  · simp [frameSymbols, List.getD]

theorem LinkPort.sends_tx {lp : LinkPort} {tx : Transmission} (sending : lp.tx = some tx) :
    lp.sends = (frameSymbols tx.bytes).getD tx.sent .idle := by
  unfold LinkPort.sends
  rw [sending]
  rfl

/-- Settles O15. -/
theorem dfqSendAndArbiterStart : Obligations.DfqSendAndArbiterStart := by
  refine ⟨fun lp idle => ?_, fun lp tx sending => ?_, fun s f rest waiting up idle => ?_, fun s up idle => ?_⟩
  · unfold LinkPort.sends
    rw [idle]
  · obtain ⟨start, data, ended, gap, gap'⟩ := frameSymbols_getD tx.bytes
    rw [LinkPort.sends_tx sending]
    refine ⟨fun place => by rw [place, start], fun i b held place => by rw [place, data i b held], fun place => by rw [place, ended],
      ?_, tx.symbols_length, fun n => ⟨rfl, rfl, ?_⟩⟩
    · rintro (place | place)
      · rw [place, gap]
      · rw [place, gap']
    · rw [Transmission.send, Transmission.symbols_length]
      rfl
  · have send : s.canSend .td = true := (s.canSend_iff .td).mpr ⟨up, idle⟩
    show execDfqSend s = _
    unfold execDfqSend
    rw [waiting]
    dsimp only
    rw [if_pos send]
    rfl
  · have send : s.canSend .sg = true := (s.canSend_iff .sg).mpr ⟨up, idle⟩
    have starts : exec .sgArbiterStart s = .next s.arbiter := exec_eq rfl (if_pos send)
    rw [starts]
    refine ⟨fun n waiting => ?_, fun r none pending queued => ?_, fun none idleRelay => ?_⟩ <;> unfold State.arbiter
    · rw [waiting]
      rfl
    · rw [none, pending]
      dsimp only
      rw [queued]
      rfl
    · rw [none]
      dsimp only
      split
      · rfl
      · next r pending =>
        have notQueued := idleRelay r pending
        split
        · next queued => exact absurd queued notQueued
        · rfl
        · rfl

end Sys2Proof.Machine
end

section
/-! ENUMERATE and the timers of the sweep. -/

namespace Sys2Proof.Machine

/-! ### Frames with a command of their own (R136) -/

/-- With no arrival waiting there is nothing to route. -/
theorem State.drain_empty {s : State} (empty : s.inbox.tu = []) : s.drain = s := by
  unfold State.drain
  rw [empty, routeAll, ← empty]

/-- What the routing of arrivals keeps: what a change of the waiting frames and an offer to DFQ keep. -/
theorem State.drain_law {law : State → Prop} (inbox : ∀ s i, law s → law { s with inbox := i })
    (offer : ∀ (s : State) f, law s → law (s.forwardOffer f)) (s : State) (h : law s) : law s.drain := by
  have frame : ∀ (s : State) f, law s → law (s.routeFrame f) := by
    intro s f h
    unfold State.routeFrame
    dsimp only
    split
    · split
      · exact inbox s _ h
      · split
        · exact offer _ f (inbox s _ h)
        · exact offer s f h
    · split
      · exact inbox s _ h
      · exact offer s f h
  have all : ∀ (fs : List TrunkFrame) (s : State), law s → law (routeAll s fs) := by
    intro fs
    induction fs with
    | nil => exact fun s h => inbox s _ h
    | cons f rest ih =>
      intro s h
      rw [routeAll]
      split
      · exact inbox s _ h
      · exact ih _ (frame s f h)
  exact all _ s h

/-- The state in which the only frame that waits is taken (R136). -/
def State.tookFrame (s : State) : State := { s with choices := s.choices.tail, inbox := { s.inbox with tu := [] } }

/-- The only frame that waits is taken, and passed on before its action or after it. -/
theorem State.takeStep_forward {s : State} {f g : TrunkFrame} {act : State → State} (only : s.inbox.tu = [f])
    (acts : ∀ x, (act x).inbox = x.inbox) :
    s.takeStep f (some g) act =
      if s.choice.forwardFirst then act (s.tookFrame.forwardOffer g) else (act s.tookFrame).forwardOffer g := by
  have taken : ({ s.dropChoice with inbox := { s.inbox with tu := dropHead f s.inbox.tu } } : State) = s.tookFrame := by
    rw [only]
    simp [dropHead, State.tookFrame, State.dropChoice]
  unfold State.takeStep
  dsimp only
  rw [taken]
  refine State.drain_empty ?_
  split
  · rw [acts, State.forwardOffer_inbox]
    rfl
  · rw [State.forwardOffer_inbox, acts]
    rfl

theorem State.takeStep_alone {s : State} {f : TrunkFrame} {act : State → State} (only : s.inbox.tu = [f])
    (acts : ∀ x, (act x).inbox = x.inbox) : s.takeStep f none act = act s.tookFrame := by
  have taken : ({ s.dropChoice with inbox := { s.inbox with tu := dropHead f s.inbox.tu } } : State) = s.tookFrame := by
    rw [only]
    simp [dropHead, State.tookFrame, State.dropChoice]
  unfold State.takeStep
  dsimp only
  rw [taken, ite_self]
  exact State.drain_empty ((congrArg Inbox.tu (acts _)).trans rfl)

/-- The Dispatcher's record takes no part in what a raise does. -/
theorem State.raise_withTrunk (s : State) (k : EventKind) (d : Byte) (w : Word) (t : Trunk) :
    ({ s with trunk := t } : State).raise k d w = { s.raise k d w with trunk := t } := by
  unfold State.raise
  show (match s.latch.latched[k.index] with | some _ => _ | none => _) = _
  cases s.latch.latched[k.index] with
  | some o => rfl
  | none =>
    dsimp only
    split
    · unfold State.offerMq
      show (if 0 < s.mqFree then _ else _) = { (if 0 < s.mqFree then _ else _ : State) with trunk := t }
      split <;> rfl
    · rfl

/-- An offer to DFQ changes the Dispatcher's record at DFQ alone (R142). -/
theorem State.forwardOffer_trunk (s : State) (f : TrunkFrame) :
    (s.forwardOffer f).trunk = { s.trunk with dfq := (s.forwardOffer f).trunk.dfq } := by
  unfold State.forwardOffer
  split
  · rfl
  · rw [State.raiseNow_trunk]
    rfl

theorem State.forwardOffer_own (s : State) (f : TrunkFrame) : (s.forwardOffer f).trunk.own = s.trunk.own := by
  rw [s.forwardOffer_trunk f]

/-! ### ENUMERATE (R137 to R140) -/

theorem badNext_iff (next : Byte) : badNext next = true ↔ next.toNat = 0 ∨ 31 < next.toNat := by
  have zero : next = 0 ↔ next.toNat = 0 := by
    rw [BitVec.toNat_eq]
    rfl
  simp [badNext, ← zero]

theorem eq_31_iff (next : Byte) : next = 31 ↔ next.toNat = 31 := by
  rw [BitVec.toNat_eq]
  rfl

/-- The next address to pass on (R137). -/
theorem add_one_eq_ofNat (next : Byte) : next + 1 = BitVec.ofNat 8 (next.toNat + 1) := by
  apply BitVec.eq_of_toNat_eq
  simp [BitVec.toNat_add]

theorem State.mqFree_pos (s : State) : 0 < s.mqFree ↔ s.mgmt.items.length + s.mgmt.reserved.length < 8 := by
  simp only [State.mqFree, Config.mqSlots]
  omega

/-- An address is assigned, its ANNOUNCE queued or lost (R140). -/
theorem State.assign_eq (s : State) (a : Nat) : s.assign a =
    if s.mgmt.items.length + s.mgmt.reserved.length < 8 then
      { s with trunk := { s.trunk with own := a }, mgmt := { s.mgmt with items := s.mgmt.items ++ [.announce] } }
    else ({ s with trunk := { s.trunk with own := a } } : State).count .noticeLost := by
  unfold State.assign State.offerMq
  exact if_congr (State.mqFree_pos _) rfl rfl

theorem State.assign_inbox (s : State) (a : Nat) : (s.assign a).inbox = s.inbox := State.offerMq_inbox ..

theorem State.assign_own (s : State) (a : Nat) : (s.assign a).trunk.own = a := by
  rw [State.assign, State.offerMq_trunk]

theorem State.assign_dfq (s : State) (a : Nat) : (s.assign a).trunk.dfq = s.trunk.dfq := by
  rw [State.assign, State.offerMq_trunk]

theorem State.assign_isUp (s : State) (a : Nat) (p : Port) : (s.assign a).isUp p = s.isUp p := by
  rw [State.isUp, State.link, State.assign, State.offerMq_links]
  rfl

/-- An address is assigned and the frame passed on to a DFQ with room, in either order. -/
theorem State.assign_forward {s : State} {f : TrunkFrame} (a : Nat) (up : s.isUp .td = true) (room : s.trunk.dfq.length < 16)
    (first : Bool) : (if first then (s.forwardOffer f).assign a else (s.assign a).forwardOffer f) =
      { s.assign a with trunk := { (s.assign a).trunk with dfq := s.trunk.dfq ++ [f] } } := by
  split
  · rw [State.forwardOffer_joins s f up room, State.assign_eq, State.assign_eq]
    dsimp only
    split <;> rfl
  · rw [State.forwardOffer_joins _ f (by rw [State.assign_isUp]; exact up) (by rw [State.assign_dfq]; exact room),
      State.assign_dfq]

theorem State.assign_forward_own (s : State) (f : TrunkFrame) (a : Nat) (first : Bool) :
    (if first then (s.forwardOffer f).assign a else (s.assign a).forwardOffer f).trunk.own = a := by
  split
  · exact State.assign_own ..
  · exact (State.forwardOffer_own ..).trans (State.assign_own ..)

/-- The address is given up and the frame passed on, in either order. -/
theorem State.unassign_forward (s : State) (f : TrunkFrame) :
    (s.forwardOffer f).unassign = s.unassign.forwardOffer f := by
  by_cases joins : s.isUp .td = true ∧ s.trunk.dfq.length < 16
  · rw [State.forwardOffer_joins s f joins.1 joins.2, State.forwardOffer_joins s.unassign f joins.1 joins.2]
    rfl
  · have refused : s.isUp .td = false ∨ 16 ≤ s.trunk.dfq.length := by
      rw [not_and_or, Bool.not_eq_true, Nat.not_lt] at joins
      exact joins
    rw [State.forwardOffer_refused s f refused, State.forwardOffer_refused s.unassign f refused]
    refine Eq.trans ?_ (State.raise_withTrunk (s.count .forwardDrop) .forwardDrop 0 s.sweep.number
      { s.trunk with own := 0 }).symm
    unfold State.unassign
    rw [State.raiseNow_trunk]
    rfl

/-- Settles O16. -/
theorem enumerate : Obligations.Enumerate := by
  refine ⟨fun h flag next s only => ⟨s.tookFrame, rfl, ?_⟩, fun h next s only => ⟨s.tookFrame, rfl, ?_⟩⟩
  · have bad : badNext next = true → exec (.enumerateRestart h flag next) s = .next (s.tookFrame.count (.lengthErrors .tu)) :=
      fun bad => exec_eq rfl ((if_pos bad).trans (State.takeStep_alone only fun _ => rfl))
    have assigns : badNext next ≠ true → next ≠ 31 → exec (.enumerateRestart h flag next) s = .next
        (if s.choice.forwardFirst then
          (s.tookFrame.forwardOffer ⟨0x14, h.flags, h.dest, h.src, [flag, BitVec.ofNat 8 (next.toNat + 1)]⟩).assign next.toNat
        else (s.tookFrame.assign next.toNat).forwardOffer
          ⟨0x14, h.flags, h.dest, h.src, [flag, BitVec.ofNat 8 (next.toNat + 1)]⟩) := by
      intro good notLast
      rw [← add_one_eq_ofNat]
      exact exec_eq rfl ((if_neg good).trans ((if_neg notLast).trans
        (State.takeStep_forward only fun x => x.assign_inbox next.toNat)))
    have gives : next = 31 → exec (.enumerateRestart h flag next) s = .next
        (s.tookFrame.unassign.forwardOffer ⟨0x14, h.flags, h.dest, h.src, [flag, next]⟩) := by
      intro last
      have good : badNext next ≠ true := by rw [last]; decide
      refine exec_eq rfl ((if_neg good).trans ((if_pos last).trans ((State.takeStep_forward (act := State.unassign) only fun _ => rfl).trans ?_)))
      rw [State.unassign_forward, ite_self]
      rfl
    refine ⟨fun low high => ⟨s.tookFrame.assign next.toNat, State.assign_eq .., ?_⟩, fun last => ?_, fun out => ?_⟩
    · have run := assigns (by rw [ne_eq, badNext_iff]; omega) (by rw [ne_eq, eq_31_iff]; omega)
      refine ⟨fun up room => ?_, fun refused later => ?_, ⟨_, run, State.assign_forward_own ..⟩⟩
      · rw [run, State.assign_forward (s := s.tookFrame) next.toNat up room]
        rfl
      · rw [run, if_neg (by rw [later]; exact nofun), State.forwardOffer_refused]
        rw [State.assign_isUp, State.assign_dfq]
        exact refused
    · rw [gives ((eq_31_iff next).mpr last)]
      refine ⟨fun up room => ?_, fun refused => ?_⟩
      · rw [State.forwardOffer_joins s.tookFrame.unassign _ up room]
        rfl
      · rw [State.forwardOffer_refused s.tookFrame.unassign _ refused]
        rfl
    · exact bad ((badNext_iff next).mpr out)
  · have bad : badNext next = true → exec (.enumerateClear h next) s = .next (s.tookFrame.count (.lengthErrors .tu)) :=
      fun bad => exec_eq rfl ((if_pos bad).trans (State.takeStep_alone only fun _ => rfl))
    have assigns : badNext next ≠ true → s.trunk.own = 0 → next ≠ 31 → exec (.enumerateClear h next) s = .next
        (if s.choice.forwardFirst then
          (s.tookFrame.forwardOffer ⟨0x14, h.flags, h.dest, h.src, [0, BitVec.ofNat 8 (next.toNat + 1)]⟩).assign next.toNat
        else (s.tookFrame.assign next.toNat).forwardOffer
          ⟨0x14, h.flags, h.dest, h.src, [0, BitVec.ofNat 8 (next.toNat + 1)]⟩) := by
      intro good free notLast
      rw [← add_one_eq_ofNat]
      exact exec_eq rfl ((if_neg good).trans ((if_pos ⟨free, notLast⟩).trans
        (State.takeStep_forward only fun x => x.assign_inbox next.toNat)))
    have passes : badNext next ≠ true → ¬ (s.trunk.own = 0 ∧ next ≠ 31) → exec (.enumerateClear h next) s = .next
        (s.tookFrame.forwardOffer ⟨0x14, h.flags, h.dest, h.src, [0, next]⟩) := by
      intro good other
      refine exec_eq rfl ((if_neg good).trans ((if_neg other).trans ((State.takeStep_forward (act := id) only fun _ => rfl).trans ?_)))
      exact ite_self _
    refine ⟨fun free low high queue up room => ?_, fun free low high => ?_, fun low high other => ?_, fun out => ?_⟩
    · have run := assigns (by rw [ne_eq, badNext_iff]; omega) free (by rw [ne_eq, eq_31_iff]; omega)
      have assigned := (s.tookFrame.assign_eq next.toNat).trans (if_pos queue)
      rw [run, State.assign_forward (s := s.tookFrame) next.toNat up room, assigned]
      rfl
    · have run := assigns (by rw [ne_eq, badNext_iff]; omega) free (by rw [ne_eq, eq_31_iff]; omega)
      exact ⟨_, run, State.assign_forward_own ..⟩
    · have run := passes (by rw [ne_eq, badNext_iff]; omega) fun ⟨free, notLast⟩ =>
        other.elim (fun assigned => assigned free) fun last => notLast ((eq_31_iff next).mpr last)
      rw [run]
      refine ⟨fun up room => ?_, fun refused => ?_⟩
      · rw [State.forwardOffer_joins s.tookFrame _ up room]
        rfl
      · rw [State.forwardOffer_refused s.tookFrame _ refused]
    · exact bad ((badNext_iff next).mpr out)

/-! ### The timers of the sweep (R10, R14) -/

/-- Settles O18. -/
theorem sweepTimers : Obligations.SweepTimers := by
  refine ⟨fun s n runs => ?_, fun s t0 localSource quiet last => ⟨_, rfl, ?_⟩, fun s localSource quiet never => ?_⟩
  · show execSyncSupervisionExpiry s = _
    have restarted : { ((s.advance n).raiseNow .syncGap 0).sweep with
          supervision := some (2 * ((s.advance n).raiseNow .syncGap 0).settings.period) } =
        { (s.advance n).sweep with supervision := some (2 * s.settings.period) } := by
      rw [State.raiseNow_sweep, State.raiseNow_settings]
      rfl
    unfold execSyncSupervisionExpiry
    rw [runs]
    exact congrArg (fun w => Host.Outcome.next
      ({ (s.advance n).raiseNow .syncGap 0 with sweep := w } : State)) restarted
  · have left : s.periodLeft = s.settings.period - (s.now - t0) := by
      unfold State.periodLeft
      rw [last]
    refine exec_eq rfl ((if_pos ⟨localSource, quiet⟩).trans ?_)
    rw [left, State.trigger_inLocal (s := s.advance (s.settings.period - (s.now - t0))) _ localSource]
    rfl
  · have left : s.periodLeft = 0 := by
      unfold State.periodLeft
      rw [never]
    refine ⟨_, exec_eq rfl (if_pos ⟨localSource, quiet⟩), rfl, rfl, ?_⟩
    rw [left]
    rfl

end Sys2Proof.Machine
end

section
/-! The requests: the checks that each meets before its own rule, and how the rule's answer fills the slot reserved for it. -/

namespace Sys2Proof.Machine

/-! ### What every request meets before its own rule (R149, R151, R152) -/

section

variable (s : State) (code : Byte) (r : Request) (permitted formOk : Bool) (body : State → State × Answer)

/-- With no free slot in MQ an addressed request is discarded, counted and raised (R149). -/
theorem State.runRequest_full (addressed : r.broadcast = false) (full : 8 ≤ s.mgmt.items.length + s.mgmt.reserved.length) :
    s.runRequest code r permitted formOk body =
      ((s.tookRequest code r).count .requestDropped).raise .requestDrop 0 s.sweep.number := by
  have none : (s.takeHanded r.broadcast (r.tag :: code :: r.fields)).mqFree = 0 := by
    rw [State.mqFree, State.takeHanded_mgmt]
    exact Nat.sub_eq_zero_of_le full
  have notBroadcast : ¬ r.broadcast = true := by simp [addressed]
  refine (if_neg notBroadcast).trans ((if_pos none).trans ?_)
  unfold State.dropRequest State.raiseNow
  rw [State.count_sweep]
  rfl

/-- With a part reset pending an admitted request is answered BUSY (R151). -/
theorem State.runRequest_busy (addressed : r.broadcast = false) (room : s.mgmt.items.length + s.mgmt.reserved.length < 8)
    (pending : s.mgmt.resetPending.isSome = true) :
    s.runRequest code r permitted formOk body = (s.tookRequest code r).answered r code .busy [] := by
  have free : ¬ (s.takeHanded r.broadcast (r.tag :: code :: r.fields)).mqFree = 0 := by
    rw [State.mqFree, State.takeHanded_mgmt, Config.mqSlots]
    omega
  have notBroadcast : ¬ r.broadcast = true := by simp [addressed]
  exact (if_neg notBroadcast).trans ((if_neg free).trans ((if_pos pending).trans
    ((s.tookRequest code r).respond_reserve r.tag code .busy [])))

/-- A broadcast request that meets every condition of R152 is executed, with no response. -/
theorem State.runRequest_executes (broadcast : r.broadcast = true) (allowed : permitted = true) (form : formOk = true)
    (assigned : s.trunk.own ≠ 0) (noReset : s.mgmt.resetPending = none)
    (inRange : (body (s.tookRequest code r)).2.outOfRange = false) :
    s.runRequest code r permitted formOk body = (body (s.tookRequest code r)).1 := by
  refine (if_pos broadcast).trans (if_pos ?_)
  simp only [State.tookRequest] at inRange
  simp [allowed, form, assigned, noReset, inRange]

/-- A broadcast request that fails a condition of R152 is ignored and counted. -/
theorem State.runRequest_ignored (broadcast : r.broadcast = true)
    (fails : permitted = false ∨ formOk = false ∨ s.trunk.own = 0 ∨ s.mgmt.resetPending.isSome = true ∨
      (body (s.tookRequest code r)).2.outOfRange = true) :
    s.runRequest code r permitted formOk body = (s.tookRequest code r).count .broadcastIgnored := by
  refine (if_pos broadcast).trans (if_neg ?_)
  have own : (s.takeHanded r.broadcast (r.tag :: code :: r.fields)).trunk.own = s.trunk.own := rfl
  have reset : (s.takeHanded r.broadcast (r.tag :: code :: r.fields)).mgmt = s.mgmt := rfl
  simp only [State.tookRequest] at fails
  rw [own, reset]
  intro met
  simp only [Bool.and_eq_true, bne_iff_ne, Bool.not_eq_true', Option.isNone_iff_eq_none] at met
  obtain ⟨⟨⟨⟨allowed, form⟩, assigned⟩, noReset⟩, inRange⟩ := met
  rcases fails with fail | fail | fail | fail | fail
  · exact absurd allowed (by simp [fail])
  · exact absurd form (by simp [fail])
  · exact assigned fail
  · exact absurd noReset (by simpa [Option.isSome_iff_ne_none] using fail)
  · exact absurd inRange (by simp [fail])

end

theorem hasFields_iff (r : Request) (n : Nat) : hasFields r n = true ↔ r.fields.length = n := by simp [hasFields]

theorem hasFields_eq_false_iff (r : Request) (n : Nat) : hasFields r n = false ↔ r.fields.length ≠ n := by simp [hasFields]

/-- The length check of SEGMENT_RELAY is that of its code in the table of R156. -/
theorem relayForm_eq_false_iff (fields : List Byte) : relayForm fields = false ↔ badLength 15 fields := by
  have table : badLength 15 fields ↔ fields.length < 2 ∨ fields.length ≠ 2 + (byteAt fields 1).toNat := Iff.rfl
  rw [table]
  simp only [relayForm, Bool.and_eq_false_iff, decide_eq_false_iff_not, beq_eq_false_iff_ne]
  rw [Nat.not_le]

/-- Each of the 23 requests is handled by a rule of its code, with the length check of that code, and permitted as a broadcast
only with the codes 8, 10, 11 and 13 (R152, R156). -/
theorem ruleOf_of_requestOf {c : Instr} {code : Byte} {r : Request} (h : requestOf c = some (code, r)) :
    ∃ q, ruleOf c = some q ∧ q.code = code ∧ q.request = r ∧ (q.formOk = false ↔ badLength code r.fields) ∧
      (q.permitted = true → code.toNat = 8 ∨ code.toNat = 10 ∨ code.toNat = 11 ∨ code.toNat = 13) := by
  cases c <;> cases h
  case segmentRelay => exact ⟨_, rfl, rfl, rfl, relayForm_eq_false_iff _, by simp⟩
  all_goals exact ⟨_, rfl, rfl, rfl, hasFields_eq_false_iff _ _, by simp⟩

/-- Settles O49. -/
theorem requestChecks : Obligations.RequestChecks := by
  intro c code r s request addressed
  obtain ⟨q, rule, rfl, rfl, form, -⟩ := ruleOf_of_requestOf request
  refine ⟨fun full => ?_, fun room => ⟨fun pending => ?_, fun noReset bad => ?_⟩⟩
  · exact exec_eq (exec_ruleOf rule s) (s.runRequest_full _ _ _ _ _ addressed full)
  · exact exec_eq (exec_ruleOf rule s) (s.runRequest_busy _ _ _ _ _ addressed room pending)
  · exact exec_eq (exec_ruleOf rule s) (s.runRequest_badFormat _ _ _ _ _ ⟨addressed, room, noReset⟩ (form.mpr bad))

/-- What a rule has answered fills the slot reserved at admission, or leaves it for later (R149, R150). -/
def fillSlot (tag code : Byte) (out : State × Answer) : State :=
  match out.2 with
  | .done st res => out.1.respond tag code st res
  | .deferred => out.1

section

variable {c : Instr} {code : Byte} {r : Request} {permitted formOk : Bool} {body : State → State × Answer} {s t : State}

/-- An admitted request of the right length: its own rule runs with a slot reserved, and its answer fills the slot (R149). -/
theorem exec_admitted (rule : ruleOf c = some ⟨code, r, permitted, formOk, body⟩) (admits : s.admits r)
    (form : formOk = true) :
    exec c s = .next (fillSlot r.tag code (body ((s.tookRequest code r).reserve r.tag code))) := by
  refine exec_eq (exec_ruleOf rule s) ((s.runRequest_admitted _ _ _ _ _ admits form).trans ?_)
  dsimp only
  obtain ⟨t, answer⟩ := body ((s.tookRequest code r).reserve r.tag code)
  cases answer <;> rfl

/-- The same, where the rule's answer on that state is known. -/
theorem exec_admitted_of (rule : ruleOf c = some ⟨code, r, permitted, formOk, body⟩) {out : State × Answer}
    (admits : s.admits r) (form : formOk = true) (ran : body ((s.tookRequest code r).reserve r.tag code) = out) :
    exec c s = .next (fillSlot r.tag code out) :=
  ran ▸ exec_admitted rule admits form

/-- A rule that answers and leaves the state alone: the response joins MQ, and nothing else has changed. -/
theorem exec_answers (rule : ruleOf c = some ⟨code, r, permitted, formOk, body⟩) {st : Status} {res : List Byte}
    (admits : s.admits r) (form : formOk = true)
    (ran : body ((s.tookRequest code r).reserve r.tag code) = ((s.tookRequest code r).reserve r.tag code, .done st res)) :
    exec c s = .next ((s.tookRequest code r).answered r code st res) :=
  exec_eq (exec_admitted_of rule admits form ran) (State.respond_reserve _ _ _ _ _)

/-- A rule that answers and keeps the slot reserved for it at the front: the response takes the slot's place. -/
theorem exec_answers_with (rule : ruleOf c = some ⟨code, r, permitted, formOk, body⟩) {st : Status} {res : List Byte}
    {u : State} (admits : s.admits r) (form : formOk = true)
    (ran : body ((s.tookRequest code r).reserve r.tag code) = (t, .done st res))
    (slot : t.mgmt.reserved = ⟨r.tag, code⟩ :: s.mgmt.reserved)
    (same : { t with mgmt := { t.mgmt with
      reserved := s.mgmt.reserved, items := t.mgmt.items ++ [.response r.tag code st res] } } = u) :
    exec c s = .next u :=
  exec_eq (exec_admitted_of rule admits form ran) ((State.respond_first _ _ _ _ _ _ slot).trans same)

/-- A broadcast of a request that is permitted, well formed and in range, in an assigned part with no reset pending, is executed
without a response (R152). -/
theorem exec_broadcast (rule : ruleOf c = some ⟨code, r, true, formOk, body⟩) {answer : Answer}
    (broadcast : r.broadcast = true) (form : formOk = true) (assigned : s.trunk.own ≠ 0)
    (noReset : s.mgmt.resetPending = none) (ran : body (s.tookRequest code r) = (t, answer))
    (inRange : answer.outOfRange = false) :
    exec c s = .next t :=
  exec_eq (exec_ruleOf rule s) ((s.runRequest_executes _ _ _ _ _ broadcast rfl form assigned noReset
    ((congrArg (fun out => out.2.outOfRange) ran).trans inRange)).trans (congrArg Prod.fst ran))

/-- A broadcast of a request whose rule finds a field out of range is ignored and counted (R152). -/
theorem exec_broadcast_outOfRange (rule : ruleOf c = some ⟨code, r, permitted, formOk, body⟩)
    (broadcast : r.broadcast = true) (outOfRange : (body (s.tookRequest code r)).2.outOfRange = true) :
    exec c s = .next ((s.tookRequest code r).count .broadcastIgnored) :=
  exec_eq (exec_ruleOf rule s) (s.runRequest_ignored _ _ _ _ _ broadcast (.inr (.inr (.inr (.inr outOfRange)))))

end

end Sys2Proof.Machine
end

section
/-! The reading requests, rule by rule. -/

namespace Sys2Proof.Machine

/-! ### Fields read as numbers (R156) -/

theorem wordAt_pair (a b : Byte) : wordAt [a, b] 0 = a ++ b := rfl

theorem word_toNat (a b : Byte) : (a ++ b).toNat = a.toNat * 256 + b.toNat := by
  have low := b.isLt
  rw [BitVec.toNat_append, Nat.shiftLeft_eq, Nat.mul_comm, ← Nat.two_pow_add_eq_or_of_lt (by omega)]

theorem parseBool_above {b : Byte} (above : 1 < b.toNat) : parseBool b = none := by
  have notZero : b ≠ 0 := by rintro rfl; simp at above
  have notOne : b ≠ 1 := by rintro rfl; simp at above
  rw [parseBool, if_neg notZero, if_neg notOne]

theorem eq_ofNat_of_toNat {b : Byte} {n : Nat} (h : b.toNat = n) : b = BitVec.ofNat 8 n := by
  rw [← h, BitVec.ofNat_toNat, BitVec.setWidth_eq]

/-! ### The reading rules (R34, R60, R183) -/

section

variable (s : State) (fields : List Byte)

theorem readChannel_at (c : Fin 256) : (wordAt fields 0).toNat = c.val →
    readChannel fields s = .done .ok (channelBytes s.chanCfg[c] ++ channelRuntimeBytes s.chanRun[c]) := by
  intro index
  have bound : (wordAt fields 0).toNat < 256 := index ▸ c.isLt
  have same : c = ⟨(wordAt fields 0).toNat, bound⟩ := Fin.ext index.symm
  rw [same]
  exact dif_pos bound

theorem readChannel_outside (outside : 256 ≤ (wordAt fields 0).toNat) : readChannel fields s = refusal .badIndex :=
  dif_neg (Nat.not_lt.mpr outside)

/-- READ_NODE of an entry, its flag read (R34). -/
theorem readNode_at (i : Fin 24) (clear : Bool) : (byteAt fields 0).toNat = i.val → parseBool (byteAt fields 1) = some clear →
    readNode fields s = (if clear then s.setNodeRun i { s.nodeRun[i] with worstLatency := none } else s,
      .done .ok (nodeBytes s.nodeCfg[i] ++ nodeRuntimeBytes s.nodeRun[i])) := by
  intro index flag
  have bound : (byteAt fields 0).toNat < 24 := index ▸ i.isLt
  have same : i = ⟨(byteAt fields 0).toNat, bound⟩ := Fin.ext index.symm
  rw [same]
  refine (dif_pos bound).trans ?_
  rw [flag]

theorem readNode_badFlag (inside : (byteAt fields 0).toNat < 24) (flag : parseBool (byteAt fields 1) = none) :
    readNode fields s = (s, refusal .badValue) := by
  refine (dif_pos inside).trans ?_
  rw [flag]

theorem readNode_outside (outside : 24 ≤ (byteAt fields 0).toNat) : readNode fields s = (s, refusal .badIndex) :=
  dif_neg (Nat.not_lt.mpr outside)

/-- READ_COUNTERS of a group, its flag read (R183). -/
theorem readCounters_at {first count : Nat} {clear : Bool} (group : counterGroup (byteAt fields 0) = some (first, count))
    (flag : parseBool (byteAt fields 1) = some clear) :
    readCounters fields s = (if clear then s.clearGroup first count else s, .done .ok (s.groupBytes first count)) := by
  rw [readCounters, group, flag]

theorem readCounters_bad (bad : counterGroup (byteAt fields 0) = none ∨ parseBool (byteAt fields 1) = none) :
    readCounters fields s = (s, refusal .badValue) := by
  rw [readCounters]
  rcases bad with noGroup | noFlag
  · rw [noGroup]
  · rw [noFlag]
    cases counterGroup (byteAt fields 0) <;> rfl

end

/-- The groups of READ_COUNTERS, numbered from 0 (R156, R183). -/
theorem counterGroup_listed {a : Byte} {first count : Nat}
    (listed : (a.toNat, first, count) ∈ ([(0, 0, 15), (1, 15, 8), (2, 23, 14), (3, 37, 6)] : List (Nat × Nat × Nat))) :
    counterGroup a = some (first, count) := by
  simp only [List.mem_cons, Prod.mk.injEq, List.not_mem_nil, or_false] at listed
  rcases listed with ⟨number, rfl, rfl⟩ | ⟨number, rfl, rfl⟩ | ⟨number, rfl, rfl⟩ | ⟨number, rfl, rfl⟩ <;>
  · rw [eq_ofNat_of_toNat number]
    rfl

theorem counterGroup_above {a : Byte} (above : 4 ≤ a.toNat) : counterGroup a = none := by
  have differs : ∀ k : Byte, k.toNat < 4 → a ≠ k := by
    rintro k small rfl
    omega
  rw [counterGroup, if_neg (differs 0 (by decide)), if_neg (differs 1 (by decide)), if_neg (differs 2 (by decide)),
    if_neg (differs 3 (by decide))]

/-- Settles O46, by the rule of each of the seven codes. -/
theorem readingRequests : Obligations.ReadingRequests := by
  refine ⟨fun r s admits => ⟨fun empty => ?_, fun a b c fields => ?_⟩, fun r a b s admits fields => ?_⟩
  · have form : hasFields r 0 = true := (hasFields_zero_iff r).mpr empty
    exact ⟨exec_answers rfl admits form rfl, exec_answers rfl admits form rfl, exec_answers rfl admits form rfl,
      exec_answers rfl admits form rfl⟩
  · have form : hasFields r 2 = true := by rw [hasFields_iff, fields]; rfl
    have index : (wordAt r.fields 0).toNat = a.toNat * 256 + b.toNat := by rw [fields, wordAt_pair, word_toNat]
    refine ⟨fun high low => exec_answers rfl admits form ?_, fun high => exec_answers rfl admits form ?_⟩
    · exact congrArg (Prod.mk _) (readChannel_at _ _ c (by rw [index, high, low]; simp))
    · refine congrArg (Prod.mk _) (readChannel_outside _ _ ?_)
      have nonzero : a.toNat ≠ 0 := fun zero => high (eq_ofNat_of_toNat zero)
      omega
  · have form : hasFields r 2 = true := by rw [hasFields_iff, fields]; rfl
    have flag : byteAt r.fields 1 = b := by rw [fields]; rfl
    have index : byteAt r.fields 0 = a := by rw [fields]; rfl
    refine ⟨fun i number off => ?_, fun i number on => ?_, fun inside above => ?_, fun outside => ?_,
      fun first count listed => ⟨_, rfl, fun off => ?_, fun on => ⟨(s.clearGroup first count).bank, fun i => ?_, ?_⟩⟩, fun bad => ?_⟩
    · exact exec_answers rfl admits form (readNode_at _ _ i false (by rw [index, number]) (by rw [flag, off]; rfl))
    · exact exec_answers_with rfl admits form (readNode_at _ _ i true (by rw [index, number]) (by rw [flag, on]; rfl)) rfl rfl
    · exact exec_answers rfl admits form
        (readNode_badFlag _ _ (by rw [index]; exact inside) (by rw [flag, parseBool_above above]))
    · exact exec_answers rfl admits form (readNode_outside _ _ (by rw [index]; exact outside))
    · exact exec_answers rfl admits form (readCounters_at (clear := false) _ _
        (by rw [index, counterGroup_listed listed]) (by rw [flag, off]; rfl))
    · exact Vector.getElem_ofFn i.isLt
    · exact exec_answers_with rfl admits form (readCounters_at (clear := true) _ _
        (by rw [index, counterGroup_listed listed]) (by rw [flag, on]; rfl)) rfl rfl
    · refine exec_answers rfl admits form (readCounters_bad _ _ (bad.imp (fun above => ?_) fun above => ?_))
      · rw [index, counterGroup_above above]
      · rw [flag, parseBool_above above]

end Sys2Proof.Machine
end

section
/-! SET_NOTIFY and CLEAR_EVENTS. -/

namespace Sys2Proof.Machine

/-! ### SET_NOTIFY and CLEAR_EVENTS (R180, R181) -/

theorem kindsDefined_eq_false_iff (set : Word) :
    kindsDefined set = false ↔ set.getLsbD 0 = true ∨ set.getLsbD 14 = true ∨ set.getLsbD 15 = true := by
  simp only [kindsDefined, Bool.and_eq_false_iff, Bool.not_eq_false', or_assoc]

theorem kindsDefined_of {set : Word} (h0 : set.getLsbD 0 = false) (h14 : set.getLsbD 14 = false)
    (h15 : set.getLsbD 15 = false) : kindsDefined set = true := by
  rw [kindsDefined, h0, h14, h15]
  rfl

section

variable (s : State) (fields : List Byte)

theorem setNotify_undefined (h : kindsDefined (wordAt fields 0) = false) : setNotify fields s = (s, refusal .badValue) :=
  if_pos (by simp [h])

theorem setNotify_defined (h : kindsDefined (wordAt fields 0) = true) :
    setNotify fields s = ({ s with latch := { s.latch with notify := wordAt fields 0 } }, okAnswer) :=
  if_neg (by simp [h])

theorem clearEvents_undefined (h : kindsDefined (wordAt fields 0) = false) : clearEvents fields s = (s, refusal .badValue) :=
  if_pos (by simp [h])

theorem clearEvents_defined (h : kindsDefined (wordAt fields 0) = true) :
    clearEvents fields s = (if (wordAt fields 0).getLsbD 4 && s.latch.storeEmpty then
      (s.unlatch (wordAt fields 0)).raise .storeEmpty 0 s.sweep.number else s.unlatch (wordAt fields 0), okAnswer) :=
  if_neg (by simp [h])

theorem clearEvents_calm (h : kindsDefined (wordAt fields 0) = true)
    (calm : (wordAt fields 0).getLsbD 4 = false ∨ s.latch.storeEmpty = false) :
    clearEvents fields s = (s.unlatch (wordAt fields 0), okAnswer) := by
  rw [clearEvents_defined s fields h, if_neg (Bool.eq_false_iff.mp (Bool.and_eq_false_iff.mpr calm))]

theorem clearEvents_again (h : kindsDefined (wordAt fields 0) = true) (named : (wordAt fields 0).getLsbD 4 = true)
    (empty : s.latch.storeEmpty = true) :
    clearEvents fields s = ((s.unlatch (wordAt fields 0)).raise .storeEmpty 0 s.sweep.number, okAnswer) := by
  rw [clearEvents_defined s fields h, if_pos (Bool.and_eq_true_iff.mpr ⟨named, empty⟩)]

/-- The kinds named leave the latched set, and no other (R180). -/
theorem State.unlatch_latched (set : Word) (k : EventKind) :
    (s.unlatch set).latch.latched[k.index] = if set.getLsbD k.number then none else s.latch.latched[k.index] :=
  Vector.getElem_ofFn k.index.isLt

end

/-- Settles O47. CLEAR_EVENTS that names STORE_EMPTY with no slot free raises it again on a latch that no longer holds it. -/
theorem eventRequests : Obligations.EventRequests := by
  rintro r a b set s admits fields rfl
  have word : wordAt r.fields 0 = a ++ b := by rw [fields, wordAt_pair]
  have form : hasFields r 2 = true := by rw [hasFields_iff, fields]; rfl
  refine ⟨fun undefined => ?_, fun h0 h14 h15 => ?_⟩
  · have bad : kindsDefined (wordAt r.fields 0) = false := by rw [word, kindsDefined_eq_false_iff]; exact undefined
    exact ⟨exec_answers rfl admits form (setNotify_undefined _ _ bad),
      exec_answers rfl admits form (clearEvents_undefined _ _ bad)⟩
  · have good : kindsDefined (wordAt r.fields 0) = true := by rw [word]; exact kindsDefined_of h0 h14 h15
    have notify := setNotify_defined ((s.tookRequest 9 r).reserve r.tag 9) r.fields good
    have calmly := clearEvents_calm ((s.tookRequest 8 r).reserve r.tag 8) r.fields good
    have again := clearEvents_again ((s.tookRequest 8 r).reserve r.tag 8) r.fields good
    rw [word] at notify calmly again
    refine ⟨exec_answers_with rfl admits form notify rfl rfl, _, fun k => s.unlatch_latched (a ++ b) k, _, rfl,
      fun calm => exec_answers_with rfl admits form (calmly calm) rfl rfl, fun named empty => ⟨_, rfl, ?_⟩⟩
    have raised := again named empty
    have fresh : (((s.tookRequest 8 r).reserve r.tag 8).unlatch (a ++ b)).latch.latched[EventKind.storeEmpty.index] = none :=
      (State.unlatch_latched _ _ _).trans (if_pos named)
    have slots : (((s.tookRequest 8 r).reserve r.tag 8).unlatch (a ++ b)).mgmt.items.length +
        (((s.tookRequest 8 r).reserve r.tag 8).unlatch (a ++ b)).mgmt.reserved.length =
          s.mgmt.items.length + s.mgmt.reserved.length + 1 := rfl
    refine ⟨fun silent => ?_, fun notified room => ?_, fun notified full => ?_⟩
    · rw [State.raise_unnotified fresh silent] at raised
      exact exec_answers_with rfl admits form raised rfl rfl
    · rw [State.raise_notified fresh notified, State.offerMq_free _ _ (by dsimp only; omega)] at raised
      exact exec_answers_with rfl admits form raised rfl rfl
    · rw [State.raise_notified fresh notified, State.offerMq_full _ _ (by dsimp only; omega)] at raised
      exact exec_answers_with rfl admits form raised rfl rfl

end Sys2Proof.Machine
end

section
/-! FORCE_REPORT and FLUSH_CLASS. -/

namespace Sys2Proof.Machine

/-! ### FORCE_REPORT (R59) -/

section

variable (s : State)

/-- A FORCE_REPORT marks channels, and touches nothing else. -/
theorem State.markForced_frame (cs : List (Fin 256)) : s.markForced cs = { s with chanRun := (s.markForced cs).chanRun } := by
  unfold State.markForced
  induction cs generalizing s with
  | nil => rfl
  | cons c rest ih => rw [List.foldl_cons, ih]; rfl

theorem State.mem_enabledIn (first count : Nat) (i : Fin 256) :
    i ∈ s.enabledIn first count ↔ s.chanCfg[i].enabled = true ∧ first ≤ i.val ∧ i.val < first + count := by
  simp [State.enabledIn, and_assoc]

theorem State.markForced_enabledIn (first count : Nat) (i : Fin 256) :
    (s.markForced (s.enabledIn first count)).chanRun[i] =
      if s.chanCfg[i].enabled = true ∧ first ≤ i.val ∧ i.val < first + count then { s.chanRun[i] with forcePending := true }
      else s.chanRun[i] :=
  (s.markForced_chanRun _ i).trans (ite_congr (propext (s.mem_enabledIn first count i)) (fun _ => rfl) fun _ => rfl)

variable (fields : List Byte) {first count : Nat}

/-- The range of a FORCE_REPORT is empty. -/
theorem forceReport_empty (size : (wordAt fields 2).toNat = 0) : forceReport fields s = (s, refusal .badValue) :=
  if_pos size

/-- Its last channel is outside the table. -/
theorem forceReport_outside (start : (wordAt fields 0).toNat = first) (size : (wordAt fields 2).toNat = count)
    (some : 1 ≤ count) (outside : 256 < first + count) : forceReport fields s = (s, refusal .badIndex) := by
  subst start size
  exact (if_neg (by omega)).trans (if_pos (by omega))

theorem forceReport_inside (start : (wordAt fields 0).toNat = first) (size : (wordAt fields 2).toNat = count)
    (some : 1 ≤ count) (inside : first + count ≤ 256) : forceReport fields s =
      (s.markForced (s.enabledIn first count), .done .ok (be16 (s.enabledIn first count).length)) := by
  subst start size
  exact (if_neg (by omega)).trans (if_neg (by omega))

theorem range_fields {fields : List Byte} {a b c d : Byte} (h : fields = [a, b, c, d]) :
    (wordAt fields 0).toNat = a.toNat * 256 + b.toNat ∧ (wordAt fields 2).toNat = c.toNat * 256 + d.toNat := by
  subst h
  exact ⟨word_toNat a b, word_toNat c d⟩

/-! ### FLUSH_CLASS (R88) -/

theorem parseClass_code (k : ReportClass) : parseClass k.code = some k := by cases k <;> rfl

theorem parseClass_above {a : Byte} (above : 4 ≤ a.toNat) : parseClass a = none := by
  have differs : ∀ k : Byte, k.toNat < 4 → a ≠ k := by
    rintro k small rfl
    omega
  rw [parseClass, if_neg (differs 0 (by decide)), if_neg (differs 1 (by decide)), if_neg (differs 2 (by decide)),
    if_neg (differs 3 (by decide))]

theorem flushClass_at (k : ReportClass) (named : byteAt fields 0 = k.code) :
    flushClass fields s = (s.flush k, .done .ok (be16 (s.queue k).length)) := by
  rw [flushClass, named, parseClass_code]

theorem flushClass_outside (above : 4 ≤ (byteAt fields 0).toNat) : flushClass fields s = (s, refusal .badValue) := by
  rw [flushClass, parseClass_above above]

variable (k : ReportClass)

theorem State.flush_cq : (s.flush k).store.cq = s.store.cq.set k [] := by simp [State.flush]

theorem State.flush_free : (s.flush k).store.free = s.store.free + (s.queue k).length := by simp [State.flush]

/-- Each report of the queue is counted as dropped. -/
theorem State.flush_counter : (s.flush k).counter (.reportsDropped k) =
    min 4294967295 (s.counter (.reportsDropped k) + (s.queue k).length) := by
  have bank : (s.flush k).bank = (s.countBy (.reportsDropped k) (s.queue k).length).bank := by
    unfold State.flush
    rw [State.sendDrops_bank, State.freeSlots_bank]
    rfl
  exact (congrArg (fun b : Vector Nat 43 => b[(Counter.reportsDropped k).index]) bank).trans
    ((s.counter_countBy _ _ _).trans (if_pos rfl))

/-- The channels of the reports dropped: their gap flags, but for the notices put off (R57). -/
theorem State.flush_chanRun (i : Fin 256) : (s.flush k).chanRun[i] = { s.chanRun[i] with
    gap := s.chanRun[i].gap || (s.queue k).any (fun x => x.channel == i && decide (i ∉ s.choice.lateDrops)) } := by
  have dropped : decide (i ∈ (s.queue k).map Report.channel ∧ i ∉ s.choice.lateDrops) =
      (s.queue k).any (fun x => x.channel == i && decide (i ∉ s.choice.lateDrops)) := by
    rw [Bool.eq_iff_iff]
    simp only [decide_eq_true_eq, List.mem_map, List.any_eq_true, Bool.and_eq_true, beq_iff_eq]
    exact ⟨fun ⟨⟨x, mem, channel⟩, now⟩ => ⟨x, mem, channel, now⟩, fun ⟨x, mem, channel, now⟩ => ⟨⟨x, mem, channel⟩, now⟩⟩
  rw [← dropped]
  refine ((State.sendDrops_does _ _ _).2 i).trans ?_
  rw [State.freeSlots_chanRun]
  rfl

theorem State.flush_drops : (s.flush k).drops =
    s.drops ++ ((s.queue k).map Report.channel).filter (fun i => decide (i ∈ s.choice.lateDrops)) := by
  simp [State.flush]

theorem State.freeSlots_storeEmpty (n : Nat) :
    (s.freeSlots n).latch.storeEmpty = if n = 0 then s.latch.storeEmpty else false := by
  by_cases none : n = 0
  · rw [if_pos none, State.freeSlots, if_pos none]
  · rw [if_neg none, s.freeSlots_pos n none]

theorem State.flush_storeEmpty :
    (s.flush k).latch.storeEmpty = if s.queue k = [] then s.latch.storeEmpty else false := by
  unfold State.flush
  rw [State.sendDrops_latch, State.freeSlots_storeEmpty]
  exact ite_congr (propext List.length_eq_zero_iff) (fun _ => rfl) fun _ => rfl

theorem State.flush_latched : (s.flush k).latch.latched = s.latch.latched := by
  unfold State.flush
  rw [State.sendDrops_latch]
  unfold State.freeSlots
  split <;> rfl

end

/-- Settles O48. -/
theorem forceAndFlush : Obligations.ForceAndFlush := by
  refine ⟨?_, fun r a s admits fields => ?_⟩
  · rintro r a b c d first count s admits fields rfl rfl
    have form : hasFields r 4 = true := by rw [hasFields_iff, fields]; rfl
    obtain ⟨start, size⟩ := range_fields fields
    refine ⟨fun empty => ?_, fun some outside => ?_, fun some inside => ⟨_, rfl, _,
      State.markForced_enabledIn ((s.tookRequest 13 r).reserve r.tag 13) _ _, ?_⟩⟩
    · exact exec_answers rfl admits form (forceReport_empty _ _ (size.trans empty))
    · exact exec_answers rfl admits form (forceReport_outside _ _ start size some outside)
    · have ran := forceReport_inside ((s.tookRequest 13 r).reserve r.tag 13) r.fields start size some inside
      rw [State.markForced_frame] at ran
      exact exec_answers_with rfl admits form ran rfl rfl
  · have form : hasFields r 1 = true := by rw [hasFields_iff, fields]; rfl
    refine ⟨fun above => exec_answers rfl admits form (flushClass_outside _ _ (by rw [fields]; exact above)), ?_⟩
    rintro k rfl
    have ran := flushClass_at ((s.tookRequest 14 r).reserve r.tag 14) r.fields k (by rw [fields]; rfl)
    have mgmt := ((s.tookRequest 14 r).reserve r.tag 14).flush_mgmt k
    refine ⟨_, exec_answers_with rfl admits form ran (by rw [mgmt]; rfl) rfl, ?_, fun j other => ?_, State.flush_free _ _,
      State.flush_counter _ _, State.flush_chanRun _ _, State.flush_drops _ _, State.flush_storeEmpty _ _, ?_,
      State.flush_latched _ _, State.flush_uplink _ _, State.flush_conf _ _, State.flush_sweep _ _, State.flush_chanCfg _ _,
      State.flush_nodeRun _ _, State.flush_links _ _⟩
    · exact (congrArg (Quad.get · k) (State.flush_cq _ k)).trans (Quad.get_set_self _ _ _)
    · exact (congrArg (Quad.get · j) (State.flush_cq _ k)).trans (Quad.get_set_other _ _ _ _ other)
    · dsimp only
      rw [mgmt]
      rfl

end Sys2Proof.Machine
end

section
/-! Broadcast requests and UNKNOWN_REQUEST. -/

namespace Sys2Proof.Machine

/-! ### STOP_SWEEPS at the Controller (R16) -/

section

variable (s : State)

theorem State.stopSweeps_stopped (h : s.sweep.state = .stopped) : s.stopSweeps = s := by
  rw [State.stopSweeps, h]

theorem State.stopSweeps_quiet (h : s.sweep.state = .quiet) : s.stopSweeps = s.becomeStopped := by
  rw [State.stopSweeps, h]

theorem State.stopSweeps_collecting (h : s.sweep.state = .collecting) : s.stopSweeps = s.sweepClose .stop := by
  rw [State.stopSweeps, h]

end

/-! ### Broadcast requests (R152) -/

/-- A broadcast request that fails a check other than that of its fields' ranges. -/
theorem exec_broadcast_ignored {c : Instr} {code : Byte} {r : Request} (s : State) (request : requestOf c = some (code, r))
    (broadcast : r.broadcast = true)
    (fails : (code.toNat ≠ 8 ∧ code.toNat ≠ 10 ∧ code.toNat ≠ 11 ∧ code.toNat ≠ 13) ∨ badLength code r.fields ∨
      s.trunk.own = 0 ∨ s.mgmt.resetPending.isSome = true) :
    exec c s = .next ((s.tookRequest code r).count .broadcastIgnored) := by
  obtain ⟨q, rule, rfl, rfl, form, permitted⟩ := ruleOf_of_requestOf request
  refine exec_eq (exec_ruleOf rule s) (s.runRequest_ignored _ _ _ _ _ broadcast ?_)
  rcases fails with other | length | unassigned | pending
  · exact .inl (Bool.eq_false_iff.mpr fun allowed => by have := permitted allowed; omega)
  · exact .inr (.inl (form.mpr length))
  · exact .inr (.inr (.inl unassigned))
  · exact .inr (.inr (.inr (.inl pending)))

/-- The broadcast START_SWEEPS (R15, R152). -/
theorem startSweeps_broadcast {r : Request} {s : State} (broadcast : r.broadcast = true) (empty : r.fields = [])
    (assigned : s.trunk.own ≠ 0) (noReset : s.mgmt.resetPending = none) :
    (s.sweep.state = .stopped → s.settings.source = .localTimer →
      exec (.startSweeps r) s = .next ((s.tookRequest 10 r).trigger (s.sweep.number + 1))) ∧
    (s.sweep.state = .stopped → s.settings.source = .trunk → exec (.startSweeps r) s = .next { s.tookRequest 10 r with
      sweep := { s.sweep with state := .quiet, supervision := some (2 * s.settings.period) } }) ∧
    (s.sweep.state ≠ .stopped → exec (.startSweeps r) s = .next (s.tookRequest 10 r)) := by
  have form : hasFields r 0 = true := (hasFields_zero_iff r).mpr empty
  have run : ∀ (t : State) (st : Status), (s.tookRequest 10 r).startSweeps = (t, st) → st = .ok ∨ st = .notAllowed →
      exec (.startSweeps r) s = .next t := by
    intro t st ran ok
    refine exec_broadcast rfl broadcast form assigned noReset (answer := .done st []) ?_ ?_
    · rw [State.startSweepsAnswer, ran]
    · rcases ok with rfl | rfl <;> rfl
  refine ⟨fun stopped inLocal => ?_, fun stopped trunk => ?_, fun other => ?_⟩
  · exact run _ _ ((if_pos stopped).trans (if_pos inLocal)) (.inl rfl)
  · exact run _ _ ((s.tookRequest 10 r).startSweeps_inTrunk stopped trunk) (.inl rfl)
  · exact run _ _ ((s.tookRequest 10 r).startSweeps_notStopped other) (.inr rfl)

/-- The broadcast STOP_SWEEPS (R16, R152). -/
theorem stopSweeps_broadcast {r : Request} {s : State} (broadcast : r.broadcast = true) (empty : r.fields = [])
    (assigned : s.trunk.own ≠ 0) (noReset : s.mgmt.resetPending = none) :
    exec (.stopSweeps r) s = .next (s.tookRequest 11 r).stopSweeps :=
  exec_broadcast rfl broadcast ((hasFields_zero_iff r).mpr empty) assigned noReset rfl rfl

/-- A payload that stands alone in the hand-over list leaves it empty (R149). -/
theorem State.takeHanded_alone {s : State} {broadcast : Bool} {payload : List Byte}
    (alone : s.inbox.executor = [⟨broadcast, payload⟩]) :
    s.takeHanded broadcast payload = { s with inbox := { s.inbox with executor := [] } } := by
  have dropped : dropHead ⟨broadcast, payload⟩ s.inbox.executor = [] := by rw [alone]; exact if_pos rfl
  rw [State.takeHanded, dropped]

theorem knownCode_eq_false {code : Byte} (h : code.toNat = 0 ∨ 23 < code.toNat) : knownCode code = false := by
  simp only [knownCode, within, Bool.and_eq_false_iff, decide_eq_false_iff_not]
  omega

/-- An addressed request of no known code: UNKNOWN_REQUEST, or BUSY with a reset pending; discarded with MQ full (R149, R151). -/
theorem State.addressed_unknown (s : State) (code tag : Byte) :
    (s.mgmt.items.length + s.mgmt.reserved.length < 8 →
      s.addressed code tag true (fun x => (x, refusal .unknownRequest)) =
        s.pushMq (.response tag code (if s.mgmt.resetPending = none then .unknownRequest else .busy) [])) ∧
    (8 ≤ s.mgmt.items.length + s.mgmt.reserved.length →
      s.addressed code tag true (fun x => (x, refusal .unknownRequest)) =
        (s.count .requestDropped).raise .requestDrop 0 s.sweep.number) := by
  refine ⟨fun room => ?_, fun full => ?_⟩
  · have free : ¬ s.mqFree = 0 := by rw [State.mqFree, Config.mqSlots]; omega
    refine (if_neg free).trans ?_
    cases pending : s.mgmt.resetPending with
    | none =>
      refine (if_neg (by rw [State.reserve_resetPending, pending]; exact Bool.false_ne_true)).trans ?_
      exact s.respond_reserve tag code .unknownRequest []
    | some scope =>
      refine (if_pos (by rw [State.reserve_resetPending, pending]; rfl)).trans ?_
      exact s.respond_reserve tag code .busy []
  · have none : s.mqFree = 0 := Nat.sub_eq_zero_of_le full
    refine (if_pos none).trans ?_
    unfold State.dropRequest State.raiseNow
    rw [State.count_sweep]

/-- Settles O50: the checks that every broadcast meets, the four requests that a broadcast may carry, and UNKNOWN_REQUEST. -/
theorem broadcastAndUnknownRequests : Obligations.BroadcastAndUnknownRequests := by
  refine ⟨fun c code r s request broadcast => ⟨exec_broadcast_ignored s request broadcast, ?_⟩,
    fun r s broadcast assigned noReset => ⟨fun empty => ?_, ?_, ?_⟩, fun broadcast payload s alone => ⟨_, rfl, ?_⟩⟩
  · rintro rfl empty assigned noReset
    exact startSweeps_broadcast broadcast empty assigned noReset
  · have run := stopSweeps_broadcast broadcast empty assigned noReset
    exact ⟨fun stopped => exec_eq run ((s.tookRequest 11 r).stopSweeps_stopped stopped),
      fun quiet => exec_eq run ((s.tookRequest 11 r).stopSweeps_quiet quiet),
      fun collecting => exec_eq run ((s.tookRequest 11 r).stopSweeps_collecting collecting)⟩
  · rintro a b set fields rfl
    have word : wordAt r.fields 0 = a ++ b := by rw [fields, wordAt_pair]
    have form : hasFields r 2 = true := by rw [hasFields_iff, fields]; rfl
    refine ⟨fun undefined => ?_, fun h0 h14 h15 => ⟨_, fun k => s.unlatch_latched (a ++ b) k, _, rfl, ?_⟩⟩
    · have bad : kindsDefined (wordAt r.fields 0) = false := by rw [word, kindsDefined_eq_false_iff]; exact undefined
      exact exec_broadcast_outOfRange (body := clearEvents r.fields) rfl broadcast (by rw [clearEvents_undefined _ _ bad]; rfl)
    · have good : kindsDefined (wordAt r.fields 0) = true := by rw [word]; exact kindsDefined_of h0 h14 h15
      have cleared := clearEvents_defined (s.tookRequest 8 r) r.fields good
      rw [word] at cleared
      exact exec_broadcast rfl broadcast form assigned noReset cleared rfl
  · rintro a b c d first count fields rfl rfl
    have form : hasFields r 4 = true := by rw [hasFields_iff, fields]; rfl
    obtain ⟨start, size⟩ := range_fields fields
    refine ⟨fun outside => ?_, fun some inside => ⟨_, State.markForced_enabledIn (s.tookRequest 13 r) _ _, ?_⟩⟩
    · refine exec_broadcast_outOfRange (body := forceReport r.fields) rfl broadcast ?_
      by_cases empty : c.toNat * 256 + d.toNat = 0
      · rw [forceReport_empty _ _ (size.trans empty)]
        rfl
      · rw [forceReport_outside _ _ start size (by omega) (by omega)]
        rfl
    · have ran := forceReport_inside (s.tookRequest 13 r) r.fields start size some inside
      rw [State.markForced_frame] at ran
      exact exec_broadcast rfl broadcast form assigned noReset ran rfl
  · have taken := State.takeHanded_alone alone
    refine ⟨fun short => ?_, fun tag code rest shape other => ?_⟩
    · match payload, short with
      | [], _ => exact exec_eq rfl (congrArg (State.count · (.lengthErrors .tu)) taken)
      | [_], _ => exact exec_eq rfl (congrArg (State.count · (.lengthErrors .tu)) taken)
    · subst shape
      have unknown : ¬ knownCode code = true := by rw [knownCode_eq_false other]; exact Bool.false_ne_true
      have run := exec_eq (c := .unknownRequest broadcast (tag :: code :: rest)) (s := s) rfl (if_neg unknown)
      refine ⟨?_, ?_, ?_⟩
      · rintro rfl
        exact exec_eq run ((if_pos rfl).trans (congrArg (State.count · .broadcastIgnored) taken))
      · rintro rfl room
        exact exec_eq run ((if_neg Bool.false_ne_true).trans
          ((congrArg (fun x => State.addressed x code tag true (fun y => (y, refusal .unknownRequest))) taken).trans
            ((State.addressed_unknown _ code tag).1 room)))
      · rintro rfl full
        exact exec_eq run ((if_neg Bool.false_ne_true).trans
          ((congrArg (fun x => State.addressed x code tag true (fun y => (y, refusal .unknownRequest))) taken).trans
            ((State.addressed_unknown _ code tag).2 full)))

end Sys2Proof.Machine
end

section
/-! Records and frames written and read again. -/

namespace Sys2Proof.Machine

/-! ### One field written and read (R156) -/

theorem parseBool_code (b : Bool) : parseBool (boolCode b) = some b := by cases b <;> rfl

theorem parseRule_code (r : ChangeRule) : parseRule r.code = some r := by cases r <;> rfl

theorem parseSource_code (x : SweepSource) : parseSource x.code = some x := by cases x <;> rfl

theorem parsePolicies_byte (q : Quad Policy) : parsePolicies (policiesByte q) = some q := by
  obtain ⟨q0, q1, q2, q3⟩ := q
  cases q0 <;> cases q1 <;> cases q2 <;> cases q3 <;> rfl

theorem byteOf_toNat_of_le {n : Nat} (h : n ≤ 255) : (byteOf n).toNat = n := by
  rw [byteOf, BitVec.toNat_ofNat]
  omega

theorem byteOf_toNat (b : Byte) : byteOf b.toNat = b := (eq_ofNat_of_toNat rfl).symm

/-- A number written in two bytes and read as a word. -/
theorem word_toNat_of_le {n : Nat} (h : n ≤ 65535) : ((BitVec.ofNat 8 (n / 256) : Byte) ++ (BitVec.ofNat 8 n : Byte)).toNat = n := by
  rw [word_toNat, BitVec.toNat_ofNat, BitVec.toNat_ofNat]
  omega

theorem be16_word (x y : Byte) : be16 (x ++ y).toNat = [x, y] := (be16_eq_iff x y (x ++ y)).mpr rfl

theorem word_of_be16 (w : Word) : (BitVec.ofNat 8 (w.toNat / 256) : Byte) ++ (BitVec.ofNat 8 w.toNat : Byte) = w :=
  (be16_eq_iff _ _ w).mp rfl

/-! ### One field read and written -/

theorem parseBool_eq {b : Byte} {x : Bool} (h : parseBool b = some x) : b = boolCode x := by
  unfold parseBool at h
  split_ifs at h with h0 h1 <;> cases h <;> assumption

theorem parseRule_eq {b : Byte} {x : ChangeRule} (h : parseRule b = some x) : b = x.code := by
  unfold parseRule at h
  split_ifs at h with h0 h1 h2 <;> cases h <;> assumption

theorem parseSource_eq {b : Byte} {x : SweepSource} (h : parseSource b = some x) : b = x.code := by
  unfold parseSource at h
  split_ifs at h with h0 h1 <;> cases h <;> assumption

theorem parseClass_eq {b : Byte} {x : ReportClass} (h : parseClass b = some x) : b = x.code := by
  unfold parseClass at h
  split_ifs at h with h0 h1 h2 h3 <;> cases h <;> assumption

theorem policiesByte_bits : ∀ n : Fin 16,
    (parsePolicies (BitVec.ofNat 8 n.val)).map policiesByte = some (BitVec.ofNat 8 n.val) := by decide

theorem parsePolicies_above {b : Byte} (h : 15 < b.toNat) : parsePolicies b = none := if_neg (Nat.not_le.mpr h)

theorem parsePolicies_eq {b : Byte} {q : Quad Policy} (h : parsePolicies b = some q) : b = policiesByte q := by
  have low : b.toNat < 16 := by
    by_contra high
    rw [parsePolicies_above (by omega)] at h
    exact nomatch h
  have written := policiesByte_bits ⟨b.toNat, low⟩
  rw [← eq_ofNat_of_toNat (b := b) rfl, h] at written
  exact (Option.some.inj written).symm

/-! ### Node, channel and settings records (R19, R38, R157) -/

theorem parseNode_bytes {n : NodeConfig} (h : n.inRange = true) : parseNode (nodeBytes n) = some n := by
  have bounds := h
  simp only [NodeConfig.inRange, Bool.and_eq_true, decide_eq_true_eq] at bounds
  obtain ⟨⟨⟨⟨⟨address, first⟩, -⟩, count⟩, -⟩, -⟩ := bounds
  have e0 : byteAt (nodeBytes n) 0 = boolCode n.enabled := rfl
  have e4 : byteAt (nodeBytes n) 4 = boolCode n.required := rfl
  have e1 : (byteAt (nodeBytes n) 1).toNat = n.address := byteOf_toNat_of_le (by omega)
  have e2 : (byteAt (nodeBytes n) 2).toNat = n.first := byteOf_toNat_of_le (by omega)
  have e3 : (byteAt (nodeBytes n) 3).toNat = n.count := byteOf_toNat_of_le (by omega)
  rw [parseNode, e0, e4, parseBool_code, parseBool_code, e1, e2, e3]
  exact if_pos h

theorem nodeBytes_of_parseNode {f : List Byte} {n : NodeConfig} (size : f.length = 5) (h : parseNode f = some n) :
    f = nodeBytes n := by
  match f, size with
  | [a, b, c, d, e], _ =>
    unfold parseNode at h
    split at h
    · next enabled required =>
      dsimp only at h
      split_ifs at h
      cases h
      have e0 := parseBool_eq enabled
      have e4 := parseBool_eq required
      simp only [byteAt, List.getD_cons_zero, List.getD_cons_succ] at e0 e4 ⊢
      rw [nodeBytes, byteOf_toNat, byteOf_toNat, byteOf_toNat, ← e0, ← e4]
    · exact nomatch h

theorem parseChannel_bytes {c : ChanConfig} (h : c.inRange = true) : parseChannel (channelBytes c) = some c := by
  have bounds := h
  simp only [ChanConfig.inRange, Bool.and_eq_true, decide_eq_true_eq] at bounds
  obtain ⟨⟨⟨⟨⟨deadband, holdOff⟩, heartbeat⟩, hysteresis⟩, -⟩, persistence⟩ := bounds
  have e0 : byteAt (channelBytes c) 0 = boolCode c.enabled := rfl
  have e1 : byteAt (channelBytes c) 1 = c.rule.code := rfl
  have e2 : (wordAt (channelBytes c) 2).toNat = c.deadband := word_toNat_of_le (by omega)
  have e4 : (byteAt (channelBytes c) 4).toNat = c.holdOff := byteOf_toNat_of_le (by omega)
  have e5 : (wordAt (channelBytes c) 5).toNat = c.heartbeat := word_toNat_of_le (by omega)
  have e7 : byteAt (channelBytes c) 7 = c.changeClass.code := rfl
  have e8 : byteAt (channelBytes c) 8 = boolCode c.supervision := rfl
  have e9 : wordAt (channelBytes c) 9 = c.high := word_of_be16 c.high
  have e11 : wordAt (channelBytes c) 11 = c.low := word_of_be16 c.low
  have e13 : (wordAt (channelBytes c) 13).toNat = c.hysteresis := word_toNat_of_le (by omega)
  have e15 : (byteAt (channelBytes c) 15).toNat = c.persistence := byteOf_toNat_of_le (by omega)
  have e16 : byteAt (channelBytes c) 16 = c.limitClass.code := rfl
  rw [parseChannel, e0, e1, e7, e8, e16, parseBool_code, parseRule_code, parseClass_code, parseBool_code, parseClass_code,
    e2, e4, e5, e9, e11, e13, e15]
  exact if_pos h

theorem channelBytes_of_parseChannel {f : List Byte} {c : ChanConfig} (size : f.length = 17) (h : parseChannel f = some c) :
    f = channelBytes c := by
  match f, size with
  | [b0, b1, b2, b3, b4, b5, b6, b7, b8, b9, b10, b11, b12, b13, b14, b15, b16], _ =>
    unfold parseChannel at h
    split at h
    · next enabled rule changeClass supervision limitClass =>
      dsimp only at h
      split_ifs at h
      cases h
      have e0 := parseBool_eq enabled
      have e1 := parseRule_eq rule
      have e7 := parseClass_eq changeClass
      have e8 := parseBool_eq supervision
      have e16 := parseClass_eq limitClass
      simp only [byteAt, wordAt, List.getD_cons_zero, List.getD_cons_succ] at e0 e1 e7 e8 e16 ⊢
      simp only [channelBytes, be16_word, byteOf_toNat, ← e0, ← e1, ← e7, ← e8, ← e16, List.cons_append, List.nil_append]
    · exact nomatch h

theorem parseSettings_bytes {t : Settings} (h : t.inRange = true) : parseSettings (settingsBytes t) = some t := by
  have bounds := h
  simp only [Settings.inRange, within, Bool.and_eq_true, decide_eq_true_eq] at bounds
  have e0 : (wordAt (settingsBytes t) 0).toNat = t.period := word_toNat_of_le (by omega)
  have e2 : (wordAt (settingsBytes t) 2).toNat = t.window := word_toNat_of_le (by omega)
  have e4 : byteAt (settingsBytes t) 4 = t.source.code := rfl
  have e5 : (byteAt (settingsBytes t) 5).toNat = t.absentLimit := byteOf_toNat_of_le (by omega)
  have e6 : (wordAt (settingsBytes t) 6).toNat = t.limits.q0 := word_toNat_of_le (by omega)
  have e8 : (wordAt (settingsBytes t) 8).toNat = t.limits.q1 := word_toNat_of_le (by omega)
  have e10 : (wordAt (settingsBytes t) 10).toNat = t.limits.q2 := word_toNat_of_le (by omega)
  have e12 : (wordAt (settingsBytes t) 12).toNat = t.limits.q3 := word_toNat_of_le (by omega)
  have e14 : byteAt (settingsBytes t) 14 = policiesByte t.policies := rfl
  have e15 : (byteAt (settingsBytes t) 15).toNat = t.w1 := byteOf_toNat_of_le (by omega)
  have e16 : (byteAt (settingsBytes t) 16).toNat = t.w2 := byteOf_toNat_of_le (by omega)
  have e17 : (byteAt (settingsBytes t) 17).toNat = t.w3 := byteOf_toNat_of_le (by omega)
  have e18 : (byteAt (settingsBytes t) 18).toNat = t.wt := byteOf_toNat_of_le (by omega)
  have e19 : (byteAt (settingsBytes t) 19).toNat = t.packLimit := byteOf_toNat_of_le (by omega)
  have e20 : (byteAt (settingsBytes t) 20).toNat = t.retransTimeout := byteOf_toNat_of_le (by omega)
  have e21 : (byteAt (settingsBytes t) 21).toNat = t.retryLimit := byteOf_toNat_of_le (by omega)
  have e22 : (byteAt (settingsBytes t) 22).toNat = t.relayTimeout := byteOf_toNat_of_le (by omega)
  have e23 : (byteAt (settingsBytes t) 23).toNat = t.idleTimeout := byteOf_toNat_of_le (by omega)
  have e24 : (wordAt (settingsBytes t) 24).toNat = t.beaconInterval := word_toNat_of_le (by omega)
  rw [parseSettings, e4, e14, parseSource_code, parsePolicies_byte, e0, e2, e5, e6, e8, e10, e12, e15, e16, e17, e18, e19,
    e20, e21, e22, e23, e24]
  exact if_pos h

theorem settingsBytes_of_parseSettings {f : List Byte} {t : Settings} (size : f.length = 26)
    (h : parseSettings f = some t) : f = settingsBytes t := by
  match f, size with
  | [b0, b1, b2, b3, b4, b5, b6, b7, b8, b9, b10, b11, b12, b13, b14, b15, b16, b17, b18, b19, b20, b21, b22, b23, b24,
      b25], _ =>
    unfold parseSettings at h
    split at h
    · next source policies =>
      dsimp only at h
      split_ifs at h
      cases h
      have e4 := parseSource_eq source
      have e14 := parsePolicies_eq policies
      simp only [byteAt, wordAt, List.getD_cons_zero, List.getD_cons_succ] at e4 e14 ⊢
      simp only [settingsBytes, be16_word, byteOf_toNat, ← e4, ← e14, List.cons_append, List.nil_append]
    · exact nomatch h

/-- Bytes that are no node's record are read as none (R161). -/
theorem parseNode_none {f : List Byte} (size : f.length = 5) (h : ∀ n : NodeConfig, n.inRange = true → f ≠ nodeBytes n) :
    parseNode f = none :=
  Option.eq_none_iff_forall_ne_some.mpr fun n read =>
    h n (parseNode_inRange read) (nodeBytes_of_parseNode size read)

theorem parseChannel_none {f : List Byte} (size : f.length = 17)
    (h : ∀ n : ChanConfig, n.inRange = true → f ≠ channelBytes n) : parseChannel f = none :=
  Option.eq_none_iff_forall_ne_some.mpr fun n read =>
    h n (parseChannel_inRange read) (channelBytes_of_parseChannel size read)

theorem parseSettings_none {f : List Byte} (size : f.length = 26)
    (h : ∀ n : Settings, n.inRange = true → f ≠ settingsBytes n) : parseSettings f = none :=
  Option.eq_none_iff_forall_ne_some.mpr fun n read =>
    h n (parseSettings_inRange read) (settingsBytes_of_parseSettings size read)

/-! ### Frames sent and received (R129 to R134) -/

theorem be16_length (n : Nat) : (be16 n).length = 2 := rfl

theorem withCrc_length (bs : List Byte) : (withCrc bs).length = bs.length + 2 := by simp [withCrc, be16_length]

/-- Without the two bytes of the CRC, what stands before it is left. -/
theorem dropLast_dropLast_be16 (bs : List Byte) (n : Nat) : (bs ++ be16 n).dropLast.dropLast = bs := by
  have size : (bs ++ be16 n).length = bs.length + 2 := by rw [List.length_append, be16_length]
  simp only [List.dropLast_eq_take, List.take_take, size, List.length_take]
  rw [List.take_append_of_le_length (by omega), List.take_of_length_le (by omega)]

theorem withCrc_front (bs : List Byte) : (withCrc bs).dropLast.dropLast = bs := dropLast_dropLast_be16 bs _

/-- A frame sent passes the CRC check (R129, R131). -/
theorem crcGood_withCrc (bs : List Byte) : crcGood (withCrc bs) = true := by
  rw [crcGood, withCrc_front, beq_iff_eq, withCrc_length, Nat.add_sub_cancel, withCrc, List.drop_append_of_le_length le_rfl,
    List.drop_length, List.nil_append]

theorem length_byte {n : Nat} (h : n ≤ 255) : (BitVec.ofNat 8 n).toNat = n := byteOf_toNat_of_le h

/-- A frame with a good CRC, the length that its header states and at least header and CRC, not misdirected, and of 2 payload
bytes where it is a SYNC or ENUMERATE, passes every check of R129. -/
theorem failedCheck_good {p : Port} {body : List Byte} (size : body.length = statedLength p (withCrc body) + headerLength p)
    (directed : misdirected p (withCrc body) = false)
    (step : byteAt (withCrc body) 0 = kindSync ∨ byteAt (withCrc body) 0 = kindEnumerate → statedLength p (withCrc body) = 2) :
    failedCheck p ⟨withCrc body, false, false⟩ = none := by
  have total := withCrc_length body
  have sized : ¬ (false || decide ((withCrc body).length < headerLength p + 2)) = true := by
    rw [Bool.false_or, decide_eq_true_eq]
    omega
  have crc : ¬ (false || !crcGood (withCrc body)) = true := by
    rw [crcGood_withCrc]
    exact Bool.false_ne_true
  have stated : ¬ (statedLength p (withCrc body) + headerLength p + 2 != (withCrc body).length) = true := by
    rw [bne_iff_ne]
    omega
  have steps : ¬ ((byteAt (withCrc body) 0 == kindSync || byteAt (withCrc body) 0 == kindEnumerate) &&
      statedLength p (withCrc body) != 2) = true := by
    rw [Bool.and_eq_true, Bool.or_eq_true, beq_iff_eq, beq_iff_eq, bne_iff_ne]
    exact fun ⟨kind, other⟩ => other (step kind)
  exact (if_neg sized).trans ((if_neg crc).trans ((if_neg stated).trans ((if_neg (by rw [directed]; exact nofun)).trans
    (if_neg steps))))

/-- A trunk frame of a kind that the port delivers, in range (R129, R130, R133). -/
theorem failedCheck_trunk {p : Port} (f : TrunkFrame) (trunk : p ≠ .sg) (kind : f.kind ∈ deliveredKinds p)
    (dest : f.dest.toNat ≤ 31) (src : f.src.toNat ≤ 31) (size : f.payload.length ≤ 96)
    (step : f.kind = 0x13 ∨ f.kind = 0x14 → f.payload.length = 2) :
    failedCheck p ⟨f.bytes, false, false⟩ = none := by
  have header : headerLength p = 5 := (headerLength_eq p).trans (if_neg trunk)
  have stated : statedLength p (withCrc f.body) = f.payload.length := by
    rw [statedLength, header]
    exact length_byte (by omega)
  refine failedCheck_good ?_ ?_ fun kind => stated.trans (step kind)
  · rw [stated, header]
    rfl
  · have known : (deliveredKinds p).contains (byteAt (withCrc f.body) 0) = true := List.contains_iff_mem.mpr kind
    have addresses : (decide (31 < (byteAt (withCrc f.body) 2).toNat) || decide (31 < (byteAt (withCrc f.body) 3).toNat)) =
        false := by
      rw [Bool.or_eq_false_iff, decide_eq_false_iff_not, decide_eq_false_iff_not, Nat.not_lt, Nat.not_lt]
      exact ⟨dest, src⟩
    have passes : (!(deliveredKinds p).contains (byteAt (withCrc f.body) 0) || (decide (31 < (byteAt (withCrc f.body) 2).toNat) ||
        decide (31 < (byteAt (withCrc f.body) 3).toNat))) = false := by
      rw [known]
      exact addresses
    cases p
    case sg => exact absurd rfl trunk
    all_goals exact passes

/-- A segment frame of a kind that SG delivers, in range (R129, R130, R134). -/
theorem failedCheck_segment (f : SegFrame) (kind : f.kind ∈ deliveredKinds .sg) (node : f.node.toNat ≤ 63)
    (size : f.payload.length ≤ 62) : failedCheck .sg ⟨f.bytes, false, false⟩ = none := by
  have stated : statedLength .sg f.bytes = f.payload.length := length_byte (by omega)
  refine failedCheck_good ?_ ?_ ?_
  · refine Eq.trans ?_ (congrArg (· + headerLength .sg) stated.symm)
    rfl
  · have known : (deliveredKinds .sg).contains (byteAt f.bytes 0) = true := List.contains_iff_mem.mpr kind
    refine (congrArg₂ (fun a b => !a || b) known (decide_eq_false (Nat.not_lt.mpr node))).trans rfl
  · rintro (sync | enumerate)
    · have : f.kind = kindSync := sync
      rw [this] at kind
      exact absurd kind (by decide)
    · have : f.kind = kindEnumerate := enumerate
      rw [this] at kind
      exact absurd kind (by decide)

theorem readTrunk_bytes (f : TrunkFrame) : readTrunk f.bytes = f := by
  have payload : (f.bytes.drop 5).dropLast.dropLast = f.payload := dropLast_dropLast_be16 f.payload _
  exact congrArg (TrunkFrame.mk f.kind f.flags f.dest f.src) payload

theorem readSeg_bytes (f : SegFrame) : readSeg f.bytes = f := by
  have payload : (f.bytes.drop 3).dropLast.dropLast = f.payload := dropLast_dropLast_be16 f.payload _
  exact congrArg (SegFrame.mk f.kind f.node) payload

/-- Settles O52. -/
theorem roundTrips : Obligations.RoundTrips :=
  ⟨⟨fun _ => parseNode_bytes, fun _ => parseChannel_bytes, fun _ => parseSettings_bytes⟩,
    fun _ f trunk kind dest src size step => ⟨failedCheck_trunk f trunk kind dest src size step, readTrunk_bytes f⟩,
    fun f kind node size => ⟨failedCheck_segment f kind node size, readSeg_bytes f⟩⟩

end Sys2Proof.Machine
end

section
/-! The relay's timer and SEGMENT_RELAY. -/

namespace Sys2Proof.Machine

/-! ### The relay timer (R172) -/

theorem exec_relayTimerExpiry {s : State} {r : PendingRelay} {n : Nat} (pending : s.relay = some r)
    (phase : r.phase = .listening n) :
    exec .relayTimerExpiry s = .next (((s.advance n).endRelay .relayTimeout []).raiseNow .relayTimeout 0) := by
  show execRelayTimerExpiry s = _
  unfold execRelayTimerExpiry
  simp only [pending, phase]

/-- Settles O38. The clock moves on nothing of what the end of the relay reads but the relay itself. -/
theorem relayTimerExpiry : Obligations.RelayTimerExpiry := by
  intro r n tag s pending phase slot
  refine ⟨_, rfl, _, rfl, ?_, ?_, fun reply => ?_⟩
  · refine exec_eq (exec_relayTimerExpiry pending phase) ?_
    rw [State.endRelay_first (s := s.advance n) .relayTimeout [] slot]
    rfl
  · rw [State.raise_now]
    rfl
  · have relay : ∀ (t : State) (f : SegFrame), (t.dropArrival f).relay = t.relay := fun t f => rfl
    have none : ∀ t : State, t.relay = none → exec (.nodeReply r.node reply) t =
        .next ((t.dropArrival ⟨kindNodeReply, r.node, reply⟩).count .strayReply) := fun t idle =>
      congrArg Host.Outcome.next (State.takeReply_idle ((relay t _).trans idle))
    refine ⟨_, none _ (State.raise_relay ..), ?_, ?_, ?_⟩
    · exact (State.counter_count _ _ _).trans (if_pos rfl)
    · exact (State.count_relay ..).trans (State.raise_relay ..)
    · rw [State.count_mgmt]
      rfl

/-! ### SEGMENT_RELAY (R169) -/

section

variable {s : State} {node len : Byte} {command : List Byte}

theorem segmentRelay_badLength (h : len.toNat = 0 ∨ 32 < len.toNat) :
    segmentRelay (node :: len :: command) s = (s, refusal .badValue) := by
  refine if_pos ?_
  show (!within 1 32 len.toNat) = true
  rw [Bool.not_eq_true', within, Bool.and_eq_false_iff, decide_eq_false_iff_not, decide_eq_false_iff_not]
  omega

theorem segmentRelay_badNode (h1 : 1 ≤ len.toNat) (h32 : len.toNat ≤ 32) (h : node.toNat = 0 ∨ 62 < node.toNat) :
    segmentRelay (node :: len :: command) s = (s, refusal .badValue) := by
  refine (if_neg ?_).trans (if_pos ?_)
  · show ¬ (!within 1 32 len.toNat) = true
    simp [within, h1, h32]
  · show (!within 1 62 node.toNat) = true
    rw [Bool.not_eq_true', within, Bool.and_eq_false_iff, decide_eq_false_iff_not, decide_eq_false_iff_not]
    omega

/-- With its fields in range, SEGMENT_RELAY asks for a relay that is free and for SG. -/
theorem segmentRelay_inRange (h1 : 1 ≤ len.toNat) (h32 : len.toNat ≤ 32) (n1 : 1 ≤ node.toNat) (n62 : node.toNat ≤ 62) :
    segmentRelay (node :: len :: command) s =
      if s.relay.isSome then (s, refusal .busy)
      else if !s.isUp .sg then (s, refusal .linkDown)
      else ({ s with relay := some ⟨node, command, .queued⟩ }, .deferred) := by
  refine (if_neg ?_).trans (if_neg ?_)
  · show ¬ (!within 1 32 len.toNat) = true
    simp [within, h1, h32]
  · show ¬ (!within 1 62 node.toNat) = true
    simp [within, n1, n62]

end

theorem relayForm_iff (node len : Byte) (command : List Byte) :
    relayForm (node :: len :: command) = true ↔ command.length = len.toNat := by
  have stated : byteAt (node :: len :: command) 1 = len := rfl
  simp only [relayForm, stated, List.length_cons, Bool.and_eq_true, decide_eq_true_eq, beq_iff_eq]
  omega

/-- Settles O39: the checks in their order. -/
theorem segmentRelay_settled : Obligations.SegmentRelay := by
  intro r node len command s admits fields
  have form : relayForm r.fields = true ↔ command.length = len.toNat := by rw [fields, relayForm_iff]
  have ran : ∀ {out : State × Answer}, segmentRelay (node :: len :: command) ((s.tookRequest 15 r).reserve r.tag 15) = out →
      segmentRelay r.fields ((s.tookRequest 15 r).reserve r.tag 15) = out := fun h => by rw [fields]; exact h
  refine ⟨_, rfl, fun wrong => ?_, fun right bad => ?_, fun right h1 h32 => ⟨fun bad => ?_, fun n1 n62 =>
    ⟨fun busy => ?_, fun free down => ?_, fun free up => ?_⟩⟩⟩
  · exact exec_eq rfl (s.runRequest_badFormat 15 r _ _ _ admits (Bool.eq_false_iff.mpr (mt form.mp wrong)))
  · exact exec_answers rfl admits (form.mpr right) (ran (segmentRelay_badLength bad))
  · exact exec_answers rfl admits (form.mpr right) (ran (segmentRelay_badNode h1 h32 bad))
  · exact exec_answers rfl admits (form.mpr right) (ran ((segmentRelay_inRange h1 h32 n1 n62).trans (if_pos busy)))
  · exact exec_answers rfl admits (form.mpr right) (ran ((segmentRelay_inRange h1 h32 n1 n62).trans
      ((if_neg (by show ¬ s.relay.isSome = true; simp [free])).trans
        (if_pos (by show (!s.isUp .sg) = true; simp [down])))))
  · exact exec_admitted_of rfl admits (form.mpr right) (ran ((segmentRelay_inRange h1 h32 n1 n62).trans
      ((if_neg (by show ¬ s.relay.isSome = true; simp [free])).trans
        (if_neg (by show ¬ (!s.isUp .sg) = true; simp [up])))))

end Sys2Proof.Machine
end

section
/-! The staging session: opening, staging, reading back, and the refusals. -/

namespace Sys2Proof.Machine

/-! ### The checks of R159 before a session request's own rule -/

section

variable {s : State} {token : Word} {whilePending : Bool} {body : State → State × Answer}

theorem inSession_none (h : s.mgmt.session.state = .none) : inSession token whilePending body s = (s, refusal .noSession) := by
  rw [inSession, h]

theorem inSession_wrong (h : s.mgmt.session.state ≠ .none) (other : s.mgmt.session.token ≠ some token) :
    inSession token whilePending body s = (s, refusal .wrongSession) := by
  cases state : s.mgmt.session.state with
  | none => exact absurd state h
  | opened => rw [inSession, state]; exact if_neg other
  | commitPending => rw [inSession, state]; exact if_pos other

theorem inSession_open (h : s.mgmt.session.state = .opened) (held : s.mgmt.session.token = some token) :
    inSession token whilePending body s = body s.restartIdle := by
  rw [inSession, h]
  exact if_pos held

theorem inSession_busy (h : s.mgmt.session.state = .commitPending) (held : s.mgmt.session.token = some token) :
    inSession token false body s = (s, refusal .busy) := by
  rw [inSession, h]
  exact (if_neg (not_not_intro held)).trans (if_neg Bool.false_ne_true)

theorem inSession_pending (h : s.mgmt.session.state = .commitPending) (held : s.mgmt.session.token = some token) :
    inSession token true body s = body s := by
  rw [inSession, h]
  exact (if_neg (not_not_intro held)).trans (if_pos rfl)

/-- The idle time of R160, its factors in the other order. -/
theorem State.idleTime_eq (s : State) : s.idleTime = 10000 * s.settings.idleTimeout := Nat.mul_comm _ _

end

/-- An admitted session request in OPEN with the token: its own rule runs on the state with the idle timer restarted. -/
theorem exec_inSession {c : Instr} {code : Byte} {r : Request} {permitted formOk whilePending : Bool}
    {body : State → State × Answer} {s : State} {out : State × Answer}
    (rule : ruleOf c = some ⟨code, r, permitted, formOk, inSession (wordAt r.fields 0) whilePending body⟩)
    (admits : s.admits r) (form : formOk = true) (holds : s.holdsSession r)
    (ran : body ((s.tookRequest code r).reserve r.tag code).restartIdle = out) :
    exec c s = .next (fillSlot r.tag code out) :=
  exec_admitted_of rule admits form
    ((inSession_open (s := (s.tookRequest code r).reserve r.tag code) holds.1 holds.2).trans ran)

/-- The same, where the rule answers and leaves the session `x`. -/
theorem exec_inSession_answers {c : Instr} {code : Byte} {r : Request} {permitted formOk whilePending : Bool}
    {body : State → State × Answer} {s : State} {x : Session} {st : Status} {res : List Byte}
    (rule : ruleOf c = some ⟨code, r, permitted, formOk, inSession (wordAt r.fields 0) whilePending body⟩)
    (admits : s.admits r) (form : formOk = true) (holds : s.holdsSession r)
    (ran : body ((s.tookRequest code r).reserve r.tag code).restartIdle =
      (((s.tookRequest code r).reserve r.tag code).setSession x, .done st res)) :
    exec c s = .next { s.tookRequest code r with mgmt := { s.mgmt with
      items := s.mgmt.items ++ [.response r.tag code st res]
      session := x } } :=
  exec_eq (exec_inSession rule admits form holds ran) (State.respond_first _ _ _ _ _ s.mgmt.reserved rfl)

/-- The restart of the idle timer (R160). -/
theorem State.restartIdle_eq (s : State) :
    s.restartIdle = s.setSession { s.mgmt.session with idle := some (10000 * s.settings.idleTimeout) } := by
  rw [← s.idleTime_eq]
  rfl

/-! ### SESSION_OPEN and the ends of a session (R158, R160, R162) -/

section

variable {s : State} {fields : List Byte}

theorem sessionOpen_none (h : s.mgmt.session.state = .none) :
    sessionOpen fields s = (s.setSession ⟨.opened, some (wordAt fields 0), [], some s.idleTime⟩, okAnswer) := by
  rw [sessionOpen, h]

theorem sessionOpen_again (h : s.mgmt.session.state = .opened) (held : s.mgmt.session.token = some (wordAt fields 0)) :
    sessionOpen fields s = (s.restartIdle, okAnswer) := by
  rw [sessionOpen, h]
  exact if_pos held

theorem sessionOpen_held (h : s.mgmt.session.state = .opened) (other : s.mgmt.session.token ≠ some (wordAt fields 0)) :
    sessionOpen fields s = (s, refusal .sessionHeld) := by
  rw [sessionOpen, h]
  exact if_neg other

theorem sessionOpen_pending (h : s.mgmt.session.state = .commitPending) :
    sessionOpen fields s = (s, refusal .sessionHeld) := by
  rw [sessionOpen, h]

end

/-- Settles O40. -/
theorem sessionOpenAndEnds : Obligations.SessionOpenAndEnds := by
  refine ⟨fun r a b s admits fields => ⟨_, rfl, fun none => ?_, fun opened held => ?_, fun opened other => ?_, fun pending => ?_⟩,
    fun s n idle => ?_, fun r s admits size => ⟨fun holds => ?_, fun pending held => ?_⟩⟩
  · have form : hasFields r 2 = true := by rw [hasFields_iff, fields]; rfl
    have ran := sessionOpen_none (s := (s.tookRequest 16 r).reserve r.tag 16) (fields := r.fields) none
    rw [State.idleTime_eq, fields, wordAt_pair] at ran
    exact exec_answers_with rfl admits form (by rw [fields]; exact ran) rfl rfl
  · have form : hasFields r 2 = true := by rw [hasFields_iff, fields]; rfl
    refine exec_answers_with rfl admits form (sessionOpen_again opened (by rw [fields]; exact held)) rfl ?_
    rw [State.restartIdle_eq]
    rfl
  · have form : hasFields r 2 = true := by rw [hasFields_iff, fields]; rfl
    exact exec_answers rfl admits form (sessionOpen_held opened (by rw [fields]; exact other))
  · have form : hasFields r 2 = true := by rw [hasFields_iff, fields]; rfl
    exact exec_answers rfl admits form (sessionOpen_pending pending)
  · show execSessionIdleExpiry s = _
    unfold execSessionIdleExpiry
    rw [idle]
    rfl
  · exact exec_inSession_answers rfl admits ((hasFields_iff r 2).mpr size) holds rfl
  · exact exec_answers rfl admits ((hasFields_iff r 2).mpr size) (inSession_busy pending held)

/-! ### Staging (R161) -/

section

variable {s : State} {item : StagedItem}

theorem stageItem_replaces {pos : Nat}
    (found : s.mgmt.session.items.findIdx? (fun x => x.targetBytes == item.targetBytes) = some pos) :
    stageItem item s = (s.setSession { s.mgmt.session with items := s.mgmt.session.items.set pos item },
      .done .ok [byteOf pos, byteOf s.mgmt.session.items.length]) := by
  have target : item.sameTarget = fun x => x.targetBytes == item.targetBytes := funext fun x => BEq.comm
  rw [stageItem, target, found]

/-- No item of the list names the target. -/
theorem stageItem_new (fresh : ∀ x ∈ s.mgmt.session.items, x.targetBytes ≠ item.targetBytes) :
    stageItem item s = if s.mgmt.session.items.length < 32 then
      (s.setSession { s.mgmt.session with items := s.mgmt.session.items ++ [item] },
        .done .ok [byteOf s.mgmt.session.items.length, byteOf (s.mgmt.session.items.length + 1)])
      else (s, refusal .stageFull) := by
  have none : s.mgmt.session.items.findIdx? item.sameTarget = none := by
    rw [List.findIdx?_eq_none_iff]
    exact fun x mem => beq_eq_false_iff_ne.mpr (fresh x mem).symm
  rw [stageItem, none]
  rfl

end

section

variable (s : State) {fields : List Byte}

theorem stageNode_at {n : NodeConfig} (i : Fin 24) : (byteAt fields 2).toNat = i.val →
    parseNode (fields.drop 3) = some n → stageNode fields s = stageItem (.node i n) s := by
  intro index read
  have bound : (byteAt fields 2).toNat < 24 := index ▸ i.isLt
  have same : (⟨(byteAt fields 2).toNat, bound⟩ : Fin 24) = i := Fin.ext index
  refine (dif_pos bound).trans ?_
  rw [read, same]

theorem stageNode_outside (outside : 24 ≤ (byteAt fields 2).toNat) : stageNode fields s = (s, refusal .badIndex) :=
  dif_neg (Nat.not_lt.mpr outside)

theorem stageNode_noRecord (inside : (byteAt fields 2).toNat < 24) (read : parseNode (fields.drop 3) = none) :
    stageNode fields s = (s, refusal .badValue) := by
  refine (dif_pos inside).trans ?_
  rw [read]

theorem stageChannel_at {n : ChanConfig} (i : Fin 256) : (wordAt fields 2).toNat = i.val →
    parseChannel (fields.drop 4) = some n → stageChannel fields s = stageItem (.channel i n) s := by
  intro index read
  have bound : (wordAt fields 2).toNat < 256 := index ▸ i.isLt
  have same : (⟨(wordAt fields 2).toNat, bound⟩ : Fin 256) = i := Fin.ext index
  refine (dif_pos bound).trans ?_
  rw [read, same]

theorem stageChannel_outside (outside : 256 ≤ (wordAt fields 2).toNat) : stageChannel fields s = (s, refusal .badIndex) :=
  dif_neg (Nat.not_lt.mpr outside)

theorem stageChannel_noRecord (inside : (wordAt fields 2).toNat < 256) (read : parseChannel (fields.drop 4) = none) :
    stageChannel fields s = (s, refusal .badValue) := by
  refine (dif_pos inside).trans ?_
  rw [read]

theorem stageSettings_at {t : Settings} (read : parseSettings (fields.drop 2) = some t) :
    stageSettings fields s = stageItem (.settings t) s := by
  rw [stageSettings, read]

theorem stageSettings_noRecord (read : parseSettings (fields.drop 2) = none) :
    stageSettings fields s = (s, refusal .badValue) := by
  rw [stageSettings, read]

end

theorem two_front {fields : List Byte} (size : 2 ≤ fields.length) : ∃ a b rest, fields = a :: b :: rest := by
  match fields, size with
  | a :: b :: rest, _ => exact ⟨a, b, rest, rfl⟩

/-- Fields that begin with the token's two bytes and go on with `rest`. -/
theorem fields_split {fields rest : List Byte} (size : 2 ≤ fields.length) (h : fields = fields.take 2 ++ rest) :
    ∃ a b, fields = a :: b :: rest := by
  obtain ⟨a, b, tail, rfl⟩ := two_front size
  refine ⟨a, b, ?_⟩
  rw [List.take_succ_cons, List.take_succ_cons, List.take_zero] at h
  exact h

/-- The staging requests, each with the item that it stages (R161). -/
def Stages (r : Request) (c : Instr) (code : Byte) (item : StagedItem) : Prop :=
  ∃ formOk body, ruleOf c = some ⟨code, r, false, formOk, inSession (wordAt r.fields 0) false body⟩ ∧ formOk = true ∧
    ∀ s, body s = stageItem item s

theorem stages_node {r : Request} {i : Fin 24} {n : NodeConfig} (ok : n.inRange = true)
    (h : r.fields = r.fields.take 2 ++ [BitVec.ofNat 8 i.val] ++ nodeBytes n) (size : r.fields.length = 8) :
    Stages r (.stageNode r) 17 (.node i n) := by
  obtain ⟨a, b, fields⟩ := fields_split (by omega) (h.trans (List.append_assoc ..))
  refine ⟨_, _, rfl, (hasFields_iff r 8).mpr size, fun s => stageNode_at s i ?_ ?_⟩
  · rw [fields]
    exact length_byte (n := i.val) (by omega)
  · rw [fields]
    exact parseNode_bytes ok

theorem stages_channel {r : Request} {i : Fin 256} {n : ChanConfig} (ok : n.inRange = true)
    (h : r.fields = r.fields.take 2 ++ [0, BitVec.ofNat 8 i.val] ++ channelBytes n) (size : r.fields.length = 21) :
    Stages r (.stageChannel r) 18 (.channel i n) := by
  obtain ⟨a, b, fields⟩ := fields_split (by omega) (h.trans (List.append_assoc ..))
  refine ⟨_, _, rfl, (hasFields_iff r 21).mpr size, fun s => stageChannel_at s i ?_ ?_⟩
  · rw [fields]
    refine (word_toNat 0 (BitVec.ofNat 8 i.val)).trans ?_
    rw [length_byte (by omega)]
    exact Nat.zero_add _
  · rw [fields]
    exact parseChannel_bytes ok

theorem stages_settings {r : Request} {t : Settings} (ok : t.inRange = true)
    (h : r.fields = r.fields.take 2 ++ settingsBytes t) (size : r.fields.length = 28) :
    Stages r (.stageSettings r) 19 (.settings t) := by
  obtain ⟨a, b, fields⟩ := fields_split (by omega) h
  refine ⟨_, _, rfl, (hasFields_iff r 28).mpr size, fun s => stageSettings_at s ?_⟩
  rw [fields]
  exact parseSettings_bytes ok

/-- Settles O41. -/
theorem staging : Obligations.Staging := by
  intro r c code item s admits holds staged
  have stages : Stages r c code item := by
    rcases staged with ⟨i, n, ok, fields, size, rfl, rfl, rfl⟩ | ⟨i, n, ok, fields, size, rfl, rfl, rfl⟩ |
      ⟨t, ok, fields, size, rfl, rfl, rfl⟩
    · exact stages_node ok fields size
    · exact stages_channel ok fields size
    · exact stages_settings ok fields size
  obtain ⟨formOk, body, rule, form, stage⟩ := stages
  refine ⟨_, rfl, fun pos found => ?_, fun fresh room => ?_, fun fresh full => ?_⟩
  · refine exec_inSession_answers rule admits form holds ?_
    rw [stage, State.restartIdle_eq]
    exact stageItem_replaces found
  · refine exec_inSession_answers rule admits form holds ?_
    rw [stage, State.restartIdle_eq]
    refine (stageItem_new ?_).trans (if_pos room)
    exact fresh
  · refine exec_inSession_answers rule admits form holds ?_
    rw [stage, State.restartIdle_eq]
    refine (stageItem_new ?_).trans (if_neg (Nat.not_lt.mpr full))
    exact fresh

/-- Settles O42. -/
theorem sessionRefusals : Obligations.SessionRefusals := by
  refine ⟨fun c code length r s listed admits size => ?_, fun r s admits holds =>
    ⟨_, rfl, fun size => ⟨fun outside => ?_, fun inside none => ?_⟩, fun size => ⟨fun outside => ?_, fun inside none => ?_⟩,
      fun size none => ?_⟩⟩
  · have rule : ∃ formOk body, ruleOf c = some ⟨code, r, false, formOk, inSession (wordAt r.fields 0) false body⟩ ∧
        formOk = true := by
      simp only [List.mem_cons, Prod.mk.injEq, List.not_mem_nil, or_false] at listed
      rcases listed with ⟨rfl, rfl, rfl⟩ | ⟨rfl, rfl, rfl⟩ | ⟨rfl, rfl, rfl⟩ | ⟨rfl, rfl, rfl⟩ | ⟨rfl, rfl, rfl⟩ <;>
        exact ⟨_, _, rfl, (hasFields_iff r _).mpr size⟩
    obtain ⟨formOk, body, rule, form⟩ := rule
    exact ⟨fun none => exec_answers rule admits form (inSession_none none),
      fun some other => exec_answers rule admits form (inSession_wrong some other),
      fun pending held => exec_answers rule admits form (inSession_busy pending held)⟩
  all_goals
    have form := (hasFields_iff r _).mpr size
    refine exec_inSession_answers rfl admits form holds ?_
    rw [State.restartIdle_eq]
  · exact stageNode_outside _ outside
  · exact stageNode_noRecord _ inside (parseNode_none (by rw [List.length_drop, size]) none)
  · refine stageChannel_outside _ ?_
    have high : (byteAt r.fields 2).toNat ≠ 0 := fun zero => outside (eq_ofNat_of_toNat zero)
    rw [wordAt, word_toNat]
    omega
  · refine stageChannel_noRecord _ ?_ (parseChannel_none (by rw [List.length_drop, size]) none)
    have low := (byteAt r.fields 3).isLt
    have zero : (byteAt r.fields 2).toNat = 0 := congrArg BitVec.toNat inside
    rw [wordAt, word_toNat]
    omega
  · exact stageSettings_noRecord _ (parseSettings_none (by rw [List.length_drop, size]) none)

/-! ### READ_STAGED (R162) -/

section

variable {s : State} {fields : List Byte}

theorem readStaged_at {item : StagedItem} (found : s.mgmt.session.items[(byteAt fields 2).toNat]? = some item) :
    readStaged fields s = (s, .done .ok (byteOf s.mgmt.session.items.length ::
      (s.mgmt.session.items.map StagedItem.targetBytes).flatten ++ item.recordBytes)) := by
  rw [readStaged, found]

theorem readStaged_none (outside : s.mgmt.session.items.length ≤ (byteAt fields 2).toNat) :
    readStaged fields s = if (byteAt fields 2).toNat = 32 then (s, .done .ok (byteOf s.mgmt.session.items.length ::
      (s.mgmt.session.items.map StagedItem.targetBytes).flatten)) else (s, refusal .badIndex) := by
  rw [readStaged, List.getElem?_eq_none outside]
  rfl

end

/-- Settles O43. -/
theorem readStaged_settled : Obligations.ReadStaged := by
  intro r a b pos s admits fields
  have form : hasFields r 3 = true := by rw [hasFields_iff, fields]; rfl
  have token : wordAt r.fields 0 = a ++ b := by rw [fields]; rfl
  have place : byteAt r.fields 2 = pos := by rw [fields]; rfl
  refine ⟨_, rfl, fun none => ?_, fun some other => ?_, fun live held => ⟨_, rfl, _, rfl, ?_⟩⟩
  · exact exec_answers rfl admits form (inSession_none none)
  · exact exec_answers rfl admits form (inSession_wrong some (by rw [token]; exact other))
  · have holds : s.mgmt.session.token = some (wordAt r.fields 0) := by rw [token]; exact held
    have run : ∀ {st : Status} {res : List Byte}, (∀ x : State, x.mgmt.session.items = s.mgmt.session.items →
        readStaged r.fields x = (x, .done st res)) → exec (.readStaged r) s = .next ((if s.mgmt.session.state = .opened then
          { s.tookRequest 20 r with mgmt := { s.mgmt with
            session := { s.mgmt.session with idle := some (10000 * s.settings.idleTimeout) } } }
          else s.tookRequest 20 r).answered r 20 st res) := by
      intro st res ran
      rcases live with opened | pending
      · rw [if_pos opened]
        refine exec_inSession_answers rfl admits form ⟨opened, holds⟩ ?_
        rw [State.restartIdle_eq]
        exact ran _ rfl
      · rw [if_neg (by rw [pending]; exact nofun)]
        exact exec_answers rfl admits form ((inSession_pending (s := (s.tookRequest 20 r).reserve r.tag 20) pending holds).trans
          (ran _ rfl))
    refine ⟨fun item found => run fun x same => ?_, fun last small => run fun x same => ?_, fun outside other =>
      run fun x same => ?_⟩
    · rw [readStaged_at (by rw [place, same]; exact found), same]
      rfl
    · rw [readStaged_none (by rw [place, same, last]; exact small), if_pos (by rw [place]; exact last), same]
      rfl
    · rw [readStaged_none (by rw [place, same]; exact outside), if_neg (by rw [place]; exact other)]
      rfl

end Sys2Proof.Machine
end

section
/-! What COMMIT validates. -/

namespace Sys2Proof.Machine

/-! ### What the merge holds (R163) -/

/-- Two staged items of one target are one item (R161). -/
theorem staged_unique {items : List StagedItem} (nodup : (items.map StagedItem.targetBytes).Nodup) {a b : StagedItem}
    (ha : a ∈ items) (hb : b ∈ items) (same : a.targetBytes = b.targetBytes) : a = b :=
  List.inj_on_of_nodup_map nodup ha hb same

section

variable {s : State} (nodup : (s.mgmt.session.items.map StagedItem.targetBytes).Nodup)

include nodup in
theorem mergedNodes_staged {i : Fin 24} {n : NodeConfig} (staged : .node i n ∈ s.mgmt.session.items) :
    s.mergedNodes[i] = n := by
  rcases mergeNode_foldl s.mgmt.session.items s.nodeCfg i with ⟨cfg, here, found⟩ | ⟨unstaged, -⟩
  · exact found.trans (StagedItem.node.inj (staged_unique nodup here staged rfl)).2
  · exact absurd staged (unstaged n)

theorem mergedNodes_unstaged {i : Fin 24} (unstaged : ∀ n, .node i n ∉ s.mgmt.session.items) :
    s.mergedNodes[i] = s.nodeCfg[i] := by
  rcases mergeNode_foldl s.mgmt.session.items s.nodeCfg i with ⟨cfg, here, -⟩ | ⟨-, kept⟩
  · exact absurd here (unstaged cfg)
  · exact kept

include nodup in
theorem mergedChannels_staged {c : Fin 256} {n : ChanConfig} (staged : .channel c n ∈ s.mgmt.session.items) :
    s.mergedChannels[c] = n := by
  rcases mergeChannel_foldl s.mgmt.session.items s.chanCfg c with ⟨cfg, here, found⟩ | ⟨unstaged, -⟩
  · exact found.trans (StagedItem.channel.inj (staged_unique nodup here staged rfl)).2
  · exact absurd staged (unstaged n)

theorem mergedChannels_unstaged {c : Fin 256} (unstaged : ∀ n, .channel c n ∉ s.mgmt.session.items) :
    s.mergedChannels[c] = s.chanCfg[c] := by
  rcases mergeChannel_foldl s.mgmt.session.items s.chanCfg c with ⟨cfg, here, -⟩ | ⟨-, kept⟩
  · exact absurd here (unstaged cfg)
  · exact kept

include nodup in
theorem mergedSettings_staged {t : Settings} (staged : .settings t ∈ s.mgmt.session.items) : s.mergedSettings = t := by
  rcases mergeSettings_foldl s.mgmt.session.items s.settings with here | ⟨unstaged, -⟩
  · exact StagedItem.settings.inj (staged_unique nodup here staged rfl)
  · exact absurd staged (unstaged t)

theorem mergedSettings_unstaged (unstaged : ∀ t, .settings t ∉ s.mgmt.session.items) : s.mergedSettings = s.settings := by
  rcases mergeSettings_foldl s.mgmt.session.items s.settings with here | ⟨-, kept⟩
  · exact absurd here (unstaged _)
  · exact kept

end

/-! ### The conditions of the table of R163 -/

section

variable {nodes : Vector NodeConfig 24}

theorem clashes_sharesAddress_iff (i : Fin 24) : clashes nodes i NodeConfig.sharesAddress = true ↔
    nodes[i].enabled = true ∧ ∃ j : Fin 24, j ≠ i ∧ nodes[j].enabled = true ∧ nodes[i].address = nodes[j].address := by
  simp only [clashes, List.any_eq_true, List.mem_finRange, true_and, Bool.and_eq_true, bne_iff_ne, NodeConfig.sharesAddress,
    beq_iff_eq]
  exact ⟨fun ⟨j, apart, ⟨enabled, other⟩, same⟩ => ⟨enabled, j, apart, other, same⟩,
    fun ⟨enabled, j, apart, other, same⟩ => ⟨j, apart, ⟨enabled, other⟩, same⟩⟩

theorem clashes_overlaps_iff (i : Fin 24) : clashes nodes i NodeConfig.overlaps = true ↔
    nodes[i].enabled = true ∧ ∃ j : Fin 24, j ≠ i ∧ nodes[j].enabled = true ∧
      nodes[i].first < nodes[j].first + nodes[j].count ∧ nodes[j].first < nodes[i].first + nodes[i].count := by
  simp only [clashes, List.any_eq_true, List.mem_finRange, true_and, Bool.and_eq_true, bne_iff_ne, NodeConfig.overlaps,
    decide_eq_true_eq]
  exact ⟨fun ⟨j, apart, ⟨⟨enabled, other⟩, low⟩, high⟩ => ⟨enabled, j, apart, other, low, high⟩,
    fun ⟨enabled, j, apart, other, low, high⟩ => ⟨j, apart, ⟨⟨enabled, other⟩, low⟩, high⟩⟩

theorem limitOrderBroken_iff (c : ChanConfig) :
    c.limitOrderBroken = true ↔ c.high.toInt ≤ c.low.toInt ∨ c.high.toInt - c.low.toInt < c.hysteresis := by
  rw [ChanConfig.limitOrderBroken, Bool.or_eq_true, decide_eq_true_eq, decide_eq_true_eq]

/-- The first item in violation is reported, with its place in the list. -/
theorem rejection_first {before after : List StagedItem} {item : StagedItem} {reason : Byte}
    (good : ∀ x ∈ before, violation nodes x = none) (bad : violation nodes item = some reason) (pos : Nat) :
    rejection nodes pos (before ++ item :: after) = some (reason :: item.targetBytes ++ [byteOf (pos + before.length)]) := by
  induction before generalizing pos with
  | nil => rw [List.nil_append, rejection, bad]; rfl
  | cons x rest ih =>
    rw [List.cons_append, rejection, good x List.mem_cons_self]
    refine (ih (fun y mem => good y (List.mem_cons_of_mem x mem)) (pos + 1)).trans ?_
    rw [List.length_cons, Nat.add_assoc, Nat.add_comm 1]

end

/-- Settles O45. -/
theorem commitValidation : Obligations.CommitValidation := by
  refine ⟨fun s nodup => ⟨fun i => ⟨fun n => mergedNodes_staged nodup, mergedNodes_unstaged⟩,
      fun i => ⟨fun n => mergedChannels_staged nodup, mergedChannels_unstaged⟩, fun n => mergedSettings_staged nodup,
      mergedSettings_unstaged⟩,
    fun nodes => ⟨fun i n => ⟨_, _, Iff.rfl, Iff.rfl, fun address => ?_, fun noAddress range => ?_, fun noAddress noRange => ?_⟩,
      fun i n => ⟨fun broken => ?_, fun order gap => ?_⟩, fun n => ⟨fun above => if_pos above, fun below => if_neg (by omega)⟩,
      fun items good => (rejection_eq_none_iff nodes 0 items).mpr good, fun before after item reason good bad => ?_⟩,
    fun i c n m t => ⟨rfl, rfl, rfl⟩⟩
  · exact if_pos ((clashes_sharesAddress_iff i).mpr address)
  · exact (if_neg (mt (clashes_sharesAddress_iff i).mp noAddress)).trans (if_pos ((clashes_overlaps_iff i).mpr range))
  · exact (if_neg (mt (clashes_sharesAddress_iff i).mp noAddress)).trans (if_neg (mt (clashes_overlaps_iff i).mp noRange))
  · exact if_pos ((limitOrderBroken_iff n).mpr broken)
  · exact if_neg (mt (limitOrderBroken_iff n).mp (by omega))
  · have first := rejection_first (after := after) good bad 0
    rw [Nat.zero_add] at first
    exact first

end Sys2Proof.Machine
end

section
/-! COMMIT taken: rejected, pending, or applied at once. -/

namespace Sys2Proof.Machine

/-! ### What the apply leaves (R35, R61, R62, R165) -/

section

variable (s : State)

theorem State.mem_applyPlan_changed (i : Fin 24) : i ∈ s.applyPlan.changed ↔ s.nodeCfg[i] ≠ s.mergedNodes[i] := by
  simp [State.applyPlan, changedNodes]

/-- Changed node entries are reset, the others stay as they were (R35). -/
theorem State.applyItems_node (early late : List (Fin 256)) (i : Fin 24) :
    (s.applyItems s.applyPlan early late).nodeRun[i] =
      if s.nodeCfg[i] = s.mergedNodes[i] then s.nodeRun[i] else ⟨.unknown, 0, false, none, none⟩ := by
  have record : (s.appliedNodeRun s.applyPlan)[i] = if i ∈ s.applyPlan.changed then {} else s.nodeRun[i] :=
    Vector.getElem_ofFn i.isLt
  rw [State.applyItems_nodeRun, record]
  by_cases same : s.nodeCfg[i] = s.mergedNodes[i]
  · rw [if_neg (fun changed => (s.mem_applyPlan_changed i).mp changed same), if_pos same]
  · rw [if_pos ((s.mem_applyPlan_changed i).mpr same), if_neg same]

open Classical in
/-- A channel's record after the apply, its gap flag apart (R61, R62, R63). -/
noncomputable def State.appliedRun (s : State) (i : Fin 256) : ChanRuntime :=
  if s.resetsChannel i then {}
  else if limitFieldsDiffer s.chanCfg[i] s.mergedChannels[i] then s.chanRun[i].limitUnknown
  else s.chanRun[i]

theorem State.applyItems_chanRun (early late : List (Fin 256)) (i : Fin 256) :
    (s.applyItems s.applyPlan early late).chanRun[i] =
      { s.appliedRun i with gap := (s.applyItems s.applyPlan early late).chanRun[i].gap } := by
  have withGap : ∀ (a b : ChanRuntime), (∃ g, a = { b with gap := g }) → a = { b with gap := a.gap } := by
    rintro a b ⟨g, rfl⟩
    rfl
  apply withGap
  unfold State.applyItems
  simp only [State.respondTo_chanRun]
  rw [(State.sendDrops_does _ _ _).2, State.trim_chanRun]
  generalize early' : ((s.trimmed s.mergedSettings.limits).map Report.channel).filter (fun c => decide (c ∈ early)) = lost
  have record : ((s.dropNotices lost).install s.applyPlan).chanRun[i] =
      if i ∈ s.applyPlan.resets then {}
      else if limitFieldsDiffer (s.dropNotices lost).chanCfg[i] (s.dropNotices lost).mergedChannels[i] then
        (s.dropNotices lost).chanRun[i].limitUnknown
      else (s.dropNotices lost).chanRun[i] := Vector.getElem_ofFn i.isLt
  have merged : (s.dropNotices lost).mergedChannels = s.mergedChannels := by simp [State.mergedChannels]
  rw [record, State.appliedRun, merged, State.dropNotices_chanCfg, State.dropNotices_chanRun]
  by_cases resets : s.resetsChannel i
  · rw [if_pos ((s.mem_applyPlan_resets i).mpr resets), if_pos resets]
    exact ⟨_, rfl⟩
  · rw [if_neg (mt (s.mem_applyPlan_resets i).mp resets), if_neg resets]
    split
    · exact ⟨_, rfl⟩
    · exact ⟨_, rfl⟩

theorem State.appliedRun_reset {s : State} {i : Fin 256} (resets : s.resetsChannel i) : s.appliedRun i = {} := if_pos resets

theorem State.appliedRun_other {s : State} {i : Fin 256} (keeps : ¬ s.resetsChannel i) :
    s.appliedRun i = if limitFieldsDiffer s.chanCfg[i] s.mergedChannels[i] then s.chanRun[i].limitUnknown else s.chanRun[i] :=
  if_neg keeps

theorem State.applyItems_chanRun_resets (early late : List (Fin 256)) {i : Fin 256} (resets : s.resetsChannel i) :
    (s.applyItems s.applyPlan early late).chanRun[i] =
      ⟨none, none, 0, false, false, (s.applyItems s.applyPlan early late).chanRun[i].gap, .unknown, 0, none⟩ := by
  have run := s.applyItems_chanRun early late i
  rwa [State.appliedRun_reset resets] at run

theorem State.applyItems_chanRun_keeps (early late : List (Fin 256)) {i : Fin 256} (keeps : ¬ s.resetsChannel i) :
    (s.applyItems s.applyPlan early late).chanRun[i] =
      if limitFieldsDiffer s.chanCfg[i] s.mergedChannels[i] then
        { s.chanRun[i] with limit := .unknown, count := 0, candidate := none,
                            gap := (s.applyItems s.applyPlan early late).chanRun[i].gap }
      else { s.chanRun[i] with gap := (s.applyItems s.applyPlan early late).chanRun[i].gap } := by
  have run := s.applyItems_chanRun early late i
  rw [State.appliedRun_other keeps] at run
  by_cases limit : limitFieldsDiffer s.chanCfg[i] s.mergedChannels[i] = true
  · rw [if_pos limit] at run ⊢
    exact run
  · rw [if_neg limit] at run ⊢
    exact run

/-- The response of the COMMIT takes the slot reserved for it, and the session is over (R164, R165). -/
theorem State.applyItems_mgmt (plan : ApplyPlan) (early late : List (Fin 256)) {tag : Byte}
    (slot : s.mgmt.reserved.find? (fun x => x.code == 22) = some ⟨tag, 22⟩) :
    (s.applyItems plan early late).mgmt = { s.mgmt with
      session := {}
      reserved := s.mgmt.reserved.erase ⟨tag, 22⟩
      items := s.mgmt.items ++ [.response tag 22 .ok []] } := by
  have mgmt : ∀ (x : State) (cs : List (Fin 256)), x.mgmt = s.mgmt →
      (((x.install plan).trim s.mergedSettings.limits).sendDrops late cs).mgmt = { s.mgmt with session := {} } := by
    intro x cs same
    rw [State.sendDrops_mgmt, State.trim_mgmt]
    exact congrArg (fun m : Management => { m with session := {} }) same
  unfold State.applyItems
  dsimp only
  rw [State.respondTo_first (tag := tag), mgmt _ _ (State.dropNotices_mgmt ..)]
  rw [mgmt _ _ (State.dropNotices_mgmt ..)]
  exact slot

theorem State.applyItems_latched (early late : List (Fin 256)) :
    (s.applyItems s.applyPlan early late).latch.latched = s.latch.latched := by
  unfold State.applyItems
  dsimp only
  rw [State.respondTo_latch, State.sendDrops_latch]
  obtain ⟨-, ⟨n, -, -, latch⟩, -⟩ := State.trim_does (State.install (s.dropNotices
    (((s.trimmed s.mergedSettings.limits).map Report.channel).filter (fun c => decide (c ∈ early)))) s.applyPlan)
    s.mergedSettings.limits
  rw [latch]
  show (State.dropNotices s _).latch.latched = _
  rw [State.dropNotices_latch]

/-! ### The Controller after an apply in QUIET (R10, R11) -/

/-- The supervision timer after a change of source. -/
def supervisionAfter (old new : Settings) (timer : Option Nat) : Option Nat :=
  if old.source = .localTimer ∧ new.source = .trunk then some (2 * new.period)
  else if old.source = .trunk ∧ new.source = .localTimer then none
  else timer

/-- The period test runs, after the timer's change, where the source or the period is new. -/
theorem State.settingsApplied_eq (old : Settings) : s.settingsApplied old =
    if old.source ≠ s.settings.source ∨ old.period ≠ s.settings.period then
      ({ s with sweep := { s.sweep with
        supervision := supervisionAfter old s.settings s.sweep.supervision } } : State).periodTest
    else { s with sweep := { s.sweep with supervision := supervisionAfter old s.settings s.sweep.supervision } } := by
  unfold State.settingsApplied supervisionAfter
  split
  · rfl
  · split <;> rfl

theorem supervisionAfter_same {old new : Settings} (same : old.source = new.source) (timer : Option Nat) :
    supervisionAfter old new timer = timer := by
  unfold supervisionAfter
  rw [if_neg, if_neg]
  · rintro ⟨h1, h2⟩
    rw [same, h2] at h1
    cases h1
  · rintro ⟨h1, h2⟩
    rw [same, h2] at h1
    cases h1

/-- With neither the source nor the period new, the sweep's record stays. -/
theorem State.settingsApplied_same {old : Settings} (source : old.source = s.settings.source)
    (period : old.period = s.settings.period) : s.settingsApplied old = s := by
  rw [State.settingsApplied_eq, if_neg (by simp [source, period]), supervisionAfter_same source]

theorem State.periodTest_inTrunk (trunk : s.settings.source = .trunk) : s.periodTest = s :=
  if_neg fun ⟨inLocal, _⟩ => by rw [trunk] at inLocal; cases inLocal

theorem State.periodTest_waits (left : s.periodLeft ≠ 0) : s.periodTest = s := if_neg fun ⟨_, _, reached⟩ => left reached

theorem State.settingsApplied_inTrunk (old : Settings) (trunk : s.settings.source = .trunk) : s.settingsApplied old =
    { s with sweep := { s.sweep with supervision := supervisionAfter old s.settings s.sweep.supervision } } := by
  rw [State.settingsApplied_eq]
  split
  · exact State.periodTest_inTrunk _ trunk
  · rfl

/-- In LOCAL source with the source or the period new, the period not reached yet. -/
theorem State.settingsApplied_waits {old : Settings} (new : old.source ≠ s.settings.source ∨ old.period ≠ s.settings.period)
    (left : s.periodLeft ≠ 0) : s.settingsApplied old =
      { s with sweep := { s.sweep with supervision := supervisionAfter old s.settings s.sweep.supervision } } := by
  rw [State.settingsApplied_eq, if_pos new]
  exact State.periodTest_waits _ left

theorem State.periodTest_triggers (inLocal : s.settings.source = .localTimer) (quiet : s.sweep.state = .quiet)
    (reached : s.periodLeft = 0) : s.periodTest = { s with sweep := { s.sweep with
      state := .collecting
      number := s.sweep.number + 1
      window := some s.settings.window
      lastTrigger := some s.now
      triggerStart := none
      waiting := if s.isUp .sg then some (s.sweep.number + 1) else none } } :=
  (if_pos ⟨inLocal, quiet, reached⟩).trans (s.trigger_inLocal _ inLocal)

/-- The period reached: the next sweep starts (R10). -/
theorem State.settingsApplied_triggers {old : Settings} (new : old.source ≠ s.settings.source ∨ old.period ≠ s.settings.period)
    (inLocal : s.settings.source = .localTimer) (quiet : s.sweep.state = .quiet) (reached : s.periodLeft = 0) :
    (s.settingsApplied old).sweep = { s.sweep with
      state := .collecting
      number := s.sweep.number + 1
      window := some s.settings.window
      lastTrigger := some s.now
      triggerStart := none
      supervision := supervisionAfter old s.settings s.sweep.supervision
      waiting := if s.isUp .sg then some (s.sweep.number + 1) else none } := by
  rw [State.settingsApplied_eq, if_pos new, State.periodTest_triggers]
  · rfl
  · exact inLocal
  · exact quiet
  · exact reached

/-- The period test touches the sweep's record alone. -/
theorem State.periodTest_parts : ∃ w : Sweep, s.periodTest = { s with sweep := w } := by
  rcases s.periodTest_cases with same | triggered
  · exact ⟨_, same⟩
  · exact ⟨_, triggered⟩

theorem State.settingsApplied_parts (old : Settings) : ∃ w : Sweep, s.settingsApplied old = { s with sweep := w } := by
  rw [State.settingsApplied_eq]
  split
  · obtain ⟨w, tested⟩ := State.periodTest_parts
      { s with sweep := { s.sweep with supervision := supervisionAfter old s.settings s.sweep.supervision } }
    exact ⟨w, tested⟩
  · exact ⟨_, rfl⟩

end

/-! ### COMMIT in OPEN (R163, R164) -/

theorem commitSession_rejected {s : State} {results : List Byte}
    (h : rejection s.mergedNodes 0 s.mgmt.session.items = some results) :
    commitSession s = (s, .done .commitRejected results) := by
  rw [commitSession, h]

theorem commitSession_pending {s : State} (h : rejection s.mergedNodes 0 s.mgmt.session.items = none)
    (collecting : s.sweep.state = .collecting) : commitSession s =
      (s.setSession { s.mgmt.session with state := .commitPending, idle := none }, .deferred) := by
  rw [commitSession, h]
  exact if_pos collecting

theorem commitSession_applies {s : State} (h : rejection s.mergedNodes 0 s.mgmt.session.items = none)
    (other : s.sweep.state ≠ .collecting) : commitSession s = (s.applyNow, .deferred) := by
  rw [commitSession, h]
  exact if_neg other

/-- What an apply at once leaves, the sweep's record apart. -/
theorem State.applyNow_parts (s : State) : ∃ w : Sweep, s.applyNow =
    { s.dropChoice.applyItems s.applyPlan s.choice.dropFirst s.choice.lateDrops with sweep := w } := by
  unfold State.applyNow
  dsimp only
  generalize s.dropChoice.applyItems s.applyPlan s.choice.dropFirst s.choice.lateDrops = z
  split
  · exact State.settingsApplied_parts _ _
  · exact ⟨z.sweep, rfl⟩

/-- The sweep's record after an apply at once: as it was in STOPPED, and in QUIET as R10 and R11 say. -/
theorem State.applyNow_sweep (s : State) :
    (s.sweep.state = .stopped → s.applyNow.sweep = s.sweep) ∧
    (s.sweep.state = .quiet →
      (s.settings.source = s.mergedSettings.source → s.settings.period = s.mergedSettings.period →
        s.applyNow.sweep = s.sweep) ∧
      (s.mergedSettings.source = .trunk → s.applyNow.sweep = { s.sweep with
        supervision := supervisionAfter s.settings s.mergedSettings s.sweep.supervision }) ∧
      (s.mergedSettings.source = .localTimer →
        s.settings.source ≠ s.mergedSettings.source ∨ s.settings.period ≠ s.mergedSettings.period →
        ((∃ t0, s.sweep.lastTrigger = some t0 ∧ s.now - t0 < s.mergedSettings.period) →
          s.applyNow.sweep = { s.sweep with
            supervision := supervisionAfter s.settings s.mergedSettings s.sweep.supervision }) ∧
        ((∀ t0, s.sweep.lastTrigger = some t0 → s.mergedSettings.period ≤ s.now - t0) →
          s.applyNow.sweep = { s.sweep with
            state := .collecting
            number := s.sweep.number + 1
            window := some s.mergedSettings.window
            lastTrigger := some s.now
            triggerStart := none
            supervision := supervisionAfter s.settings s.mergedSettings s.sweep.supervision
            waiting := if s.isUp .sg then some (s.sweep.number + 1) else none }))) := by
  generalize applied : s.dropChoice.applyItems s.applyPlan s.choice.dropFirst s.choice.lateDrops = z
  have sweep : z.sweep = s.sweep := by rw [← applied, State.applyItems_sweep]; rfl
  have settings : z.settings = s.mergedSettings := by
    rw [← applied]
    exact (s.dropChoice.applyItems_installs _ _ _).2.2.1
  have now : z.now = s.now := by rw [← applied, State.applyItems_now]; rfl
  have links : z.links = s.links := by rw [← applied, State.applyItems_links]; rfl
  have sg : z.isUp .sg = s.isUp .sg := congrArg (fun l : PerPort LinkPort => (l.get .sg).state == .up) links
  have inQuiet : s.sweep.state = .quiet → s.applyNow = z.settingsApplied s.settings := by
    rintro quiet
    rw [← applied]
    exact if_pos quiet
  refine ⟨fun stopped => ?_, fun quiet => ⟨fun source period => ?_, fun trunk => ?_, fun inLocal new =>
    ⟨fun ⟨t0, last, early⟩ => ?_, fun passed => ?_⟩⟩⟩
  · have same : s.applyNow = z := by
      rw [← applied]
      exact if_neg (by rw [stopped]; exact nofun)
    rw [same, sweep]
  · rw [inQuiet quiet, State.settingsApplied_same _ (by rw [settings, source]) (by rw [settings, period]), sweep]
  · rw [inQuiet quiet, State.settingsApplied_inTrunk _ _ (by rw [settings, trunk]), sweep, settings]
  · have left : z.periodLeft ≠ 0 := by
      rw [State.periodLeft, sweep, last, settings, now]
      dsimp only
      omega
    rw [inQuiet quiet, State.settingsApplied_waits _ (by rw [settings]; exact new) left, sweep, settings]
  · have reached : z.periodLeft = 0 := by
      rw [State.periodLeft, sweep, settings, now]
      cases last : s.sweep.lastTrigger with
      | none => rfl
      | some t0 => exact Nat.sub_eq_zero_of_le (passed t0 last)
    rw [inQuiet quiet, State.settingsApplied_triggers _ (by rw [settings]; exact new) (by rw [settings, inLocal])
      (by rw [sweep, quiet]) reached, sweep, settings, now, sg]

/-- The trim speaks neither of the sweep's record nor of the supply of choices. -/
theorem TrimmedBy.of_sweep {s t : State} {early late : List (Fin 256)} (w : Sweep) (h : TrimmedBy s.dropChoice t early late) :
    TrimmedBy s { t with sweep := w } early late := h

/-- What an apply at once leaves of the tables, the session, MQ and the runtime records, and what it leaves alone. -/
theorem State.applyNow_does (s : State) (tag : Byte) (old : List Reservation) (slot : s.mgmt.reserved = ⟨tag, 22⟩ :: old) :
    s.applyNow.nodeCfg = s.mergedNodes ∧ s.applyNow.chanCfg = s.mergedChannels ∧ s.applyNow.settings = s.mergedSettings ∧
    s.applyNow.mgmt.session = ⟨.none, none, [], none⟩ ∧ s.applyNow.mgmt.reserved = old ∧
    s.applyNow.mgmt.items = s.mgmt.items ++ [.response tag 22 .ok []] ∧
    (∀ i : Fin 24, s.applyNow.nodeRun[i] =
      if s.nodeCfg[i] = s.mergedNodes[i] then s.nodeRun[i] else ⟨.unknown, 0, false, none, none⟩) ∧
    (∀ i : Fin 256,
      (s.resetsChannel i →
        s.applyNow.chanRun[i] = ⟨none, none, 0, false, false, s.applyNow.chanRun[i].gap, .unknown, 0, none⟩) ∧
      (¬ s.resetsChannel i → s.applyNow.chanRun[i] =
        if limitFieldsDiffer s.chanCfg[i] s.mergedChannels[i] then
          { s.chanRun[i] with limit := .unknown, count := 0, candidate := none, gap := s.applyNow.chanRun[i].gap }
        else { s.chanRun[i] with gap := s.applyNow.chanRun[i].gap })) ∧
    TrimmedBy s s.applyNow s.choice.dropFirst s.choice.lateDrops ∧ s.applyNow.latch.latched = s.latch.latched ∧
    s.applyNow.conf = s.conf ∧ s.applyNow.uplink = s.uplink ∧ s.applyNow.links = s.links ∧ s.applyNow.trunk = s.trunk ∧
    s.applyNow.relay = s.relay ∧ s.applyNow.now = s.now := by
  obtain ⟨w, parts⟩ := s.applyNow_parts
  have plan : s.applyPlan = s.dropChoice.applyPlan := rfl
  rw [plan] at parts
  obtain ⟨nodes, chans, settings, -⟩ := s.dropChoice.applyItems_installs s.dropChoice.applyPlan s.choice.dropFirst s.choice.lateDrops
  have first : s.dropChoice.mgmt.reserved.find? (fun x => x.code == 22) = some ⟨tag, 22⟩ := by
    rw [State.dropChoice_mgmt, slot]
    rfl
  have mgmt := s.dropChoice.applyItems_mgmt s.dropChoice.applyPlan s.choice.dropFirst s.choice.lateDrops first
  have erased : s.dropChoice.mgmt.reserved.erase ⟨tag, 22⟩ = old := by
    rw [State.dropChoice_mgmt, slot]
    exact List.erase_cons_head ..
  rw [erased] at mgmt
  have nodeRun := s.dropChoice.applyItems_node s.choice.dropFirst s.choice.lateDrops
  have resets := @State.applyItems_chanRun_resets s.dropChoice s.choice.dropFirst s.choice.lateDrops
  have keeps := @State.applyItems_chanRun_keeps s.dropChoice s.choice.dropFirst s.choice.lateDrops
  have trims := s.dropChoice.applyItems_trims s.choice.dropFirst s.choice.lateDrops
  have latched := s.dropChoice.applyItems_latched s.choice.dropFirst s.choice.lateDrops
  have conf := s.dropChoice.applyItems_conf s.dropChoice.applyPlan s.choice.dropFirst s.choice.lateDrops
  have uplink := s.dropChoice.applyItems_uplink s.dropChoice.applyPlan s.choice.dropFirst s.choice.lateDrops
  have links := s.dropChoice.applyItems_links s.dropChoice.applyPlan s.choice.dropFirst s.choice.lateDrops
  have trunk := s.dropChoice.applyItems_trunk s.dropChoice.applyPlan s.choice.dropFirst s.choice.lateDrops
  have relay := s.dropChoice.applyItems_relay s.dropChoice.applyPlan s.choice.dropFirst s.choice.lateDrops
  have now := s.dropChoice.applyItems_now s.dropChoice.applyPlan s.choice.dropFirst s.choice.lateDrops
  generalize s.dropChoice.applyItems s.dropChoice.applyPlan s.choice.dropFirst s.choice.lateDrops = z at *
  rw [parts]
  exact ⟨nodes, chans, settings, congrArg Management.session mgmt, congrArg Management.reserved mgmt,
    congrArg Management.items mgmt, nodeRun, fun i => ⟨fun h => resets h, fun h => keeps h⟩, trims.of_sweep w, latched, conf,
    uplink, links, trunk, relay, now⟩

/-- Settles O44. -/
theorem commitTaken : Obligations.CommitTaken := by
  intro r s admits size holds
  have form : hasFields r 2 = true := (hasFields_iff r 2).mpr size
  refine ⟨_, rfl, fun results rejected => ?_, fun valid => ⟨fun collecting => ?_, fun other => ?_⟩⟩
  · refine exec_inSession_answers rfl admits form holds ?_
    rw [State.restartIdle_eq]
    exact commitSession_rejected rejected
  · exact exec_inSession rfl admits form holds (commitSession_pending valid collecting)
  · have applies := commitSession_applies (s := ((s.tookRequest 22 r).reserve r.tag 22).restartIdle) valid other
    refine ⟨_, exec_inSession rfl admits form holds applies, ?_⟩
    obtain ⟨nodes, chans, settings, session, reserved, items, nodeRun, chanRun, trimmed, latched, conf, uplink, links, trunk,
      relay, now⟩ := ((s.tookRequest 22 r).reserve r.tag 22).restartIdle.applyNow_does r.tag s.mgmt.reserved rfl
    obtain ⟨inStopped, inQuiet⟩ := ((s.tookRequest 22 r).reserve r.tag 22).restartIdle.applyNow_sweep
    exact ⟨nodes, chans, settings, session, reserved, items, nodeRun, chanRun, trimmed, latched, conf, uplink, links, trunk,
      relay, now, inStopped, fun quiet => ⟨_, rfl, inQuiet quiet⟩⟩

end Sys2Proof.Machine
end

section
/-! SAMPLE frames discarded, and kinds that stay latched. -/

namespace Sys2Proof.Machine

/-! ### A kind that is latched stays so through what the filter takes (R177) -/

/-- The kind is latched. -/
def Latched (k : EventKind) (s : State) : Prop := (s.latch.latched[k.index]).isSome = true

section

variable (k : EventKind)

theorem latched_offerMq (s : State) (i : MqItem) : (s.offerMq i).latch = s.latch := by
  unfold State.offerMq
  split <;> rfl

theorem latched_raise (s : State) (other : EventKind) (d : Byte) (w : Word) (h : Latched k s) : Latched k (s.raise other d w) := by
  cases old : s.latch.latched[other.index] with
  | some o => rwa [s.raise_latched other d w o old]
  | none =>
    have set : Latched k { s with latch := { s.latch with latched := s.latch.latched.set other.index (some ⟨d, w⟩) } } := by
      unfold Latched at h ⊢
      by_cases same : other.index.val = k.index.val
      · simp [same]
      · simpa [same] using h
    rw [s.raise_fresh other d w old]
    split
    · rwa [Latched, latched_offerMq]
    · exact set

theorem latched_offer (s : State) (r : Report) (h : Latched k s) : Latched k (s.offer r) := by
  rcases s.offer_cases r with ⟨-, -, answer⟩ | ⟨head, rest, -, answer⟩ | answer <;> rw [answer]
  · unfold State.admitReport
    dsimp only
    split
    · exact latched_raise k _ _ _ _ h
    · exact h
  · exact latched_raise k _ _ _ _ h
  · unfold State.refuse
    dsimp only
    split
    · exact latched_raise k _ _ _ _ h
    · exact latched_raise k _ _ _ _ h

theorem latched_advanceBeacon (s : State) (h : Latched k s) : Latched k s.advanceBeacon := by
  unfold State.advanceBeacon
  dsimp only
  split
  · exact h
  · split <;> exact h

theorem latched_takes : KeptByTakes (Latched k) where
  raise := latched_raise k
  offer := latched_offer k
  advanceBeacon := latched_advanceBeacon k

end

/-! ### The checks of a SAMPLE frame (R22 to R25) -/

section

variable {s : State} {node : Byte} {payload : List Byte}

theorem sampleForm_iff : sampleForm payload = true ↔
    1 ≤ (payload.getD 2 0).toNat ∧ (payload.getD 2 0).toNat ≤ 16 ∧ payload.length = 3 + 3 * (payload.getD 2 0).toNat := by
  simp [sampleForm, within, byteAt, and_assoc]

theorem State.findNode_none (h : ∀ i : Fin 24, s.nodeCfg[i].enabled = true → s.nodeCfg[i].address ≠ node.toNat) :
    s.findNode node = none := by
  rw [State.findNode, List.find?_eq_none]
  intro i _ matched
  rw [Bool.and_eq_true, beq_iff_eq] at matched
  exact h i matched.1 matched.2

/-- An enabled entry with the address is found, or another one. -/
theorem State.findNode_some {i : Fin 24} (enabled : s.nodeCfg[i].enabled = true) (address : s.nodeCfg[i].address = node.toNat) :
    ∃ j, s.findNode node = some j := by
  rw [← Option.isSome_iff_exists, State.findNode, List.find?_isSome]
  exact ⟨i, List.mem_finRange i, by rw [enabled, Bool.true_and, beq_iff_eq]; exact address⟩

theorem State.findNode_only {i : Fin 24} (enabled : s.nodeCfg[i].enabled = true) (address : s.nodeCfg[i].address = node.toNat)
    (only : ∀ j : Fin 24, j ≠ i → s.nodeCfg[j].enabled = true → s.nodeCfg[j].address ≠ node.toNat) :
    s.findNode node = some i := by
  obtain ⟨j, found⟩ := State.findNode_some enabled address
  have matched := List.find?_some found
  rw [Bool.and_eq_true, beq_iff_eq] at matched
  have same : j = i := by
    by_contra other
    exact only j other matched.1 matched.2
  rw [found, same]

theorem State.classify_late (idle : s.sweep.state ≠ .collecting) {w : Word} (last : s.sweep.lastClosed = some w) :
    s.classify w = .late :=
  (if_neg idle).trans (if_pos last)

theorem State.classify_stale {w : Word} (h : (s.sweep.state = .collecting ∧ w ≠ s.sweep.number) ∨
    (s.sweep.state ≠ .collecting ∧ s.sweep.lastClosed ≠ some w)) : s.classify w = .stale := by
  rcases h with ⟨collecting, other⟩ | ⟨idle, other⟩
  · exact (if_pos collecting).trans (if_neg other)
  · exact (if_neg idle).trans (if_neg other)

theorem State.classify_accepted (collecting : s.sweep.state = .collecting) {w : Word} (current : w = s.sweep.number) :
    s.classify w = .accepted :=
  (if_pos collecting).trans (if_pos current)

/-- Intake takes the SAMPLE frame at the head of its arrivals, with the tick kept beside it (R21, R26). -/
theorem exec_sampleFrame_head {tick : Nat} {rest : List Arrival}
    (head : s.inbox.intake = ⟨⟨0x31, node, payload⟩, tick⟩ :: rest) :
    exec (.sampleFrame node payload) s =
      .next (({ s with inbox := { s.inbox with intake := rest } } : State).takeSampleFrame node payload tick) := by
  have arrived : s.arrivalTick ⟨kindSample, node, payload⟩ = tick := by
    rw [State.arrivalTick, head]
    exact if_pos rfl
  refine exec_eq rfl ?_
  rw [arrived, ← State.dropArrival_head head]
  rfl

theorem State.takeSampleFrame_badForm {tick : Nat} (bad : sampleForm payload = false) : s.takeSampleFrame node payload tick =
    ((s.count .sampleFrames).count (.lengthErrors .sg)).raise .sampleAnomaly node s.sweep.number :=
  if_pos (by rw [bad]; rfl)

/-- A frame of good form is taken by its entry and its class. -/
theorem State.takeSampleFrame_late {tick : Nat} {i : Fin 24} (good : sampleForm payload = true)
    (found : s.findNode node = some i) (late : s.classify (wordAt payload 0) = .late) :
    s.takeSampleFrame node payload tick = ((s.count .sampleFrames).count .late).raise .sampleAnomaly node s.sweep.number := by
  refine (if_neg (by rw [good]; exact nofun)).trans ?_
  rw [found, late]
  rfl

theorem State.takeSampleFrame_stale {tick : Nat} {i : Fin 24} (good : sampleForm payload = true)
    (found : s.findNode node = some i) (stale : s.classify (wordAt payload 0) = .stale) :
    s.takeSampleFrame node payload tick = ((s.count .sampleFrames).count .stale).raise .sampleAnomaly node s.sweep.number := by
  refine (if_neg (by rw [good]; exact nofun)).trans ?_
  rw [found, stale]
  rfl

theorem State.takeSampleFrame_accepted {tick : Nat} {i : Fin 24} (good : sampleForm payload = true)
    (found : s.findNode node = some i) (accepted : s.classify (wordAt payload 0) = .accepted) :
    s.takeSampleFrame node payload tick = (s.count .sampleFrames).acceptFrame i payload tick := by
  refine (if_neg (by rw [good]; exact nofun)).trans ?_
  rw [found, accepted]

theorem State.takeSampleFrame_unmapped {tick : Nat} (good : sampleForm payload = true) (none : s.findNode node = none) :
    s.takeSampleFrame node payload tick =
      ((s.count .sampleFrames).count .unmapped).raise .sampleAnomaly node s.sweep.number := by
  refine (if_neg (by rw [good]; exact nofun)).trans ?_
  rw [none]
  rfl

end

/-- Settles O25. -/
theorem sampleFrameDiscarded : Obligations.SampleFrameDiscarded := by
  intro node payload tick s head
  have run := exec_sampleFrame_head head
  refine ⟨_, rfl, fun bad => ?_, fun low high size => ⟨fun unknown => ?_, fun i enabled address => ⟨fun idle last => ?_,
    fun stale => ?_⟩⟩⟩
  · have form : sampleForm payload = false := by
      rw [Bool.eq_false_iff, ne_eq, sampleForm_iff]
      omega
    exact exec_eq run (State.takeSampleFrame_badForm form)
  · exact exec_eq run (State.takeSampleFrame_unmapped (sampleForm_iff.mpr ⟨low, high, size⟩) (State.findNode_none unknown))
  · obtain ⟨j, found⟩ := State.findNode_some (s := { s with inbox := { s.inbox with intake := [] } }) enabled address
    exact exec_eq run (State.takeSampleFrame_late (sampleForm_iff.mpr ⟨low, high, size⟩) found (State.classify_late idle last))
  · obtain ⟨j, found⟩ := State.findNode_some (s := { s with inbox := { s.inbox with intake := [] } }) enabled address
    exact exec_eq run (State.takeSampleFrame_stale (sampleForm_iff.mpr ⟨low, high, size⟩) found (State.classify_stale stale))

end Sys2Proof.Machine
end

section
/-! An accepted SAMPLE frame. -/

namespace Sys2Proof.Machine

/-! ### The record of the node that sent an accepted frame (R26) -/

section

variable (r : NodeRuntime) (latency : Option Nat)

theorem NodeRuntime.answered_responded : (r.answered latency).responded = true := by
  unfold NodeRuntime.answered
  split
  · assumption
  · split <;> rfl

theorem NodeRuntime.answered_presence : (r.answered latency).presence = r.presence := by
  unfold NodeRuntime.answered
  split
  · rfl
  · split <;> rfl

theorem NodeRuntime.answered_misses : (r.answered latency).misses = r.misses := by
  unfold NodeRuntime.answered
  split
  · rfl
  · split <;> rfl

theorem NodeRuntime.answered_fresh {l : Nat} (fresh : r.responded = false) :
    (r.answered (some l)).lastLatency = some l ∧
      (r.answered (some l)).worstLatency = some (max l (r.worstLatency.getD 0)) := by
  have first : r.answered (some l) =
      { r with responded := true, lastLatency := some l, worstLatency := worse r.worstLatency l } :=
    if_neg (by rw [fresh]; exact nofun)
  rw [first]
  refine ⟨rfl, ?_⟩
  show worse r.worstLatency l = _
  cases r.worstLatency with
  | none => exact congrArg some (Nat.max_zero l).symm
  | some w => exact congrArg some (Nat.max_comm w l)

theorem NodeRuntime.answered_keepsLatency (h : r.responded = true ∨ latency = none) :
    (r.answered latency).lastLatency = r.lastLatency ∧ (r.answered latency).worstLatency = r.worstLatency := by
  rcases h with again | rfl
  · have same : r.answered latency = r := if_pos again
    rw [same]
    exact ⟨rfl, rfl⟩
  · unfold NodeRuntime.answered
    split <;> exact ⟨rfl, rfl⟩

end

section

variable (s : State) (i : Fin 24) (ended : Nat)

theorem State.latency_none (absent : s.sweep.triggerStart = none) : s.latency i ended = none := by
  rw [State.latency, absent]
  rfl

/-- The latency is the time since the trigger start, saturating; a free value where the frame ended before it (R26). -/
theorem State.latency_some {t0 : Nat} (start : s.sweep.triggerStart = some t0) : ∃ l, s.latency i ended = some l ∧
    (t0 ≤ ended → l = min 65535 (ended - t0)) ∧ l ≤ 65535 := by
  have bound := (Config.earlyLatency s.now i).isLt
  rw [State.latency, start]
  refine ⟨_, rfl, fun after => if_pos after, ?_⟩
  dsimp only
  split <;> omega

/-- The counters of Intake stay as the node's record is brought up to date. -/
theorem State.acceptNode_ofIntake (c : Counter) (h : c.ofIntake) : (s.acceptNode i ended).counter c = s.counter c := by
  unfold State.acceptNode
  dsimp only
  split
  · exact State.raise_ofIntake c h _ _ _ _
  · rfl

/-- The frame's number of samples (R134). -/
theorem samplesOf_length (payload : List Byte) : (samplesOf payload).length = (payload.getD 2 0).toNat := by
  simp [samplesOf, byteAt]

end

section

variable (s : State) (i : Fin 24) (payload : List Byte) (ended : Nat)

/-- The state that an accepted frame gives the filter: the node's record brought up to date, its samples counted and handed over
(R26, R27). -/
def State.givenFrame (s : State) (i : Fin 24) (payload : List Byte) (ended : Nat) : State :=
  State.handOver s.nodeCfg[i] (wordAt payload 0) (s.dropChoice.acceptNode i ended) (samplesOf payload)

theorem State.acceptFrame_eq : s.acceptFrame i payload ended = (s.givenFrame i payload ended).settle s.choice := rfl

theorem State.givenFrame_nodeRun : ∃ run : NodeRuntime, run = s.nodeRun[i].answered (s.latency i ended) ∧
    (s.givenFrame i payload ended).nodeRun = s.nodeRun.set i (if s.nodeRun[i].presence = .absent then
      { run with presence := .present, misses := 0 } else run) := by
  obtain ⟨run, ran, frame, -, -⟩ := s.dropChoice.acceptNode_does i ended
  refine ⟨run, ran, ?_⟩
  rw [State.givenFrame, State.handOver_frame]
  exact congrArg State.nodeRun frame

/-- What the filter is given, apart from the node's record and the counters. -/
theorem State.givenFrame_frame : ∃ (run : Vector NodeRuntime 24) (latch : Latch) (mgmt : Management) (bank : Vector Nat 43),
    s.givenFrame i payload ended = { s.dropChoice with
      nodeRun := run
      latch := latch
      mgmt := mgmt
      bank := bank
      handed := s.handed ++ [delivery s.nodeCfg[i] (wordAt payload 0) (samplesOf payload)] } ∧
    (s.nodeRun[i].presence ≠ .absent → latch = s.latch ∧ mgmt = s.mgmt) ∧
    (s.nodeRun[i].presence = .absent → Latched .nodeBack (s.givenFrame i payload ended)) := by
  obtain ⟨run, -, frame, known, back⟩ := s.dropChoice.acceptNode_does i ended
  have handed := State.handOver_frame s.nodeCfg[i] (wordAt payload 0) (s.dropChoice.acceptNode i ended) (samplesOf payload)
  refine ⟨_, (s.dropChoice.acceptNode i ended).latch, (s.dropChoice.acceptNode i ended).mgmt,
    (s.givenFrame i payload ended).bank, handed.trans (congrArg (fun x : State => ({ x with
      handed := x.handed ++ [delivery s.nodeCfg[i] (wordAt payload 0) (samplesOf payload)]
      bank := (s.givenFrame i payload ended).bank } : State)) frame), known, fun absent => ?_⟩
  rw [Latched, State.givenFrame, handed]
  exact back absent

theorem State.givenFrame_counters : ∃ given : List Sample,
    given = (samplesOf payload).filter (fun x => decide (x.number < s.nodeCfg[i].count)) ∧
    ((s.givenFrame i payload ended).counter .samplesAccepted = if given = [] then s.counter .samplesAccepted
      else min 4294967295 (s.counter .samplesAccepted + given.length)) ∧
    ((s.givenFrame i payload ended).counter .unmapped = if given.length = (payload.getD 2 0).toNat then s.counter .unmapped
      else min 4294967295 (s.counter .unmapped + ((payload.getD 2 0).toNat - given.length))) ∧
    (s.givenFrame i payload ended).counter .sampleFrames = s.counter .sampleFrames := by
  obtain ⟨given, filtered, -, accepted, unmapped, others⟩ :=
    State.countSamples_does s.nodeCfg[i] (samplesOf payload) (s.dropChoice.acceptNode i ended)
  rw [State.acceptNode_ofIntake _ _ _ _ (.inr (.inl rfl))] at accepted
  rw [State.acceptNode_ofIntake _ _ _ _ (.inr (.inr rfl)), samplesOf_length] at unmapped
  have frames := others .sampleFrames nofun nofun
  rw [State.acceptNode_ofIntake _ _ _ _ (.inl rfl)] at frames
  exact ⟨given, filtered, accepted, unmapped, frames⟩

end

/-- The record that an accepted frame leaves its node with (R26). -/
theorem State.givenFrame_node (s : State) (i : Fin 24) (payload : List Byte) (ended : Nat) :
    ∃ node : NodeRuntime, (s.givenFrame i payload ended).nodeRun = s.nodeRun.set i node ∧ node.responded = true ∧
      (s.nodeRun[i].responded = false → ∀ t0, s.sweep.triggerStart = some t0 → ∃ latency,
        (t0 ≤ ended → latency = min 65535 (ended - t0)) ∧ latency ≤ 65535 ∧ node.lastLatency = some latency ∧
        node.worstLatency = some (max latency (s.nodeRun[i].worstLatency.getD 0))) ∧
      (s.nodeRun[i].responded = true ∨ s.sweep.triggerStart = none →
        node.lastLatency = s.nodeRun[i].lastLatency ∧ node.worstLatency = s.nodeRun[i].worstLatency) ∧
      (s.nodeRun[i].presence = .absent → node.presence = .present ∧ node.misses = 0) ∧
      (s.nodeRun[i].presence ≠ .absent → node.presence = s.nodeRun[i].presence ∧ node.misses = s.nodeRun[i].misses) := by
  obtain ⟨run, ran, nodes⟩ := s.givenFrame_nodeRun i payload ended
  have responded : run.responded = true := by rw [ran, NodeRuntime.answered_responded]
  have fresh : s.nodeRun[i].responded = false → ∀ t0, s.sweep.triggerStart = some t0 → ∃ latency,
      (t0 ≤ ended → latency = min 65535 (ended - t0)) ∧ latency ≤ 65535 ∧ run.lastLatency = some latency ∧
      run.worstLatency = some (max latency (s.nodeRun[i].worstLatency.getD 0)) := by
    intro first t0 start
    obtain ⟨l, latency, value, bound⟩ := s.latency_some i ended start
    rw [ran, latency]
    exact ⟨l, value, bound, NodeRuntime.answered_fresh _ first⟩
  have keeps : s.nodeRun[i].responded = true ∨ s.sweep.triggerStart = none →
      run.lastLatency = s.nodeRun[i].lastLatency ∧ run.worstLatency = s.nodeRun[i].worstLatency := by
    intro h
    rw [ran]
    exact NodeRuntime.answered_keepsLatency _ _ (h.imp id (s.latency_none i ended))
  by_cases absent : s.nodeRun[i].presence = .absent
  · rw [if_pos absent] at nodes
    exact ⟨_, nodes, responded, fresh, keeps, fun _ => ⟨rfl, rfl⟩, fun other => absurd absent other⟩
  · rw [if_neg absent] at nodes
    exact ⟨_, nodes, responded, fresh, keeps, fun h => absurd h absent,
      fun _ => ⟨by rw [ran, NodeRuntime.answered_presence], by rw [ran, NodeRuntime.answered_misses]⟩⟩

/-- Settles O26. -/
theorem sampleFrameAccepted : Obligations.SampleFrameAccepted := by
  intro node payload tick rest i s head low high size enabled address only collecting current
  obtain ⟨x, here⟩ : ∃ x, x = ({ s with inbox := { s.inbox with intake := rest } } : State).count .sampleFrames := ⟨_, rfl⟩
  have run : exec (.sampleFrame node payload) s = .next ((x.givenFrame i payload tick).settle x.choice) := by
    refine exec_eq (exec_sampleFrame_head head) ?_
    rw [here]
    exact State.takeSampleFrame_accepted (sampleForm_iff.mpr ⟨low, high, size⟩) (State.findNode_only enabled address only)
      (State.classify_accepted collecting current)
  have frames : x.counter .sampleFrames = min 4294967295 (s.counter .sampleFrames + 1) := by
    rw [here, State.counter_count, if_pos rfl]
    rfl
  have unframed : ∀ c, c ≠ .sampleFrames → x.counter c = s.counter c := by
    intro c other
    rw [here, State.counter_count, if_neg other]
    rfl
  obtain ⟨record, nodes, responded, fresh, again, back, known⟩ := x.givenFrame_node i payload tick
  obtain ⟨_, latch, mgmt, bank, frame, still, latched⟩ := x.givenFrame_frame i payload tick
  obtain ⟨samples, filtered, accepted, unmapped, counted⟩ := x.givenFrame_counters i payload tick
  rw [unframed .samplesAccepted (by simp)] at accepted
  rw [unframed .unmapped (by simp)] at unmapped
  rw [frames] at counted
  have counter : ∀ c : Counter, c.ofIntake → ((x.givenFrame i payload tick).settle x.choice).counter c =
      (x.givenFrame i payload tick).counter c := fun c h => State.settle_ofIntake c h _ _
  have settled : ((x.givenFrame i payload tick).settle x.choice).nodeRun = x.nodeRun.set i record :=
    (State.settle_nodeRun _ _).trans nodes
  have self : ((x.givenFrame i payload tick).settle x.choice).nodeRun[i] = record := by
    rw [settled]
    exact Vector.getElem_set_self ..
  refine ⟨_, run, ?_⟩
  rw [self]
  have given : ∀ {α : Type} (part : State → α), part (x.givenFrame i payload tick) = part _ := fun part => congrArg part frame
  generalize x.givenFrame i payload tick = g at *
  subst here
  have told : ∃ told : State, told = ((s.choice.takes.foldl (State.take s.choice.between []) g).takeShares s.choice.late
      []).takeDrops s.choice.lateDrops ∧ (s.choice.deliverLate = true → g.settle s.choice = told) ∧
      (s.choice.deliverLate = false → g.settle s.choice = told.takeDeliveries s.choice.between [] ∧
        (g.settle s.choice).handed = []) := by
    refine ⟨_, rfl, fun late => if_pos late, fun now => ?_⟩
    have taken : g.settle s.choice = _ := if_neg (by rw [now]; exact nofun)
    exact ⟨taken, by rw [taken, State.takeDeliveries_handed]⟩
  refine ⟨responded, fresh, again, fun absent => ⟨(back absent).1, (back absent).2,
      (latched_takes .nodeBack).settle _ _ (latched absent)⟩, known, fun j other => ?_,
    ⟨samples, filtered, (counter _ (.inr (.inl rfl))).trans accepted, (counter _ (.inr (.inr rfl))).trans unmapped, g, ?_,
      given State.notices, given State.drops, given State.chanRun, given State.chanCfg, given State.nodeCfg, given State.store,
      given State.settings, given State.sweep, given State.now, fun other => ?_, told⟩,
    (State.settle_inbox _ _).trans (given State.inbox), (counter _ (.inl rfl)).trans counted,
    (State.settle_nodeCfg _ _).trans (given State.nodeCfg), (State.settle_chanCfg _ _).trans (given State.chanCfg),
    (State.settle_settings _ _).trans (given State.settings), (State.settle_sweep _ _).trans (given State.sweep),
    (State.settle_links _ _).trans (given State.links), (State.settle_trunk _ _).trans (given State.trunk),
    (State.settle_conf _ _).trans (given State.conf), (State.settle_uplink _ _).trans (given State.uplink),
    (State.settle_relay _ _).trans (given State.relay), (State.settle_now _ _).trans (given State.now)⟩
  · have apart : i.val ≠ j.val := fun same => other (Fin.ext same.symm)
    have element := congrArg (fun v : Vector NodeRuntime 24 => v[j]) settled
    exact element.trans (Vector.getElem_set_ne _ _ apart)
  · refine (given State.handed).trans ?_
    rw [filtered, ← current]
    rfl
  · exact ⟨(given State.latch).trans (still other).1, (given State.mgmt).trans (still other).2⟩

end Sys2Proof.Machine
end

section
/-! Samples handed over, taken and judged. -/

namespace Sys2Proof.Machine

/-! ### Samples handed over and taken (R27, R40, R57) -/

theorem countSample_eq (n : NodeConfig) :
    State.countSample n = fun y x => y.count (if x.number < n.count then .samplesAccepted else .unmapped) := by
  funext y x
  unfold State.countSample
  split <;> rfl

section

variable {between : List (Fin 256 × Notice)} {resets : List (Fin 256)} {s : State} {d : HandedSample} {c : Fin 256} {n : Notice}

/-- A notice that the supply places before a sample of its channel is taken before it (R57). -/
theorem State.takeSample_before (same : c = d.channel) : State.takeSample ((c, n) :: between) resets s d =
    State.takeSample between resets (State.take [] resets s (.notice n)) d := by
  unfold State.takeSample
  rw [List.filter_cons_of_pos (by simp [same])]
  rfl

theorem State.takeSample_apart (other : c ≠ d.channel) : State.takeSample ((c, n) :: between) resets s d =
    State.takeSample between resets s d := by
  unfold State.takeSample
  rw [List.filter_cons_of_neg (by simp [other])]

theorem State.takeDelivery_none (h : s.handed = []) : s.takeDelivery between resets = s := by
  rw [State.takeDelivery, h]

theorem State.takeDelivery_first {ds : List HandedSample} {rest : List (List HandedSample)} (h : s.handed = ds :: rest) :
    s.takeDelivery between resets = ds.foldl (State.takeSample between resets) { s with handed := rest } := by
  rw [State.takeDelivery, h]

end

section

variable {c : Fin 256} {q : Quality} {v sweep : Word} {s : State}

theorem State.judgeSample_disabled (off : s.chanCfg[c].enabled = false) :
    s.judgeSample c q v sweep = s.count .disabledChannel :=
  if_pos (by rw [off]; rfl)

theorem State.judgeSample_duplicate {l : Latest} (on : s.chanCfg[c].enabled = true) (latest : s.chanRun[c].latest = some l)
    (same : l.sweep = sweep) : s.judgeSample c q v sweep =
      (s.count .duplicate).raise .sampleAnomaly (BitVec.ofNat 8 (s.nodeAddress c)) sweep :=
  (if_neg (by rw [on]; exact nofun)).trans (if_pos (by rw [latest, ← same]; rfl))

theorem State.judgeSample_fresh (on : s.chanCfg[c].enabled = true) (fresh : ∀ l, s.chanRun[c].latest = some l → l.sweep ≠ sweep) :
    s.judgeSample c q v sweep = s.judgeFresh c q v sweep := by
  refine (if_neg (by rw [on]; exact nofun)).trans (if_neg fun again => ?_)
  obtain ⟨l, latest, same⟩ := Option.map_eq_some_iff.mp again
  exact fresh l latest same

end

/-- Settles O27. -/
theorem sampleSetAside : Obligations.SampleSetAside := by
  refine ⟨fun n sweep xs s => ?_, fun between resets s => ⟨fun none => ⟨State.takeDelivery_none none,
    State.takeDeliveries_none s between resets none⟩, fun ds rest waits => ⟨State.takeDelivery_first waits,
    State.takeDeliveries_cons s between resets ds rest waits⟩, fun d => ⟨State.takeSample_plain s [] resets d nofun,
    fun c n => State.takeSample_before, fun c n => State.takeSample_apart⟩⟩,
    fun c q v sweep s => ⟨State.judgeSample_disabled, fun l => State.judgeSample_duplicate, State.judgeSample_fresh⟩⟩
  rw [← countSample_eq]
  rfl

/-! ### The judgement of a fresh sample (R42 to R46) -/

section

variable {cfg : ChanConfig} {run : ChanRuntime} {limit : Bool} {q : Quality} {v : Word}

theorem sampleCauses_initial : (sampleCauses cfg run limit q v).initial = true ↔ run.lastReported = none :=
  Option.isNone_iff_eq_none

theorem sampleCauses_quality :
    (sampleCauses cfg run limit q v).quality = true ↔ ∃ l, run.lastReported = some l ∧ l.quality ≠ q := by
  unfold sampleCauses
  cases run.lastReported with
  | none => simp
  | some l => simp

theorem deadbandChange_iff {last : Option Reading} : deadbandChange cfg last q v = true ↔
    ∃ l, last = some l ∧ q = .good ∧ l.quality = .good ∧ cfg.deadband < (v.toInt - l.value.toInt).natAbs := by
  cases last with
  | none => simp [deadbandChange]
  | some l =>
    simp only [deadbandChange, difference, Bool.and_eq_true, beq_iff_eq, Option.some.injEq, and_assoc]
    constructor
    · rintro ⟨good, was, far⟩
      exact ⟨l, rfl, good, was, of_decide_eq_true far⟩
    · rintro ⟨_, rfl, good, was, far⟩
      exact ⟨good, was, decide_eq_true far⟩

theorem sampleCauses_change : (sampleCauses cfg run limit q v).change = true ↔ cfg.rule = .every ∨ (cfg.rule = .deadband ∧
    ∃ l, run.lastReported = some l ∧ q = .good ∧ l.quality = .good ∧
      cfg.deadband < (v.toInt - l.value.toInt).natAbs) := by
  show sampleChange cfg run.lastReported q v = true ↔ _
  unfold sampleChange
  cases cfg.rule with
  | none => simp
  | deadband => simp [deadbandChange_iff]
  | every => simp

end

section

variable {causes : Causes} {cfg : ChanConfig}

/-- The class of a report that has only causes of the change class (R46). -/
theorem Causes.cls_change (limit : causes.limit = false) (quality : causes.quality = false) : causes.cls cfg = cfg.changeClass := by
  unfold Causes.cls
  simp [limit, quality]

/-- With a cause of the limit class, the lower class where there is one of the change class beside it (R46). -/
theorem Causes.cls_limit (h : causes.limit = true ∨ causes.quality = true) (refresh : causes.refresh = false)
    (forced : causes.forced = false) : causes.cls cfg = if (causes.initial = true ∨ causes.change = true) ∧
      cfg.changeClass.code ≤ cfg.limitClass.code then cfg.changeClass else cfg.limitClass := by
  have found : (causes.limit || causes.quality) = true := Bool.or_eq_true_iff.mpr h
  unfold Causes.cls
  dsimp only
  rw [refresh, forced, found, Bool.or_false, Bool.or_false, Bool.and_true]
  by_cases change : causes.initial = true ∨ causes.change = true
  · rw [if_pos (Bool.or_eq_true_iff.mpr change), ReportClass.lower]
    exact ite_congr (propext ⟨fun h => ⟨change, h⟩, And.right⟩) (fun _ => rfl) fun _ => rfl
  · rw [if_neg (mt Bool.or_eq_true_iff.mp change), if_pos rfl, if_neg fun h => change h.1]

theorem withheld_iff {run : ChanRuntime} : withheld cfg run causes = true ↔ causes.change = true ∧ causes.initial = false ∧
    causes.quality = false ∧ causes.limit = false ∧ run.sinceReport < cfg.holdOff := by
  simp [withheld, and_assoc]

theorem Causes.any_iff : causes.any = true ↔ causes.initial = true ∨ causes.change = true ∨ causes.limit = true ∨
    causes.quality = true ∨ causes.refresh = true ∨ causes.forced = true := by
  simp [Causes.any, or_assoc]

end

/-- Settles O28. The limit step touches no field of the record but those of the limit, so the causes are found on what the
record held before. -/
theorem sampleJudged : Obligations.SampleJudged := by
  intro c q v sweep s
  obtain ⟨step, stepped⟩ : ∃ step, step = limitStep s.chanCfg[c] { s.chanRun[c] with latest := some ⟨v, q, sweep⟩ } q v :=
    ⟨_, rfl⟩
  have keeps := limitStep_keeps s.chanCfg[c] { s.chanRun[c] with latest := some ⟨v, q, sweep⟩ } q v
  rw [← stepped] at keeps
  have last : step.1.lastReported = s.chanRun[c].lastReported := by rw [keeps]
  have since : step.1.sinceReport = s.chanRun[c].sinceReport := by rw [keeps]
  have gap : step.1.gap = s.chanRun[c].gap := by rw [keeps]
  have judged : s.judgeFresh c q v sweep =
      if withheld s.chanCfg[c] step.1 (sampleCauses s.chanCfg[c] step.1 step.2 q v) then
        s.setChanRun c { step.1 with pendingChange := true }
      else if (sampleCauses s.chanCfg[c] step.1 step.2 q v).any then
        (s.setChanRun c step.1).offer (s.sampleReport c step.1 (sampleCauses s.chanCfg[c] step.1 step.2 q v) q v sweep)
      else s.setChanRun c step.1 := by
    rw [stepped]
    rfl
  have initial := sampleCauses_initial (cfg := s.chanCfg[c]) (run := step.1) (limit := step.2) (q := q) (v := v)
  have quality := sampleCauses_quality (cfg := s.chanCfg[c]) (run := step.1) (limit := step.2) (q := q) (v := v)
  have change := sampleCauses_change (cfg := s.chanCfg[c]) (run := step.1) (limit := step.2) (q := q) (v := v)
  have limit : (sampleCauses s.chanCfg[c] step.1 step.2 q v).limit = step.2 := rfl
  have refresh : (sampleCauses s.chanCfg[c] step.1 step.2 q v).refresh = false := rfl
  have forced : (sampleCauses s.chanCfg[c] step.1 step.2 q v).forced = false := rfl
  have report : s.sampleReport c step.1 (sampleCauses s.chanCfg[c] step.1 step.2 q v) q v sweep =
      { node := s.nodeAddress c, channel := c, number := s.channelNumber c,
        causes := sampleCauses s.chanCfg[c] step.1 step.2 q v,
        cls := (sampleCauses s.chanCfg[c] step.1 step.2 q v).cls s.chanCfg[c], value := v, quality := q, sweep := sweep,
        limit := step.1.limit, aged := false, gap := s.chanRun[c].gap } := by
    rw [← gap]
    rfl
  rw [last] at initial quality change
  rw [report] at judged
  generalize sampleCauses s.chanCfg[c] step.1 step.2 q v = causes at *
  have idle := withheld_iff (cfg := s.chanCfg[c]) (causes := causes) (run := step.1)
  rw [since] at idle
  have any := causes.any_iff
  rw [refresh, forced] at any
  refine ⟨step.1, causes, causes.cls s.chanCfg[c], ?_, initial, quality, change, refresh, forced,
    Causes.cls_change, fun h => Causes.cls_limit h refresh forced, fun i q l => ⟨fun none => ?_, fun some early => ?_⟩,
    fun found => ?_⟩
  · rw [limit, ← stepped]
  · rw [judged, if_neg (by rw [idle, none]; exact fun h => nomatch h.1), if_neg (by rw [any, i, none, l, q]; simp)]
  · rw [judged, if_pos (idle.mpr ⟨some, i, q, l, early⟩)]
  · rw [judged, if_neg, if_pos]
    · rw [any]
      rcases found with h | h | h | ⟨h, -⟩ <;> simp [h]
    · rw [idle]
      rintro ⟨-, i, q, l, early⟩
      rcases found with h | h | h | ⟨-, h⟩
      · exact absurd h (by simp [i])
      · exact absurd h (by simp [q])
      · exact absurd h (by simp [l])
      · exact absurd h (Nat.not_le.mpr early)

end Sys2Proof.Machine
end

section
/-! The offer of a report. -/

namespace Sys2Proof.Machine

/-! ### The offer of a report (R47, R48, R58, R80 to R83) -/

section

variable {r head : Report} {rest : List Report} {run : Vector ChanRuntime 256} {s : State}

/-- An admission is applied to the record that was there before the store told anything. -/
theorem State.applyAdmission_eq (same : s.chanRun = run) :
    s.applyAdmission r = s.setChanRun r.channel (admittedRun run[r.channel] r) := by
  subst same
  rfl

theorem State.applyRefusal_eq (same : s.chanRun = run) :
    s.applyRefusal r = s.setChanRun r.channel (refusedRun run[r.channel] r) := by
  subst same
  rfl

theorem State.offer_admits (room : (s.queue r.cls).length < s.settings.limits.get r.cls) (slot : 0 < s.store.free) :
    s.offer r = s.admitReport r := if_pos ⟨room, slot⟩

theorem State.offer_evicts (full : s.settings.limits.get r.cls ≤ (s.queue r.cls).length ∨ s.store.free = 0)
    (policy : s.settings.policies.get r.cls = .keepNew) (queue : s.queue r.cls = head :: rest) :
    s.offer r = s.evict r head rest := by
  unfold State.offer
  rw [if_neg (by omega), policy, queue]

theorem State.offer_refuses (full : s.settings.limits.get r.cls ≤ (s.queue r.cls).length ∨ s.store.free = 0)
    (stays : s.settings.policies.get r.cls = .keepOld ∨ s.queue r.cls = []) : s.offer r = s.refuse r := by
  unfold State.offer
  rw [if_neg (by omega)]
  rcases stays with policy | queue
  · rw [policy]
  · rw [queue]
    cases s.settings.policies.get r.cls <;> rfl

/-- The report joins its queue and its slot leaves the free list, before the store tells anything. -/
def State.storing (s : State) (r : Report) : State :=
  ({ s with store := ⟨s.store.free - 1, s.store.cq.set r.cls (s.queue r.cls ++ [r])⟩ } : State).count (.reportsAdmitted r.cls)

theorem State.admitReport_eq : s.admitReport r =
    (if s.store.free - 1 = 0 then (s.storing r).tellStoreEmpty else s.storing r).applyAdmission r := rfl

theorem State.admitReport_tells (last : s.store.free = 1) :
    s.admitReport r = { ((({ s with
        store := ⟨0, s.store.cq.set r.cls (s.queue r.cls ++ [r])⟩
        latch := { s.latch with storeEmpty := true } } : State).count (.reportsAdmitted r.cls)).raise
          .storeEmpty 0 s.sweep.number) with
      chanRun := s.chanRun.set r.channel (admittedRun s.chanRun[r.channel] r) } := by
  rw [State.admitReport_eq, if_pos (by rw [last]), State.applyAdmission_eq (State.tellStoreEmpty_chanRun _), State.setChanRun,
    State.tellStoreEmpty_chanRun, State.storing, last]
  rfl

theorem State.admitReport_quiet (more : 1 < s.store.free) :
    s.admitReport r = (({ s with
        store := ⟨s.store.free - 1, s.store.cq.set r.cls (s.queue r.cls ++ [r])⟩
        chanRun := s.chanRun.set r.channel (admittedRun s.chanRun[r.channel] r) } : State).count
          (.reportsAdmitted r.cls)) := by
  rw [State.admitReport_eq, if_neg (by omega)]
  rfl

end

/-- Settles O30. -/
theorem offerCases : Obligations.OfferCases := by
  intro r s
  refine ⟨admittedRun s.chanRun[r.channel] r, rfl, fun room more => ?_, fun room last => ?_, fun full =>
    ⟨fun head rest policy queue => ?_, fun stays => ?_⟩⟩
  · rw [State.offer_admits room (by omega), State.admitReport_quiet more]
  · rw [State.offer_admits room (by omega), State.admitReport_tells last]
  · rw [State.offer_evicts full policy queue]
    exact congrArg (State.dropNotice · head.channel) (State.applyAdmission_eq (State.raise_chanRun _ _ _ _))
  · rw [State.offer_refuses full stays]
    have told : ((s.count (.reportsDropped r.cls)).raise .classDrop r.cls.code s.sweep.number).chanRun = s.chanRun :=
      State.raise_chanRun _ _ _ _
    by_cases none : s.store.free = 0
    · rw [if_pos none]
      exact (congrArg (State.applyRefusal · r) (if_pos none)).trans (State.applyRefusal_eq told)
    · rw [if_neg none]
      exact (congrArg (State.applyRefusal · r) (if_neg none)).trans (State.applyRefusal_eq told)

end Sys2Proof.Machine
end

section
/-! Notices taken, and the duties of a channel at the close. -/

namespace Sys2Proof.Machine

/-! ### Notices taken (R54, R57, R73) -/

theorem State.takeDrops_does (s : State) (late : List (Fin 256)) :
    s.takeDrops late = { s with drops := s.drops.filter (fun c => decide (c ∈ late)), chanRun := (s.takeDrops late).chanRun } ∧
    ∀ i : Fin 256, (s.takeDrops late).chanRun[i] =
      { s.chanRun[i] with gap := s.chanRun[i].gap || decide (i ∈ s.drops ∧ i ∉ late) } :=
  ({ s with drops := [] } : State).sendDrops_does late s.drops

section

variable {c : Fin 256} {resets : List (Fin 256)} {s : State}

theorem State.takeShareOf_none (other : ∀ n ∈ s.notices, n.channel ≠ c) : s.takeShareOf resets c = s := by
  have found : s.notices.find? (fun n => n.channel == c) = none :=
    List.find?_eq_none.mpr fun n waits => by simpa using other n waits
  unfold State.takeShareOf
  rw [found]

theorem State.takeShareOf_first {before after : List LossNotice} {n : LossNotice} (waits : s.notices = before ++ n :: after)
    (other : ∀ m ∈ before, m.channel ≠ c) (own : n.channel = c) :
    s.takeShareOf resets c = State.takeShare resets { s with notices := before ++ after } n := by
  have skipped : ∀ m ∈ before, ¬ (m.channel == c) = true := fun m h => by simpa using other m h
  have here : (n.channel == c) = true := beq_iff_eq.mpr own
  have found : s.notices.find? (fun n => n.channel == c) = some n := by
    rw [waits, List.find?_append, List.find?_eq_none.mpr skipped, Option.none_or]
    exact List.find?_cons_of_pos here
  have gone : s.notices.eraseP (fun n => n.channel == c) = before ++ after := by
    rw [waits, List.eraseP_append_right _ skipped]
    exact congrArg (before ++ ·) (List.eraseP_cons_of_pos here)
  unfold State.takeShareOf
  rw [found]
  dsimp only
  rw [gone]

end

/-! ### Close duties (R49 to R53) -/

section

variable {cfg : ChanConfig} {run : ChanRuntime} {l : Latest}

theorem serveForce_latest (latest : run.latest = some l) : serveForce run = (run, run.forcePending) := by
  unfold serveForce
  rw [latest]
  cases run.forcePending <;> rfl

theorem serveForce_none (none : run.latest = none) : (serveForce run).1 = { run with forcePending := false } := by
  cases forced : run.forcePending with
  | false =>
    have same : { run with forcePending := false } = run := by rw [← forced]
    rw [same]
    unfold serveForce
    rw [forced]
    rfl
  | true =>
    unfold serveForce
    rw [forced, none]
    rfl

theorem resolvePending_quiet (quiet : run.pendingChange = false) : resolvePending cfg run = (run, false, false) := by
  unfold resolvePending
  rw [quiet]
  rfl

theorem resolvePending_none (none : run.latest = none) :
    (resolvePending cfg run).1 = { run with pendingChange := false } := by
  cases pending : run.pendingChange with
  | false => rw [resolvePending_quiet pending, ← pending]
  | true =>
    unfold resolvePending
    rw [pending, none]
    rfl

/-- The record keeps a change that was found or that the hold-off withholds (R50). -/
def pendingKept (cfg : ChanConfig) (run : ChanRuntime) (causes : Bool × Bool) : ChanRuntime :=
  { run with pendingChange := run.pendingChange && (causes.1 || causes.2 || decide (run.sinceReport < cfg.holdOff)) }

theorem pendingKept_of {causes : Bool × Bool}
    (found : (causes.1 || causes.2 || decide (run.sinceReport < cfg.holdOff)) = true) : pendingKept cfg run causes = run := by
  unfold pendingKept
  rw [found, Bool.and_true]

theorem pendingKept_cleared (late : cfg.holdOff ≤ run.sinceReport) :
    pendingKept cfg run (false, false) = { run with pendingChange := false } := by
  unfold pendingKept
  rw [decide_eq_false (Nat.not_lt.mpr late), Bool.false_or, Bool.false_or, Bool.and_false]

/-- The duty of a pending change with a latest record, in one equation per case (R50). -/
theorem resolvePending_latest (pending : run.pendingChange = true) (latest : run.latest = some l) :
    (run.lastReported = none → resolvePending cfg run = (run, true, false)) ∧
    (run.lastReported ≠ none → run.sinceReport < cfg.holdOff → resolvePending cfg run = (run, false, false)) ∧
    (run.lastReported ≠ none → cfg.holdOff ≤ run.sinceReport → resolvePending cfg run =
      (pendingKept cfg run (false, sampleChange cfg run.lastReported l.quality l.value), false,
        sampleChange cfg run.lastReported l.quality l.value)) := by
  obtain ⟨last, _, since, _, force, gap, limit, count, candidate⟩ := run
  subst pending latest
  cases last with
  | none => exact ⟨fun _ => rfl, fun h => absurd rfl h, fun h => absurd rfl h⟩
  | some r =>
    refine ⟨nofun, fun _ early => if_pos early, fun _ late => (if_neg (Nat.not_lt.mpr late)).trans ?_⟩
    have cleared := pendingKept_cleared (cfg := cfg) late
    have kept := pendingKept_of (cfg := cfg) (run := ⟨some r, some l, since, true, force, gap, limit, count, candidate⟩)
      (causes := (false, true)) rfl
    unfold sampleChange
    cases cfg.rule with
    | none => dsimp only; rw [cleared]
    | every => dsimp only; rw [kept]
    | deadband =>
      dsimp only
      cases deadbandChange cfg (some r) l.quality l.value with
      | false => rw [cleared]; rfl
      | true => rw [kept]; rfl

/-- What the duty of a pending change finds, and what it keeps (R50). -/
theorem resolvePending_finds (latest : run.latest = some l) :
    (resolvePending cfg run).1 = pendingKept cfg run (resolvePending cfg run).2 ∧
    ((resolvePending cfg run).2.1 = true ↔ run.pendingChange = true ∧ run.lastReported = none) ∧
    ((resolvePending cfg run).2.2 = true ↔ run.pendingChange = true ∧ cfg.holdOff ≤ run.sinceReport ∧
      run.lastReported ≠ none ∧ sampleChange cfg run.lastReported l.quality l.value = true) := by
  by_cases pending : run.pendingChange = true
  · obtain ⟨first, early, late⟩ := resolvePending_latest (cfg := cfg) pending latest
    by_cases reported : run.lastReported = none
    · rw [first reported]
      exact ⟨(pendingKept_of rfl).symm, by simp [pending, reported], by simp [reported]⟩
    · by_cases waits : run.sinceReport < cfg.holdOff
      · rw [early reported waits]
        exact ⟨(pendingKept_of (by simp [waits])).symm, by simp [reported], by simp [Nat.not_le.mpr waits]⟩
      · rw [late reported (Nat.not_lt.mp waits)]
        exact ⟨rfl, by simp [reported], by simp [pending, reported, Nat.not_lt.mp waits]⟩
  · have quiet : run.pendingChange = false := Bool.eq_false_iff.mpr pending
    rw [resolvePending_quiet quiet]
    refine ⟨?_, by simp [quiet], by simp [quiet]⟩
    unfold pendingKept
    rw [quiet, Bool.false_and, ← quiet]

theorem sampleChange_iff {last : Option Reading} {q : Quality} {v : Word} : last ≠ none ∧ sampleChange cfg last q v = true ↔
    ∃ r, last = some r ∧ (cfg.rule = .every ∨ (cfg.rule = .deadband ∧ q = .good ∧ r.quality = .good ∧
      cfg.deadband < (v.toInt - r.value.toInt).natAbs)) := by
  cases last with
  | none => simp
  | some r =>
    unfold sampleChange
    cases cfg.rule with
    | none => simp
    | every => simp
    | deadband => simp [deadbandChange_iff]

theorem refreshDue_iff (latest : run.latest = some l) :
    refreshDue cfg run = true ↔ cfg.heartbeat ≠ 0 ∧ cfg.heartbeat ≤ run.sinceReport := by
  simp [refreshDue, latest]

end

section

variable {c : Fin 256} {closing : Word} {s : State}

theorem State.channelClose_disabled (off : s.chanCfg[c].enabled = false) : s.channelClose c closing = s := by
  unfold State.channelClose
  rw [off]
  rfl

/-- One more sweep since the last report, at most 65535 (R49). -/
def countedRun (run : ChanRuntime) : ChanRuntime := { run with sinceReport := min 65535 (run.sinceReport + 1) }

theorem State.channelClose_none (on : s.chanCfg[c].enabled = true) (none : (countedRun s.chanRun[c]).latest = none) :
    s.channelClose c closing =
      s.setChanRun c { countedRun s.chanRun[c] with pendingChange := false, forcePending := false } := by
  have resolved := resolvePending_none (cfg := s.chanCfg[c]) none
  have left : (closeDuties s.chanCfg[c] s.chanRun[c]).1 =
      { countedRun s.chanRun[c] with pendingChange := false, forcePending := false } := by
    show (serveForce (resolvePending s.chanCfg[c] (countedRun s.chanRun[c])).1).1 = _
    rw [resolved, serveForce_none]
    exact none
  unfold State.channelClose
  rw [on]
  dsimp only
  rw [left]
  dsimp only
  rw [none]
  rfl

theorem State.channelClose_latest {run : ChanRuntime} {causes : Causes} {l : Latest} (on : s.chanCfg[c].enabled = true)
    (out : closeDuties s.chanCfg[c] s.chanRun[c] = (run, causes)) (latest : run.latest = some l) :
    s.channelClose c closing = if causes.any then (s.setChanRun c run).offer ((s.setChanRun c run).closeReport c run l causes
      closing) else s.setChanRun c run := by
  unfold State.channelClose
  rw [on, out]
  dsimp only
  rw [latest]
  rfl

end

end Sys2Proof.Machine
end

section
/-! The close report and the node-loss report. -/

namespace Sys2Proof.Machine

section

variable {s : State} {n : LossNotice}

theorem State.takeLoss_disabled (off : s.chanCfg[n.channel].enabled = false) : s.takeLoss n = s := by
  unfold State.takeLoss
  rw [off]
  rfl

theorem State.takeLoss_enabled (on : s.chanCfg[n.channel].enabled = true) : s.takeLoss n =
    if (lostRun s.chanRun[n.channel]).lastReported.map Reading.quality = some .noData then
      s.setChanRun n.channel (lostRun s.chanRun[n.channel])
    else (s.setChanRun n.channel (lostRun s.chanRun[n.channel])).offer
      ((s.setChanRun n.channel (lostRun s.chanRun[n.channel])).lossReport n (lostRun s.chanRun[n.channel])) := by
  unfold State.takeLoss
  rw [on]
  rfl

/-- The class of a node-loss report (R55). -/
theorem lossClass (cfg : ChanConfig) (last : Option Reading) :
    ({ quality := true, initial := last.isNone } : Causes).cls cfg =
      if last = none ∧ cfg.changeClass.code ≤ cfg.limitClass.code then cfg.changeClass else cfg.limitClass := by
  rw [Causes.cls_limit (Or.inr rfl) rfl rfl]
  exact ite_congr (propext (and_congr_left' (by simp))) (fun _ => rfl) fun _ => rfl

end

theorem Causes.none_iff {causes : Causes} (limit : causes.limit = false) (quality : causes.quality = false) :
    causes.any = false ↔ causes = {} := by
  obtain ⟨initial, change, _, _, refresh, forced⟩ := causes
  subst limit quality
  simp [Causes.any, and_assoc]

/-- The causes of a close report are of the change class (R53). -/
theorem closeDuties_eq {cfg : ChanConfig} {run : ChanRuntime} {l : Latest} (latest : run.latest = some l) :
    closeDuties cfg run = (pendingKept cfg (countedRun run) (resolvePending cfg (countedRun run)).2,
      { initial := (resolvePending cfg (countedRun run)).2.1, change := (resolvePending cfg (countedRun run)).2.2,
        refresh := refreshDue cfg (countedRun run), forced := (countedRun run).forcePending }) := by
  have counted : (countedRun run).latest = some l := latest
  have kept := (resolvePending_finds (cfg := cfg) counted).1
  have forced : serveForce (resolvePending cfg (countedRun run)).1 =
      (pendingKept cfg (countedRun run) (resolvePending cfg (countedRun run)).2, (countedRun run).forcePending) := by
    rw [kept]
    exact serveForce_latest counted
  unfold closeDuties
  show ((serveForce (resolvePending cfg (countedRun run)).1).1, _) = _
  rw [show ({ run with sinceReport := min 65535 (run.sinceReport + 1) } : ChanRuntime) = countedRun run from rfl, forced]

/-- Settles O31. -/
theorem closeDutiesAndNodeLoss : Obligations.CloseDutiesAndNodeLoss := by
  refine ⟨fun late sent s t same => same ▸ s.sendDrops_does late sent, fun late s t same => same ▸ s.takeDrops_does late,
    fun between resets c s => ⟨fun none => s.takeDropOf_none c none, fun waits => if_pos waits,
      State.takeShareOf_none, fun before n after => State.takeShareOf_first⟩,
    fun late resets n s => ⟨State.takeShare_passes resets s n, State.takeShare_takes resets s n, rfl⟩,
    fun c closing s => ⟨State.channelClose_disabled, fun on => ⟨countedRun s.chanRun[c], rfl,
      State.channelClose_none on, fun l latest => ?_⟩, ?_⟩⟩
  · obtain ⟨kept, initial, change⟩ := resolvePending_finds (cfg := s.chanCfg[c]) latest
    have refresh := refreshDue_iff (cfg := s.chanCfg[c]) latest
    have out := closeDuties_eq (cfg := s.chanCfg[c]) (run := s.chanRun[c]) latest
    rw [sampleChange_iff] at change
    obtain ⟨causes, found⟩ : ∃ causes : Causes, causes =
        { initial := (resolvePending s.chanCfg[c] (countedRun s.chanRun[c])).2.1
          change := (resolvePending s.chanCfg[c] (countedRun s.chanRun[c])).2.2
          refresh := refreshDue s.chanCfg[c] (countedRun s.chanRun[c])
          forced := (countedRun s.chanRun[c]).forcePending } := ⟨_, rfl⟩
    have none := Causes.none_iff (causes := causes) (by rw [found]) (by rw [found])
    have closed := State.channelClose_latest (closing := closing) on out latest
    refine ⟨causes, by rw [found]; exact initial, by rw [found]; exact change, by rw [found]; exact refresh, by rw [found],
      by rw [found], by rw [found], pendingKept s.chanCfg[c] (countedRun s.chanRun[c]) (causes.initial, causes.change), rfl,
      fun empty => ?_, fun any => ?_⟩
    · rw [found] at empty none ⊢
      exact closed.trans (if_neg (Bool.eq_false_iff.mp (none.mpr empty)))
    · have aged : (l.sweep != closing) = decide (l.sweep ≠ closing) := (decide_not).symm
      rw [found] at any none ⊢
      rw [← aged]
      exact closed.trans (if_pos (Bool.eq_true_of_not_eq_false fun h => any (none.mp h)))
  · rintro n rfl
    refine ⟨State.takeLoss_disabled, fun on => ⟨lostRun s.chanRun[n.channel], rfl, fun lost => ?_, fun known => ?_⟩⟩
    · rw [State.takeLoss_enabled on, if_pos lost]
    · rw [State.takeLoss_enabled on, if_neg known, ← lossClass]
      rfl

end Sys2Proof.Machine
end

section
/-! The round robin. -/

namespace Sys2Proof.Machine

/-! ### The round robin (R100) -/

section

variable {s : State}

theorem State.nextTurn_keeps (waits : s.memberWaits s.uplink.turn.member = true)
    (below : s.uplink.turn.count < s.settings.weight s.uplink.turn.member) :
    s.nextTurn = some ⟨s.uplink.turn.member, s.uplink.turn.count + 1⟩ := if_pos ⟨waits, below⟩

theorem State.nextTurn_passes (passes : s.memberWaits s.uplink.turn.member = false ∨
      s.settings.weight s.uplink.turn.member ≤ s.uplink.turn.count) :
    s.nextTurn = (s.uplink.turn.member.cycle.find? s.memberWaits).map (⟨·, 1⟩) := by
  refine if_neg fun ⟨waits, below⟩ => ?_
  rcases passes with empty | full
  · rw [empty] at waits
    exact nomatch waits
  · exact absurd below (Nat.not_lt.mpr full)

theorem map_find?_cons {α β : Type} (p : α → Bool) (f : α → β) (a : α) (l : List α) :
    ((a :: l).find? p).map f = if p a then some (f a) else (l.find? p).map f := by
  cases found : p a <;> simp [found]

end

/-- Settles O33. -/
theorem roundRobin : Obligations.RoundRobin := by
  rintro s waits rfl
  refine ⟨rfl, rfl, rfl, rfl, ?_⟩
  rintro m n w turn rfl
  have member : s.uplink.turn.member = m := congrArg Turn.member turn
  have count : s.uplink.turn.count = n := congrArg Turn.count turn
  subst member count
  refine ⟨State.nextTurn_keeps, fun passes a b c order => ?_⟩
  have cycle : s.uplink.turn.member.cycle = [a, b, c, s.uplink.turn.member] := by
    generalize s.uplink.turn.member = m at *
    simp only [List.mem_cons, Prod.mk.injEq, List.not_mem_nil, or_false] at order
    rcases order with ⟨rfl, rfl, rfl, rfl⟩ | ⟨rfl, rfl, rfl, rfl⟩ | ⟨rfl, rfl, rfl, rfl⟩ | ⟨rfl, rfl, rfl, rfl⟩ <;> rfl
  rw [State.nextTurn_passes passes, cycle, map_find?_cons, map_find?_cons, map_find?_cons, map_find?_cons]
  rfl

end Sys2Proof.Machine
end

section
/-! The Confirmation Unit: ACK, the ends of urgent transmissions and the timeout of an entry. -/

namespace Sys2Proof.Machine

/-! ### Confirmation (R107 to R115) -/

theorem replaceEntry_eq (entries : List Entry) {e' : Entry} {q : Byte} (own : e'.seq = q) :
    replaceEntry entries e' = entries.map (fun x => if x.seq = q then e' else x) := by
  subst own
  rfl

section

variable {q : Byte} {e : Entry} {s : State}

theorem State.entry_own (found : s.entry q = some e) : e.seq = q := 
  beq_iff_eq.mp (List.find?_some (p := fun x : Entry => x.seq == q) found)

theorem State.setEntry_eq (own : e.seq = q) : s.setEntry e = { s with conf := { s.conf with
    entries := s.conf.entries.map (fun x => if x.seq = q then e else x) } } := by
  subst own
  rfl

theorem State.makeDue_eq (own : e.seq = q) : s.makeDue e = { s with conf := { s.conf with
    entries := s.conf.entries.map (fun x => if x.seq = q then { e with state := .due } else x)
    due := s.conf.due ++ [q] } } := by
  subst own
  rfl

theorem State.acknowledge_stray (gone : s.entry q = none) : s.acknowledge q = s.count .strayAck := by
  unfold State.acknowledge
  rw [gone]

theorem State.acknowledge_sending (found : s.entry q = some e) (state : e.state = .sending) :
    s.acknowledge q = s.setEntry { e with acked := true } := by
  unfold State.acknowledge
  rw [found]
  dsimp only
  rw [state]

theorem State.acknowledge_delivers (found : s.entry q = some e) (state : e.state ≠ .sending) :
    s.acknowledge q = s.deliverEntry q := by
  unfold State.acknowledge
  rw [found]
  dsimp only
  cases now : e.state with
  | sending => exact absurd now state
  | waiting _ => rfl
  | due => rfl

theorem State.urgentEnds_gone (gone : s.entry q = none) : s.urgentCompleted q = s ∧ s.urgentAborted q = s := by
  unfold State.urgentCompleted State.urgentAborted
  rw [gone]
  exact ⟨rfl, rfl⟩

theorem State.urgentEnds_acked (found : s.entry q = some e) (acked : e.acked = true) :
    s.urgentCompleted q = s.deliverEntry q ∧ s.urgentAborted q = s.deliverEntry q := by
  unfold State.urgentCompleted State.urgentAborted
  rw [found]
  exact ⟨if_pos acked, if_pos acked⟩

theorem State.urgentEnds_waits (found : s.entry q = some e) (acked : e.acked = false) :
    s.urgentCompleted q = s.setEntry { e with state := .waiting (100 * s.settings.retransTimeout) } ∧
    s.urgentAborted q = s.makeDue { e with attempt := e.attempt - 1 } := by
  have open' : ¬ e.acked = true := Bool.eq_false_iff.mp acked
  unfold State.urgentCompleted State.urgentAborted
  rw [found, Nat.mul_comm 100]
  exact ⟨if_neg open', if_neg open'⟩

end

theorem ackForm_iff {payload : List Byte} : ackForm payload = true ↔
    1 ≤ (payload.getD 0 0).toNat ∧ (payload.getD 0 0).toNat ≤ 8 ∧ payload.length = 1 + (payload.getD 0 0).toNat := by
  simp [ackForm, within, byteAt, and_assoc]

theorem exec_ack {payload : List Byte} {s : State} (waits : s.inbox.confirm = [payload]) :
    exec (.ack payload) s = .next (({ s with inbox := { s.inbox with confirm := [] } } : State).takeAck payload) := by
  show Host.Outcome.next _ = _
  rw [waits, dropHead, if_pos rfl]

/-- Settles O35. -/
theorem ackAndUrgentTransmissionEnds : Obligations.AckAndUrgentTransmissionEnds := by
  refine ⟨⟨fun payload s waits => ⟨_, rfl, fun bad => ?_, fun n numbers form one eight count => ?_⟩,
    fun q s => ⟨State.acknowledge_stray, fun e found => ⟨fun state => ?_, State.acknowledge_delivers found⟩⟩⟩,
    fun q s => ⟨State.urgentEnds_gone, fun e found => ⟨fun acked => ⟨_, rfl, State.urgentEnds_acked found acked⟩,
      fun acked => ?_⟩⟩⟩
  · have malformed : ¬ ackForm payload = true := by
      rw [ackForm_iff]
      omega
    rw [exec_ack waits, State.takeAck, if_neg malformed]
  · subst form
    have good : ackForm (n :: numbers) = true := ackForm_iff.mpr ⟨one, eight, by simp [count]; omega⟩
    rw [exec_ack waits, State.takeAck, if_pos good]
    rfl
  · have own : e.seq = q := State.entry_own found
    rw [State.acknowledge_sending found state]
    exact State.setEntry_eq (e := { e with acked := true }) own
  · have own : e.seq = q := State.entry_own found
    obtain ⟨completed, aborted⟩ := State.urgentEnds_waits found acked
    rw [completed, aborted]
    exact ⟨State.setEntry_eq (e := { e with state := .waiting (100 * s.settings.retransTimeout) }) own,
      State.makeDue_eq (e := { e with attempt := e.attempt - 1 }) own⟩

/-! ### The timeout of an entry (R112, R113) -/

theorem State.expireEntry_again {e : Entry} {s : State} (again : e.attempt ≤ s.settings.retryLimit) :
    s.expireEntry e = s.makeDue e := if_pos again

theorem State.expireEntry_last {e : Entry} {s : State} (last : s.settings.retryLimit < e.attempt) :
    s.expireEntry e = s.abandonEntry e := if_neg (Nat.not_le.mpr last)

theorem exec_retransmissionExpiry {q : Byte} {e : Entry} {n : Nat} {s : State} (found : s.entry q = some e)
    (waits : e.state = .waiting n) : exec (.retransmissionExpiry q) s =
      .next (if s.isUp .tu then (s.advance n).expireEntry e else s) := by
  show Host.Outcome.next _ = _
  rw [found]
  dsimp only
  rw [waits]

/-- One drop notice sent: the filter takes it, or it waits for it (R57). -/
theorem State.sendDrops_one (s : State) (late : List (Fin 256)) (c : Fin 256) :
    s.sendDrops late [c] = { s with
      drops := if c ∈ late then s.drops ++ [c] else s.drops
      chanRun := if c ∈ late then s.chanRun else s.chanRun.set c { s.chanRun[c] with gap := true } } := by
  unfold State.sendDrops
  by_cases waits : c ∈ late
  · simp [waits, State.dropNotices]
  · simp [waits, State.dropNotices, State.dropNotice, State.setChanRun]

theorem State.abandonEntry_eq {e : Entry} {q : Byte} {s : State} (own : e.seq = q) : s.abandonEntry e = (({ s with
    choices := s.choices.tail
    conf := { s.conf with
      entries := s.conf.entries.eraseP (fun x => x.seq == q)
      due := s.conf.due.erase q }
    store := { s.store with free := s.store.free + 1 }
    latch := { s.latch with storeEmpty := false }
    drops := if e.report.channel ∈ s.choice.lateDrops then s.drops ++ [e.report.channel] else s.drops
    chanRun := if e.report.channel ∈ s.choice.lateDrops then s.chanRun
      else s.chanRun.set e.report.channel { s.chanRun[e.report.channel] with gap := true } } : State).count
    .urgentAbandoned).raise .urgentAbandoned 0 s.sweep.number := by
  subst own
  unfold State.abandonEntry State.raiseNow
  rw [State.sendDrops_one]
  rfl

/-- Settles O34. -/
theorem retransmissionExpiry : Obligations.RetransmissionExpiry := by
  intro q e n s found waits
  have own : e.seq = q := State.entry_own found
  have due (up : s.isUp .tu = true) : (s.advance n).conf.due = s.conf.due := by
    unfold State.advance
    rw [if_pos up]
  refine ⟨fun down => ?_, fun up => ⟨_, rfl, fun again => ?_, fun last => ?_⟩⟩
  · rw [exec_retransmissionExpiry found waits, if_neg (Bool.eq_false_iff.mp down)]
  · rw [exec_retransmissionExpiry found waits, if_pos up, State.expireEntry_again (s := s.advance n) again, State.makeDue_eq own, due up]
  · rw [exec_retransmissionExpiry found waits, if_pos up, State.expireEntry_last (s := s.advance n) last,
      State.abandonEntry_eq own, due up]
    rfl

end Sys2Proof.Machine
end

section
/-! The six tiers of the Uplink Scheduler. -/

namespace Sys2Proof.Machine

/-! ### The six tiers (R93 to R99, R109, R114, R186) -/

theorem reportPayload_one (r : Report) : reportPayload [r] = 1 :: reportBytes r := by
  show 1 :: (reportBytes r ++ []) = _
  rw [List.append_nil]

section

variable {s x : State}

theorem exec_uplinkChoice_waits (h : (s.link .tu).state ≠ .up ∨ (s.link .tu).tx.isSome = true) :
    exec .uplinkChoice s = .next s := by
  have busy : ¬ (s.canSend .tu && s.uplink.flight.isNone) = true := by
    rw [Bool.and_eq_true, State.canSend_iff]
    rintro ⟨⟨up, idle⟩, -⟩
    rcases h with h | h
    · exact h up
    · rw [idle] at h
      exact nomatch h
  exact congrArg Host.Outcome.next (if_neg busy)

theorem exec_uplinkChoice_serves (up : (s.link .tu).state = .up) (idle : (s.link .tu).tx = none)
    (flight : s.uplink.flight = none) : exec .uplinkChoice s = .next s.serveTiers := by
  have free : (s.canSend .tu && s.uplink.flight.isNone) = true := by
    rw [Bool.and_eq_true, State.canSend_iff, flight]
    exact ⟨⟨up, idle⟩, rfl⟩
  exact congrArg Host.Outcome.next (if_pos free)

/-! #### Tiers that have nothing to send -/

theorem State.tier1_none (due : s.conf.due = []) : s.tier1 = none := by
  unfold State.tier1
  rw [due]
  rfl

theorem State.tier2_none (tqU : s.trunk.tqU = []) : s.tier2 = none := by
  unfold State.tier2
  rw [tqU]

theorem State.tier3_none (h : s.queue .c0 = [] ∨ 16 ≤ s.conf.entries.length) : s.tier3 = none := by
  unfold State.tier3
  cases queue : s.queue .c0 with
  | nil => rfl
  | cons r rest =>
    rcases h with h | full
    · rw [queue] at h
      exact nomatch h
    · exact if_neg (Nat.not_lt.mpr full)

theorem State.tier4_none (items : s.mgmt.items = []) : s.tier4 = none := by
  unfold State.tier4
  rw [items]

theorem State.tier5_none (beacon : s.uplink.beaconPending = false) : s.tier5 = none := by
  unfold State.tier5
  rw [beacon]
  rfl

theorem State.memberWaits_none (c1 : s.queue .c1 = []) (c2 : s.queue .c2 = []) (c3 : s.queue .c3 = [])
    (tqN : s.trunk.tqN = []) (m : Member) : s.memberWaits m = false := by
  cases m with
  | cq1 => exact congrArg (fun q : List Report => !q.isEmpty) c1
  | cq2 => exact congrArg (fun q : List Report => !q.isEmpty) c2
  | cq3 => exact congrArg (fun q : List Report => !q.isEmpty) c3
  | tqN => exact congrArg (fun q : List TrunkFrame => !q.isEmpty) tqN

theorem State.tier6_none (empty : ∀ m, s.memberWaits m = false) : s.tier6 = none := by
  have passes : s.nextTurn = none := by
    rw [State.nextTurn_passes (Or.inl (empty _)), List.find?_eq_none.mpr fun m _ => by simp [empty m]]
    rfl
  unfold State.tier6
  rw [passes]
  rfl

/-! #### The first eligible tier is served -/

theorem State.serveTiers_tier1 (h1 : s.tier1 = some x) : s.serveTiers = x := by
  simp [State.serveTiers, h1]

theorem State.serveTiers_tier2 (h1 : s.tier1 = none) (h2 : s.tier2 = some x) : s.serveTiers = x := by
  simp [State.serveTiers, h1, h2]

theorem State.serveTiers_tier3 (h1 : s.tier1 = none) (h2 : s.tier2 = none) (h3 : s.tier3 = some x) : s.serveTiers = x := by
  simp [State.serveTiers, h1, h2, h3]

theorem State.serveTiers_tier4 (h1 : s.tier1 = none) (h2 : s.tier2 = none) (h3 : s.tier3 = none) (h4 : s.tier4 = some x) :
    s.serveTiers = x := by
  simp [State.serveTiers, h1, h2, h3, h4]

theorem State.serveTiers_tier5 (h1 : s.tier1 = none) (h2 : s.tier2 = none) (h3 : s.tier3 = none) (h4 : s.tier4 = none)
    (h5 : s.tier5 = some x) : s.serveTiers = x := by
  simp [State.serveTiers, h1, h2, h3, h4, h5]

theorem State.serveTiers_tier6 (h1 : s.tier1 = none) (h2 : s.tier2 = none) (h3 : s.tier3 = none) (h4 : s.tier4 = none)
    (h5 : s.tier5 = none) : s.serveTiers = s.tier6.getD s := by
  cases h6 : s.tier6 <;> simp [State.serveTiers, h1, h2, h3, h4, h5, h6]

/-! #### What each tier sends -/

theorem State.tier1_sends {q : Byte} {rest : List Byte} {e : Entry} (due : s.conf.due = q :: rest)
    (found : s.entry q = some e) : s.tier1 = some ((({ s with conf := { s.conf with
        entries := s.conf.entries.map (fun (x : Entry) => if x.seq = q then e.resend else x)
        due := rest } } : State).count .urgentRetransmitted).sendUp (.urgent q true)
      ⟨0x01, 0x03, 0, BitVec.ofNat 8 s.trunk.own, 1 :: reportBytes e.resend.report⟩) := by
  have head : s.conf.due.head?.bind s.entry = some e := by
    rw [due]
    exact found
  have own : e.seq = q := State.entry_own found
  have left : s.conf.due.erase q = rest := by rw [due, List.erase_cons_head]
  unfold State.tier1
  rw [head]
  dsimp only
  rw [State.takeDue, own, reportPayload_one, State.setEntry_eq (e := e.resend) own]
  dsimp only
  rw [left]
  rfl

theorem State.tier2_sends {f : TrunkFrame} {rest : List TrunkFrame} (tqU : s.trunk.tqU = f :: rest) :
    s.tier2 = some (({ s with trunk := { s.trunk with tqU := rest } } : State).sendUp (.transit true) f) := by
  unfold State.tier2
  rw [tqU]

theorem State.tier3_sends {r : Report} {rest : List Report} (queue : s.queue .c0 = r :: rest)
    (room : s.conf.entries.length < 16) :
    s.tier3 = some (((s.setQueue .c0 rest).addEntry r).sendUp (.urgent s.nextNumber false)
      ⟨0x01, 0x01, 0, BitVec.ofNat 8 s.trunk.own, 1 :: reportBytes { r with seq := s.nextNumber, attempt := 1 }⟩) := by
  unfold State.tier3
  rw [queue, ← reportPayload_one]
  exact if_pos room

theorem State.tier4_sends {i : MqItem} {rest : List MqItem} (items : s.mgmt.items = i :: rest) :
    s.tier4 = some (({ s with mgmt := { s.mgmt with items := rest } } : State).sendUp (.item i)
      ⟨i.kindAndPayload.1, 0, 0, BitVec.ofNat 8 s.trunk.own, i.kindAndPayload.2⟩) := by
  unfold State.tier4
  rw [items]
  rfl

theorem State.tier5_sends (beacon : s.uplink.beaconPending = true) :
    s.tier5 = some (({ s with uplink := { s.uplink with beaconPending := false } } : State).sendUp .beacon
      ⟨0x04, 0, 0, BitVec.ofNat 8 s.trunk.own, s.beaconPayload⟩) := by
  unfold State.tier5
  rw [beacon]
  rfl

theorem State.tier6_reports {turn : Turn} {k : ReportClass} (next : s.nextTurn = some turn)
    (class' : turn.member.queueClass = some k) :
    s.tier6 = some ((({ s with uplink := { s.uplink with turn := turn } } : State).setQueue k
        ((s.queue k).drop s.settings.packLimit)).sendUp (.reports turn.member ((s.queue k).take s.settings.packLimit))
      ⟨0x01, 0, 0, BitVec.ofNat 8 s.trunk.own, reportPayload ((s.queue k).take s.settings.packLimit)⟩) := by
  unfold State.tier6
  rw [next, Option.map_some, State.takeMember, class']
  rfl

theorem State.tier6_transit {turn : Turn} {f : TrunkFrame} {rest : List TrunkFrame} (next : s.nextTurn = some turn)
    (member : turn.member = .tqN) (tqN : s.trunk.tqN = f :: rest) :
    s.tier6 = some (({ s with
      uplink := { s.uplink with turn := turn }
      trunk := { s.trunk with tqN := rest } } : State).sendUp (.transit false) f) := by
  unfold State.tier6
  rw [next, Option.map_some, State.takeMember, member]
  dsimp only [Member.queueClass]
  rw [tqN]

end

/-- Settles O32. -/
theorem uplinkTiers : Obligations.UplinkTiers := by
  refine ⟨fun s => exec_uplinkChoice_waits, fun s up idle flight => ⟨fun x fl f => { x with
      uplink := { x.uplink with flight := some fl }
      links := s.links.set .tu { s.link .tu with tx := some ⟨f.bytes, .scheduler, 0⟩ } }, rfl, _, rfl, ?_⟩⟩
  have serves : exec .uplinkChoice s = .next s.serveTiers := exec_uplinkChoice_serves up idle flight
  rw [serves]
  refine ⟨fun q rest e due found => ⟨e.resend, rfl, ?_⟩, fun f rest due tqU => ?_, fun due tqU =>
    ⟨fun r rest queue room => ⟨_, rfl, ?_⟩, fun no3 => ⟨fun i rest items => ?_, fun items => ⟨fun beacon => ?_,
      fun beacon => ⟨fun turn m k next member class' => ?_, fun turn f rest next member tqN => ?_,
        fun c1 c2 c3 tqN => ?_⟩⟩⟩⟩⟩
  · rw [State.serveTiers_tier1 (State.tier1_sends due found)]
    rfl
  · rw [State.serveTiers_tier2 (State.tier1_none due) (State.tier2_sends tqU)]
    rfl
  all_goals have no1 := State.tier1_none due
  all_goals have no2 := State.tier2_none tqU
  · rw [State.serveTiers_tier3 no1 no2 (State.tier3_sends queue room)]
    rfl
  all_goals have no3 := State.tier3_none no3
  · rw [State.serveTiers_tier4 no1 no2 no3 (State.tier4_sends items)]
    rfl
  all_goals have no4 := State.tier4_none items
  · rw [State.serveTiers_tier5 no1 no2 no3 no4 (State.tier5_sends beacon)]
    rfl
  all_goals rw [State.serveTiers_tier6 no1 no2 no3 no4 (State.tier5_none beacon)]
  · subst member
    rw [State.tier6_reports next class']
    rfl
  · rw [State.tier6_transit next member tqN]
    rfl
  · rw [State.tier6_none (State.memberWaits_none c1 c2 c3 tqN)]
    rfl

end Sys2Proof.Machine
end

section
/-! The layouts of records and payloads. -/

namespace Sys2Proof.Machine

/-! ### Bytes packed of several fields (R133) -/

/-- A field shifted left, and what stands below it. -/
theorem byteOf_shiftLeft_or (n : Nat) {k q : Nat} (below : q < 2 ^ k) :
    (byteOf n <<< k) ||| byteOf q = BitVec.ofNat 8 (2 ^ k * n + q) := by
  have shifted : byteOf n <<< k = BitVec.ofNat 8 (2 ^ k * n) := by
    apply BitVec.eq_of_toNat_eq
    rw [BitVec.toNat_shiftLeft, Nat.shiftLeft_eq, byteOf, BitVec.toNat_ofNat, BitVec.toNat_ofNat, Nat.mod_mul_mod,
      Nat.mul_comm]
  rw [shifted, Nat.two_pow_add_eq_or_of_lt below, BitVec.ofNat_or, byteOf]

theorem marksByte_eq (r : Report) (bit : Bool → Nat) (zero : bit false = 0) (one : bit true = 1) : marksByte r =
    BitVec.ofNat 8 (128 * bit r.aged + 64 * bit r.gap + 32 * bit r.causes.forced + 16 * bit r.causes.refresh +
        8 * bit r.causes.quality + 4 * bit r.causes.limit + 2 * bit r.causes.change + bit r.causes.initial) := by
  have weight : bit = Bool.toNat := funext fun b => by cases b <;> assumption
  have packed : ∀ aged gap forced refresh quality limit change initial : Bool,
      (boolCode aged <<< 7 ||| boolCode gap <<< 6 ||| ({ initial, change, limit, quality, refresh, forced } : Causes).bits) =
        BitVec.ofNat 8 (128 * aged.toNat + 64 * gap.toNat + 32 * forced.toNat + 16 * refresh.toNat + 8 * quality.toNat +
          4 * limit.toNat + 2 * change.toNat + initial.toNat) := by decide
  rw [weight]
  exact packed _ _ _ _ _ _ _ _

theorem limitClass_eq (l : LimitState) (k : ReportClass) : ∃ q : Nat, q < 16 ∧ (l.code <<< 2 ||| k.code) = byteOf q ∧
    q = 4 * l.code.toNat + k.code.toNat := by
  refine ⟨4 * l.code.toNat + k.code.toNat, ?_, ?_, rfl⟩ <;> cases l <;> cases k <;> decide

/-! ### The latched set (R156, R176) -/

theorem foldl_or_getLsbD (latched : EventKind → Bool) (ks : List EventKind) (w : Word) {j : Nat} (small : j < 16) :
    (ks.foldl (fun w k => if latched k then w ||| (1#16 <<< k.number) else w) w).getLsbD j =
      (w.getLsbD j || ks.any (fun k => latched k && k.number == j)) := by
  induction ks generalizing w with
  | nil => simp
  | cons k ks ih =>
    rw [List.foldl_cons, ih, List.any_cons]
    cases latched k with
    | false => simp
    | true =>
      have bit : (1#16 <<< k.number).getLsbD j = (k.number == j) := by
        rw [BitVec.getLsbD_shiftLeft, BitVec.getLsbD_one, Bool.eq_iff_iff]
        simp
        omega
      simp [bit, Bool.or_assoc]

theorem EventKind.all_getElem? (k : EventKind) : EventKind.all[k.number - 1]? = some k := by cases k <;> rfl

theorem EventKind.number_inj {a b : EventKind} (same : a.number = b.number) : a = b := by
  have found := a.all_getElem?
  rw [same, b.all_getElem?] at found
  exact (Option.some.inj found).symm

theorem EventKind.number_bounds (k : EventKind) : 1 ≤ k.number ∧ k.number ≤ 13 := by
  have := k.index.isLt
  unfold EventKind.number
  omega

theorem latchedSet_getLsbD (l : Latch) {j : Nat} (small : j < 16) : (latchedSet l).getLsbD j =
    EventKind.all.any (fun k => (l.latched[k.index]).isSome && k.number == j) := by
  rw [latchedSet, foldl_or_getLsbD (fun k => (l.latched[k.index]).isSome) _ _ small]
  simp

theorem latchedSet_kind (l : Latch) (k : EventKind) : (latchedSet l).getLsbD k.number = (l.latched[k.index]).isSome := by
  have bounds := k.number_bounds
  have listed : k ∈ EventKind.all := List.mem_of_getElem? k.all_getElem?
  rw [latchedSet_getLsbD l (by omega), Bool.eq_iff_iff, List.any_eq_true]
  constructor
  · rintro ⟨k', -, h⟩
    obtain ⟨found, number⟩ := Bool.and_eq_true_iff.mp h
    rw [EventKind.number_inj (beq_iff_eq.mp number)] at found
    exact found
  · exact fun found => ⟨k, listed, by rw [found]; simp⟩

/-- No kind has this number, so its bit is clear. -/
theorem latchedSet_undefined (l : Latch) {j : Nat} (undefined : j = 0 ∨ 14 ≤ j) (small : j < 16) :
    (latchedSet l).getLsbD j = false := by
  rw [latchedSet_getLsbD l small, List.any_eq_false]
  intro k _ h
  have bounds := k.number_bounds
  have number : k.number = j := beq_iff_eq.mp (Bool.and_eq_true_iff.mp h).2
  omega

/-! ### A channel and its node (R46) -/

theorem State.nodeOf_unique {s : State} {c : Fin 256} {i : Fin 24} (on : s.nodeCfg[i].enabled = true)
    (covers : s.nodeCfg[i].covers c.val = true)
    (only : ∀ j : Fin 24, j ≠ i → s.nodeCfg[j].enabled = true → s.nodeCfg[j].covers c.val = false) :
    s.nodeOf c = some s.nodeCfg[i] := by
  have here : (s.nodeCfg[i].enabled && s.nodeCfg[i].covers c.val) = true := by rw [on, covers]; rfl
  cases found : s.nodeOf c with
  | none =>
    have missed := List.find?_eq_none.mp found s.nodeCfg[i] (by simp)
    exact absurd here missed
  | some n =>
    obtain ⟨enabled, holds⟩ := Bool.and_eq_true_iff.mp (List.find?_some (p := fun n : NodeConfig => n.enabled &&
      n.covers c.val) found)
    obtain ⟨j, rfl⟩ : ∃ j : Fin 24, s.nodeCfg[j] = n := by
      obtain ⟨j, bound, at'⟩ := List.getElem_of_mem (List.mem_of_find?_eq_some found)
      rw [Vector.length_toList] at bound
      exact ⟨⟨j, bound⟩, by rw [← at']; simp⟩
    by_cases same : j = i
    · rw [same]
    · rw [only j same enabled] at holds
      exact nomatch holds

/-! ### The runtime record of a channel (R39, R60) -/

def reportedBytes (r : Option Reading) : List Byte := r.elim [0, 0, 0, 0] fun x => 1 :: be16 x.value.toNat ++ [x.quality.code]

def latestBytes (r : Option Latest) : List Byte :=
  r.elim [0, 0, 0, 0, 0, 0] fun x => 1 :: be16 x.value.toNat ++ [x.quality.code] ++ be16 x.sweep.toNat

def candidateBytes (r : Option LimitState) : List Byte := r.elim [0, 0] fun x => [1, x.code]

theorem channelRuntimeBytes_eq (r : ChanRuntime) : channelRuntimeBytes r =
    reportedBytes r.lastReported ++ latestBytes r.latest ++
      [BitVec.ofNat 8 (r.sinceReport / 256), BitVec.ofNat 8 r.sinceReport, boolCode r.pendingChange,
        boolCode r.forcePending, boolCode r.gap, r.limit.code, BitVec.ofNat 8 r.count] ++ candidateBytes r.candidate := by
  unfold channelRuntimeBytes
  cases r.lastReported <;> cases r.latest <;> cases r.candidate <;> rfl

theorem reportBytes_eq (r : Report) (bit : Bool → Nat) (zero : bit false = 0) (one : bit true = 1) : reportBytes r =
    [BitVec.ofNat 8 (4 * r.node + r.quality.code.toNat), BitVec.ofNat 8 r.channel.val,
      BitVec.ofNat 8 (16 * r.number + (4 * r.limit.code.toNat + r.cls.code.toNat)),
      BitVec.ofNat 8 (128 * bit r.aged + 64 * bit r.gap + 32 * bit r.causes.forced + 16 * bit r.causes.refresh +
        8 * bit r.causes.quality + 4 * bit r.causes.limit + 2 * bit r.causes.change + bit r.causes.initial),
      BitVec.ofNat 8 (r.sweep.toNat / 256), BitVec.ofNat 8 r.sweep.toNat, BitVec.ofNat 8 (r.value.toNat / 256),
      BitVec.ofNat 8 r.value.toNat, r.seq, BitVec.ofNat 8 (16 * r.attempt)] := by
  obtain ⟨q, small, packed, value⟩ := limitClass_eq r.limit r.cls
  have quality : r.quality.code = byteOf r.quality.code.toNat ∧ r.quality.code.toNat < 2 ^ 2 := by
    cases r.quality <;> decide
  have node := byteOf_shiftLeft_or r.node quality.2
  have attempt := byteOf_shiftLeft_or r.attempt (k := 4) (q := 0) (by decide)
  have number := byteOf_shiftLeft_or r.number (k := 4) small
  rw [← quality.1] at node
  rw [show byteOf 0 = 0#8 from rfl, BitVec.or_zero] at attempt
  rw [← packed, ← BitVec.or_assoc, value] at number
  unfold reportBytes
  rw [node, number, attempt, marksByte_eq r bit zero one]
  rfl

/-- Settles O51. -/
theorem layouts : Obligations.Layouts := by
  refine ⟨fun r => ⟨_, rfl, ?_⟩, fun s => ⟨rfl, rfl, fun k => latchedSet_kind s.latch k,
      latchedSet_undefined _ (by decide) (by decide), latchedSet_undefined _ (by decide) (by decide),
      latchedSet_undefined _ (by decide) (by decide)⟩, by decide, fun tag code detail st rs k sweep => ⟨rfl, rfl, rfl⟩,
    fun r => ⟨optional16, rfl, fun n => rfl, ?_⟩, fun r => ⟨reportedBytes r.lastReported, latestBytes r.latest,
      candidateBytes r.candidate, fun h => by rw [h]; rfl, fun x h => by rw [h]; rfl, fun h => by rw [h]; rfl,
      fun x h => by rw [h]; rfl, fun h => by rw [h]; rfl, fun x h => by rw [h]; rfl, channelRuntimeBytes_eq r⟩,
    fun s c i on covers only => ?_⟩
  · rw [reportBytes_eq r (fun b => if b then 1 else 0) rfl rfl]
    cases r.quality <;> cases r.limit <;> cases r.cls <;> rfl
  · unfold nodeRuntimeBytes
    cases r.presence <;> rfl
  · have found := State.nodeOf_unique on covers only
    unfold State.nodeAddress State.channelNumber
    rw [found]
    exact ⟨rfl, rfl⟩

end Sys2Proof.Machine
end

section
/-! What the blocks told of a link loss leave unchanged. -/

namespace Sys2Proof.Machine

theorem State.uplinkCompleted_none {s : State} (none : s.uplink.flight = Option.none) (chooseFirst : Bool) :
    s.uplinkCompleted chooseFirst = s := by
  unfold State.uplinkCompleted
  rw [none]

theorem State.uplinkAborted_none {s : State} (none : s.uplink.flight = Option.none) (late : List (Fin 256)) :
    s.uplinkAborted late = s := by
  unfold State.uplinkAborted
  rw [none]

/-! ### What the blocks told of a loss leave unchanged (R124, R125) -/

/-- With no reset pending, what is told of the loss of port `p` changes none of these. -/
structure Told (p : Port) (s t : State) : Prop where
  links : t.links = s.links := by simp
  now : t.now = s.now := by simp
  nodeCfg : t.nodeCfg = s.nodeCfg := by simp
  nodeRun : t.nodeRun = s.nodeRun := by simp
  chanCfg : t.chanCfg = s.chanCfg := by simp
  settings : t.settings = s.settings := by simp
  inbox : t.inbox = s.inbox := by simp
  pending : t.pending = s.pending := by simp
  number : t.sweep.number = s.sweep.number := by simp
  resetPending : t.mgmt.resetPending = s.mgmt.resetPending := by simp
  event : t.latch.latched[EventKind.linkLoss.index] = s.latch.latched[EventKind.linkLoss.index] := by simp
  losses : t.counter (.linkLosses p) = s.counter (.linkLosses p)
  gaps : ∀ c : Fin 256, t.chanRun[c] = { s.chanRun[c] with gap := t.chanRun[c].gap } := by simp

namespace Told

variable {p : Port} {s t u : State}

theorem refl (p : Port) (s : State) : Told p s s := { losses := rfl }

theorem trans (first : Told p s t) (second : Told p t u) : Told p s u where
  links := second.links.trans first.links
  now := second.now.trans first.now
  nodeCfg := second.nodeCfg.trans first.nodeCfg
  nodeRun := second.nodeRun.trans first.nodeRun
  chanCfg := second.chanCfg.trans first.chanCfg
  settings := second.settings.trans first.settings
  inbox := second.inbox.trans first.inbox
  pending := second.pending.trans first.pending
  number := second.number.trans first.number
  resetPending := second.resetPending.trans first.resetPending
  event := second.event.trans first.event
  losses := second.losses.trans first.losses
  gaps c := by rw [second.gaps c, first.gaps c]

theorem countBy {c : Counter} (other : c ≠ .linkLosses p) (n : Nat) : Told p s (s.countBy c n) where
  losses := by rw [State.counter_countBy, if_neg other.symm]

theorem count {c : Counter} (other : c ≠ .linkLosses p) : Told p s (s.count c) := countBy other 1

theorem freeSlots (n : Nat) : Told p s (s.freeSlots n) where
  losses := by
    unfold State.freeSlots
    split <;> rfl
  event := by
    unfold State.freeSlots
    split <;> rfl

theorem sendDrops (late cs : List (Fin 256)) : Told p s (s.sendDrops late cs) where
  losses := by rw [(s.sendDrops_does late cs).1]; rfl
  gaps c := by rw [(s.sendDrops_does late cs).2 c]

theorem clearFlight : Told p s s.clearFlight where
  losses := rfl

theorem deliverEntry (q : Byte) : Told p s (s.deliverEntry q) := by
  have removed : Told p s { s with conf := { s.conf with
      entries := s.conf.entries.eraseP (fun e => e.seq == q), due := s.conf.due.erase q } } := { losses := rfl }
  exact (removed.trans (freeSlots 1)).trans (count nofun)

theorem setEntry (e : Entry) : Told p s (s.setEntry e) where
  losses := rfl

theorem makeDue (e : Entry) : Told p s (s.makeDue e) where
  losses := rfl

theorem urgentCompleted (q : Byte) : Told p s (s.urgentCompleted q) := by
  unfold State.urgentCompleted
  split
  · exact refl p s
  · split
    · exact deliverEntry q
    · exact setEntry _

theorem urgentAborted (q : Byte) : Told p s (s.urgentAborted q) := by
  unfold State.urgentAborted
  split
  · exact refl p s
  · split
    · exact deliverEntry q
    · exact makeDue _

theorem itemEnded (none : s.mgmt.resetPending = Option.none) (i : MqItem) : Told p s (s.itemEnded i) := by
  rw [State.itemEnded_noReset none]
  exact refl p s

theorem tellCompleted (none : s.mgmt.resetPending = Option.none) (f : Flight) : Told p s (s.tellCompleted f) := by
  cases f with
  | reports _ rs => exact freeSlots _
  | urgent q _ => exact urgentCompleted q
  | transit _ => exact refl p s
  | item i => exact itemEnded none i
  | beacon => exact refl p s

theorem tellAborted (none : s.mgmt.resetPending = Option.none) (late : List (Fin 256)) (f : Flight) :
    Told p s (s.tellAborted late f) := by
  cases f with
  | reports _ rs => exact ((freeSlots _).trans (countBy (c := .txAborted) nofun _)).trans (sendDrops _ _)
  | urgent q _ => exact urgentAborted q
  | transit _ => exact count nofun
  | item i => exact (count (c := .noticeLost) nofun).trans (itemEnded (s := s.count .noticeLost) none i)
  | beacon => exact refl p s

theorem relayCompleted : Told p s s.relayCompleted where
  losses := by rw [State.counter, State.relayCompleted_bank]; rfl

theorem relayLinkDown : Told p s s.relayLinkDown where
  losses := by rw [State.counter, State.relayLinkDown_bank]; rfl

theorem ownerCompleted (none : s.mgmt.resetPending = Option.none) (o : Owner) : Told p s (s.tellOwnerCompleted false o) := by
  cases o with
  | scheduler =>
    show Told p s (s.uplinkCompleted false)
    cases flight : s.uplink.flight with
    | none =>
      rw [State.uplinkCompleted_none flight]
      exact refl p s
    | some f =>
      rw [State.uplinkCompleted_flight flight]
      exact clearFlight.trans (tellCompleted (s := s.clearFlight) none f)
  | dispatcher => exact refl p s
  | sweepController => exact refl p s
  | relayController => exact relayCompleted
  | nobody => exact refl p s

theorem ownerAborted (none : s.mgmt.resetPending = Option.none) (late : List (Fin 256)) (o : Owner) :
    Told p s (s.tellOwnerAborted late o) := by
  cases o with
  | scheduler =>
    show Told p s (s.uplinkAborted late)
    cases flight : s.uplink.flight with
    | none =>
      rw [State.uplinkAborted_none flight]
      exact refl p s
    | some f =>
      rw [State.uplinkAborted_flight flight]
      exact clearFlight.trans (tellAborted (s := s.clearFlight) none late f)
  | dispatcher => exact count nofun
  | sweepController => exact refl p s
  | relayController => exact relayLinkDown
  | nobody => exact refl p s

theorem notUp (none : s.mgmt.resetPending = Option.none) (q : Port) : Told p s (s.tellNotUp q) := by
  cases q with
  | tu =>
    rw [State.tellNotUp_noReset none]
    exact refl p s
  | td =>
    have emptied : Told p s { s with trunk := { s.trunk with dfq := [] } } := { losses := rfl }
    exact emptied.trans (countBy (c := .forwardDrop) nofun _)
  | sg =>
    have gone : Told p s { s with sweep := { s.sweep with waiting := Option.none } } := { losses := rfl }
    exact gone.trans relayLinkDown

/-- With no reset pending, in whichever order and whatever the line still carried. -/
theorem tellLoss (none : s.mgmt.resetPending = Option.none) (q : Port) (tx : Option Transmission) (c : Choice) :
    Told p s (s.tellLoss q tx c) := by
  unfold State.tellLoss
  cases tx with
  | none => exact notUp none q
  | some t =>
    dsimp only
    split
    · have sent : Told p s (s.count (.framesOut q)) := count nofun
      have told := sent.trans (ownerCompleted (sent.resetPending.trans none) t.owner)
      exact told.trans (notUp (told.resetPending.trans none) q)
    · split
      · have told := notUp (p := p) none q
        exact told.trans (ownerAborted (told.resetPending.trans none) _ _)
      · have told := ownerAborted (p := p) none c.lateDrops t.owner
        exact told.trans (notUp (told.resetPending.trans none) q)

end Told

end Sys2Proof.Machine
end

section
/-! The loss counted and raised, and DFQ at the loss of TD. -/

namespace Sys2Proof.Machine

/-! ### The loss counted and raised (R124, R176) -/

/-- A raise counts nothing but its own notice lost (R148). -/
theorem State.raise_counter (s : State) (k : EventKind) (detail : Byte) (sweep : Word) {c : Counter} (other : c ≠ .noticeLost) :
    (s.raise k detail sweep).counter c = s.counter c := by
  unfold State.raise State.offerMq
  split
  · rfl
  · dsimp only
    split
    · split
      · rfl
      · rw [State.counter_count, if_neg other]
        rfl
    · rfl

theorem State.noteLoss_counter (s : State) (p : Port) {c : Counter} (other : c ≠ .noticeLost) :
    (s.noteLoss p).counter c = (s.count (.linkLosses p)).counter c := State.raise_counter _ _ _ _ other

/-- What a loss leaves, but for the blocks that are told of it by name (R124, R125). -/
structure Lost (p : Port) (s t : State) : Prop where
  links : t.links = s.links
  now : t.now = s.now
  nodeCfg : t.nodeCfg = s.nodeCfg
  nodeRun : t.nodeRun = s.nodeRun
  chanCfg : t.chanCfg = s.chanCfg
  settings : t.settings = s.settings
  inbox : t.inbox = s.inbox
  pending : t.pending = s.pending
  event : t.latch.latched[EventKind.linkLoss.index] =
    some ((s.latch.latched[EventKind.linkLoss.index]).getD ⟨Port.code p, s.sweep.number⟩)
  losses : t.counter (.linkLosses p) = min 4294967295 (s.counter (.linkLosses p) + 1)
  gaps : ∀ c : Fin 256, t.chanRun[c] = { s.chanRun[c] with gap := t.chanRun[c].gap }

theorem Lost.of_noted {p : Port} {s t : State} (told : Told p (s.noteLoss p) t) : Lost p s t where
  links := told.links.trans (by simp)
  now := told.now.trans (by simp)
  nodeCfg := told.nodeCfg.trans (by simp)
  nodeRun := told.nodeRun.trans (by simp)
  chanCfg := told.chanCfg.trans (by simp)
  settings := told.settings.trans (by simp)
  inbox := told.inbox.trans (by simp)
  pending := told.pending.trans (by simp)
  event := told.event.trans (State.raise_isLatched _ _ _ _)
  losses := by rw [told.losses, State.noteLoss_counter (c := .linkLosses p) _ _ nofun, State.counter_count, if_pos rfl]
  gaps c := by rw [told.gaps c, State.noteLoss_chanRun]

theorem Lost.of_told {p : Port} {s t : State} (told : Told p s t) : Lost p s (t.noteLoss p) where
  links := (State.noteLoss_links ..).trans told.links
  now := (State.noteLoss_now ..).trans told.now
  nodeCfg := (State.noteLoss_nodeCfg ..).trans told.nodeCfg
  nodeRun := (State.noteLoss_nodeRun ..).trans told.nodeRun
  chanCfg := (State.noteLoss_chanCfg ..).trans told.chanCfg
  settings := (State.noteLoss_settings ..).trans told.settings
  inbox := (State.noteLoss_inbox ..).trans told.inbox
  pending := (State.noteLoss_pending ..).trans told.pending
  event := by
    rw [← told.event, ← told.number]
    exact State.raise_isLatched _ _ _ _
  losses := by rw [State.noteLoss_counter (c := .linkLosses p) _ _ nofun, State.counter_count, if_pos rfl, told.losses]
  gaps c := by rw [State.noteLoss_chanRun]; exact told.gaps c

/-! ### What TD's loss does to the Dispatcher (R127, R143, R144) -/

/-- The frame on the line whose END had not left, in frames (R127, R143). -/
def cutOff (tx : Option Transmission) (endLeft : Bool) : Nat :=
  if endLeft = false ∧ tx.any (fun t => decide (t.owner = .dispatcher ∧ t.sent < t.bytes.length + 2)) = true then 1 else 0

/-- After the loss of TD nothing waits in DFQ and its frames are counted (R144). -/
structure DfqEmptied (n : Nat) (s t : State) : Prop where
  trunk : t.trunk = { s.trunk with dfq := [] } := by simp [State.emptyDfq]
  sweep : t.sweep = s.sweep := by simp
  relay : t.relay = s.relay := by simp
  store : t.store = s.store := by simp
  conf : t.conf = s.conf := by simp
  uplink : t.uplink = s.uplink := by simp
  drops : t.counter .forwardDrop = min 4294967295 (s.counter .forwardDrop + s.trunk.dfq.length + n)

theorem State.emptyDfq_counter (s : State) (d : Counter) : s.emptyDfq.counter d =
    if d = .forwardDrop then min 4294967295 (s.counter .forwardDrop + s.trunk.dfq.length) else s.counter d :=
  State.counter_countBy ..

namespace DfqEmptied

variable {s : State}

theorem quiet : DfqEmptied 0 s s.emptyDfq where
  drops := by rw [State.emptyDfq_counter, if_pos rfl]; rfl

theorem sent : DfqEmptied 0 s (s.count (.framesOut .td)).emptyDfq where
  drops := by
    rw [State.emptyDfq_counter, if_pos rfl, State.counter_count, if_neg nofun]
    rfl

theorem cutBefore : DfqEmptied 1 s (s.count .forwardDrop).emptyDfq where
  drops := by
    rw [State.emptyDfq_counter, if_pos rfl, State.counter_count, if_pos rfl]
    show min _ (min _ _ + s.trunk.dfq.length) = _
    omega

theorem cutAfter : DfqEmptied 1 s (s.emptyDfq.count .forwardDrop) where
  drops := by
    rw [State.counter_count, if_pos rfl, State.emptyDfq_counter, if_pos rfl]
    omega

end DfqEmptied

theorem State.tellLoss_gone {s : State} {p : Port} {t : Transmission} {c : Choice}
    (gone : c.endLeft = true ∨ t.bytes.length + 2 ≤ t.sent) :
    s.tellLoss p (some t) c = ((s.count (.framesOut p)).tellOwnerCompleted false t.owner).tellNotUp p := by
  have ended : (c.endLeft || t.endGone) = true := by
    rw [Bool.or_eq_true, Transmission.endGone, decide_eq_true_eq]
    exact gone
  exact if_pos ended

theorem cutOff_gone {t : Transmission} {endLeft : Bool} (gone : endLeft = true ∨ t.bytes.length + 2 ≤ t.sent) :
    cutOff (some t) endLeft = 0 := by
  refine if_neg ?_
  rintro ⟨notLeft, cut⟩
  have cut : t.owner = .dispatcher ∧ t.sent < t.bytes.length + 2 := of_decide_eq_true cut
  rcases gone with left | sent
  · rw [left] at notLeft
    exact nomatch notLeft
  · omega

theorem cutOff_none {endLeft : Bool} : cutOff none endLeft = 0 := if_neg fun h => nomatch h.2

theorem cutOff_nobody {t : Transmission} {endLeft : Bool} (owner : t.owner = .nobody) : cutOff (some t) endLeft = 0 := by
  refine if_neg ?_
  rintro ⟨-, cut⟩
  have cut : t.owner = .dispatcher ∧ t.sent < t.bytes.length + 2 := of_decide_eq_true cut
  rw [owner] at cut
  exact nomatch cut.1

theorem cutOff_dispatcher {t : Transmission} {endLeft : Bool} (notLeft : endLeft = false)
    (notSent : t.sent < t.bytes.length + 2) (owner : t.owner = .dispatcher) : cutOff (some t) endLeft = 1 :=
  if_pos ⟨notLeft, decide_eq_true ⟨owner, notSent⟩⟩

theorem State.tellLoss_td {s : State} {tx : Option Transmission} {c : Choice}
    (owners : ∀ t, tx = some t → t.owner = .dispatcher ∨ t.owner = .nobody) :
    DfqEmptied (cutOff tx c.endLeft) s (s.tellLoss .td tx c) := by
  cases tx with
  | none =>
    rw [cutOff_none]
    exact DfqEmptied.quiet
  | some t =>
    have owner := owners t rfl
    by_cases gone : c.endLeft = true ∨ t.bytes.length + 2 ≤ t.sent
    · rw [State.tellLoss_gone gone, cutOff_gone gone]
      rcases owner with owner | owner <;> rw [owner] <;> exact DfqEmptied.sent
    · obtain ⟨left, sent⟩ := not_or.mp gone
      have notLeft : c.endLeft = false := Bool.eq_false_iff.mpr left
      rw [State.tellLoss_aborted notLeft (Nat.not_le.mp sent)]
      rcases owner with owner | owner
      · rw [cutOff_dispatcher notLeft (Nat.not_le.mp sent) owner, owner]
        split
        · exact DfqEmptied.cutAfter
        · exact DfqEmptied.cutBefore
      · rw [cutOff_nobody owner, owner]
        split <;> exact DfqEmptied.quiet

end Sys2Proof.Machine
end

section
/-! The relay at the loss of SG, and the frame in flight at the loss of TU. -/

namespace Sys2Proof.Machine

/-! ### What SG's loss does to the Sweep and Relay Controllers (R6, R173) -/

theorem State.relayLinkDown_relay (s : State) : s.relayLinkDown.relay = none := by
  unfold State.relayLinkDown
  split
  · assumption
  · exact State.endRelay_relay ..

theorem State.relayLinkDown_none {s : State} (none : s.relay = Option.none) : s.relayLinkDown = s := by
  unfold State.relayLinkDown
  rw [none]

/-- What the end of a relay leaves of the Executor (R168, R173). -/
structure RelayEnded (s t : State) : Prop where
  sweep : t.sweep = { s.sweep with waiting := none } := by simp
  trunk : t.trunk = s.trunk := by simp
  store : t.store = s.store := by simp
  conf : t.conf = s.conf := by simp
  uplink : t.uplink = s.uplink := by simp
  relay : t.relay = none
  quiet : s.relay = none → t.mgmt = s.mgmt
  answered : ∀ r tag, s.relay = some r → s.mgmt.reserved.find? (fun x => x.code == 15) = some ⟨tag, 15⟩ →
    t.mgmt = { s.mgmt with
      reserved := s.mgmt.reserved.erase ⟨tag, 15⟩
      items := s.mgmt.items ++ [.response tag 15 .linkDown []] }

namespace RelayEnded

variable {s : State}

theorem notUp : RelayEnded s (s.tellNotUp .sg) where
  sweep := State.relayLinkDown_sweep _
  trunk := State.relayLinkDown_trunk _
  store := State.relayLinkDown_store _
  conf := State.relayLinkDown_conf _
  uplink := State.relayLinkDown_uplink _
  relay := State.relayLinkDown_relay _
  quiet none := congrArg (f := State.mgmt) (a₂ := { s with sweep := { s.sweep with waiting := Option.none } })
    (State.relayLinkDown_none (s := { s with sweep := { s.sweep with waiting := Option.none } }) none)
  answered r tag pending slot :=
    congrArg State.mgmt (State.relayLinkDown_ends { s with sweep := { s.sweep with waiting := none } } r tag pending slot)

/-- The end of a command's transmission, complete or cut off, first tells a relay that goes on, or that ends (R170, R173). -/
theorem sent : RelayEnded s ((s.count (.framesOut .sg)).relayCompleted.tellNotUp .sg) := by
  have told := notUp (s := (s.count (.framesOut .sg)).relayCompleted)
  refine ⟨by rw [told.sweep, State.relayCompleted_sweep]; rfl, by rw [told.trunk, State.relayCompleted_trunk]; rfl,
    by rw [told.store, State.relayCompleted_store]; rfl, by rw [told.conf, State.relayCompleted_conf]; rfl,
    by rw [told.uplink, State.relayCompleted_uplink]; rfl, told.relay, fun none => ?_, fun r tag pending slot => ?_⟩
  · have idle : (s.count (.framesOut .sg)).relayCompleted = s.count (.framesOut .sg) := by
      unfold State.relayCompleted
      rw [show (s.count (.framesOut .sg)).relay = Option.none from none]
    rw [told.quiet (by rw [idle]; exact none), idle]
    rfl
  · have listens : (s.count (.framesOut .sg)).relayCompleted.relay =
        some { r with phase := .listening (s.settings.relayTimeout * 100) } := by
      unfold State.relayCompleted
      rw [show (s.count (.framesOut .sg)).relay = some r from pending]
      rfl
    have mgmt : (s.count (.framesOut .sg)).relayCompleted.mgmt = s.mgmt := State.relayCompleted_mgmt _
    rw [told.answered _ tag listens (by rw [mgmt]; exact slot), mgmt]

theorem cutFirst : RelayEnded s (s.relayLinkDown.tellNotUp .sg) := by
  have told := notUp (s := s.relayLinkDown)
  have gone := State.relayLinkDown_relay s
  refine ⟨by rw [told.sweep, State.relayLinkDown_sweep], by rw [told.trunk, State.relayLinkDown_trunk],
    by rw [told.store, State.relayLinkDown_store], by rw [told.conf, State.relayLinkDown_conf],
    by rw [told.uplink, State.relayLinkDown_uplink], told.relay, fun none => ?_, fun r tag pending slot => ?_⟩
  · rw [told.quiet gone, State.relayLinkDown_none none]
  · rw [told.quiet gone, State.relayLinkDown_ends s r tag pending slot]

theorem of_told (told : RelayEnded s (s.tellNotUp .sg)) : RelayEnded s ((s.tellNotUp .sg).relayLinkDown) := by
  rw [State.relayLinkDown_none told.relay]
  exact told

end RelayEnded

theorem State.tellLoss_sg {s : State} {tx : Option Transmission} {c : Choice}
    (owners : ∀ t, tx = some t → t.owner = .sweepController ∨ t.owner = .relayController ∨ t.owner = .nobody) :
    RelayEnded s (s.tellLoss .sg tx c) := by
  cases tx with
  | none => exact RelayEnded.notUp
  | some t =>
    have owner := owners t rfl
    by_cases gone : c.endLeft = true ∨ t.bytes.length + 2 ≤ t.sent
    · rw [State.tellLoss_gone gone]
      have quiet : RelayEnded s ((s.count (.framesOut .sg)).tellNotUp .sg) := by
        have told := RelayEnded.notUp (s := s.count (.framesOut .sg))
        exact ⟨told.sweep, told.trunk, told.store, told.conf, told.uplink, told.relay, told.quiet, told.answered⟩
      rcases owner with owner | owner | owner <;> rw [owner]
      · exact quiet
      · exact RelayEnded.sent
      · exact quiet
    · obtain ⟨left, sent⟩ := not_or.mp gone
      rw [State.tellLoss_aborted (Bool.eq_false_iff.mpr left) (Nat.not_le.mp sent)]
      rcases owner with owner | owner | owner <;> rw [owner] <;> split
      · exact RelayEnded.notUp
      · exact RelayEnded.notUp
      · exact RelayEnded.of_told RelayEnded.notUp
      · exact RelayEnded.cutFirst
      · exact RelayEnded.notUp
      · exact RelayEnded.notUp

/-! ### What TU's loss leaves where no reset is pending (R104) -/

/-- The parts that an owner of a frame on TU does not touch, no reset pending. -/
structure TrunkKept (s t : State) : Prop where
  trunk : t.trunk = s.trunk := by simp
  sweep : t.sweep = s.sweep := by simp
  relay : t.relay = s.relay := by simp
  uplink : t.uplink = s.uplink := by simp

namespace TrunkKept

variable {s : State}

theorem itemEnded (none : s.mgmt.resetPending = Option.none) (i : MqItem) : TrunkKept s (s.itemEnded i) := by
  rw [State.itemEnded_noReset none]
  exact {}

theorem tellCompleted (none : s.mgmt.resetPending = Option.none) (f : Flight) : TrunkKept s (s.tellCompleted f) := by
  cases f with
  | reports _ rs => exact ⟨State.freeSlots_trunk .., State.freeSlots_sweep .., State.freeSlots_relay .., State.freeSlots_uplink ..⟩
  | urgent q _ => exact ⟨State.urgentCompleted_trunk .., State.urgentCompleted_sweep .., State.urgentCompleted_relay ..,
      State.urgentCompleted_uplink ..⟩
  | transit _ => exact ⟨rfl, rfl, rfl, rfl⟩
  | item i => exact itemEnded none i
  | beacon => exact ⟨rfl, rfl, rfl, rfl⟩

theorem tellAborted (none : s.mgmt.resetPending = Option.none) (late : List (Fin 256)) (f : Flight) :
    TrunkKept s (s.tellAborted late f) := by
  cases f with
  | reports _ rs =>
    have kept : TrunkKept s (((s.freeSlots rs.length).countBy .txAborted rs.length).sendDrops late (rs.map Report.channel)) := {}
    exact kept
  | urgent q _ => exact ⟨State.urgentAborted_trunk .., State.urgentAborted_sweep .., State.urgentAborted_relay ..,
      State.urgentAborted_uplink ..⟩
  | transit _ => exact ⟨rfl, rfl, rfl, rfl⟩
  | item i =>
    have ended := itemEnded (s := s.count .noticeLost) none i
    exact ⟨ended.trunk, ended.sweep, ended.relay, ended.uplink⟩
  | beacon => exact ⟨rfl, rfl, rfl, rfl⟩

end TrunkKept

/-- After the loss of TU nothing is in flight (R93, R104). -/
structure FlightEnded (o : Option Owner) (s t : State) : Prop where
  trunk : t.trunk = s.trunk
  sweep : t.sweep = s.sweep
  relay : t.relay = s.relay
  uplink : o = some .scheduler → t.uplink = { s.uplink with flight := none }

namespace FlightEnded

variable {s : State}

theorem completed (none : s.mgmt.resetPending = Option.none) : FlightEnded (some .scheduler) s (s.uplinkCompleted false) := by
  cases flight : s.uplink.flight with
  | none =>
    rw [State.uplinkCompleted_none flight]
    exact ⟨rfl, rfl, rfl, fun _ => by rw [← flight]⟩
  | some f =>
    rw [State.uplinkCompleted_flight flight]
    have kept := TrunkKept.tellCompleted (s := s.clearFlight) none f
    exact ⟨kept.trunk, kept.sweep, kept.relay, fun _ => kept.uplink⟩

theorem aborted (none : s.mgmt.resetPending = Option.none) (late : List (Fin 256)) :
    FlightEnded (some .scheduler) s (s.uplinkAborted late) := by
  cases flight : s.uplink.flight with
  | none =>
    rw [State.uplinkAborted_none flight]
    exact ⟨rfl, rfl, rfl, fun _ => by rw [← flight]⟩
  | some f =>
    rw [State.uplinkAborted_flight flight]
    have kept := TrunkKept.tellAborted (s := s.clearFlight) none late f
    exact ⟨kept.trunk, kept.sweep, kept.relay, fun _ => kept.uplink⟩

end FlightEnded

theorem State.tellLoss_tu {s : State} (none : s.mgmt.resetPending = Option.none) {tx : Option Transmission} {c : Choice}
    (owners : ∀ t, tx = some t → t.owner = .scheduler ∨ t.owner = .nobody) :
    FlightEnded (tx.map Transmission.owner) s (s.tellLoss .tu tx c) := by
  cases tx with
  | none =>
    show FlightEnded _ s (s.tellNotUp .tu)
    rw [State.tellNotUp_noReset none]
    exact ⟨rfl, rfl, rfl, nofun⟩
  | some t =>
    rw [Option.map_some]
    by_cases gone : c.endLeft = true ∨ t.bytes.length + 2 ≤ t.sent
    · rw [State.tellLoss_gone gone]
      have still := (Told.ownerCompleted (p := .tu) (s := s.count (.framesOut .tu)) none t.owner).resetPending.trans none
      rw [State.tellNotUp_noReset still]
      rcases owners t rfl with owner | owner <;> rw [owner]
      · have ended := FlightEnded.completed (s := s.count (.framesOut .tu)) none
        exact ⟨ended.trunk, ended.sweep, ended.relay, ended.uplink⟩
      · exact ⟨rfl, rfl, rfl, nofun⟩
    · obtain ⟨left, sent⟩ := not_or.mp gone
      have still := (Told.ownerAborted (p := .tu) none c.lateDrops t.owner).resetPending.trans none
      rw [State.tellLoss_aborted (Bool.eq_false_iff.mpr left) (Nat.not_le.mp sent), State.tellNotUp_noReset none,
        State.tellNotUp_noReset still, ite_self]
      rcases owners t rfl with owner | owner <;> rw [owner]
      · exact FlightEnded.aborted none _
      · exact ⟨rfl, rfl, rfl, nofun⟩

end Sys2Proof.Machine
end

section
/-! The loss of a link in UP. -/

namespace Sys2Proof.Machine

/-! ### The loss of a link in UP, no reset pending (R124, R125, R144, R168, R173) -/

section

variable {p : Port} {s : State}

theorem State.down_link : (s.down p).link p = {} := by
  show (s.links.set p {}).get p = _
  simp

theorem State.down_other {q : Port} (other : q ≠ p) : (s.down p).link q = s.link q :=
  PerPort.get_set_other _ _ _ _ other

theorem State.noteLoss_resetPending (none : s.mgmt.resetPending = Option.none) : (s.noteLoss p).mgmt.resetPending = Option.none :=
  (State.noteLoss_mgmt_resetPending ..).trans none

theorem State.lost_of_up (up : (s.link p).state = .up) (none : s.mgmt.resetPending = Option.none) :
    Lost p (s.down p) (s.linkLoss p) := by
  have quiet : (s.down p).mgmt.resetPending = Option.none := none
  rw [State.linkLoss_up up]
  split
  · exact Lost.of_told (Told.tellLoss quiet ..)
  · exact Lost.of_noted (Told.tellLoss (State.noteLoss_resetPending quiet) ..)

theorem DfqEmptied.of_up (up : (s.link .td).state = .up)
    (owners : ∀ t, (s.link .td).tx = some t → t.owner = .dispatcher ∨ t.owner = .nobody) :
    DfqEmptied (cutOff (s.link .td).tx s.choice.endLeft) s (s.linkLoss .td) := by
  rw [State.linkLoss_up up]
  split
  · have told := State.tellLoss_td (s := s.down .td) (c := s.choice) owners
    exact ⟨by rw [State.noteLoss_trunk, told.trunk]; rfl, by rw [State.noteLoss_sweep, told.sweep]; rfl,
      by rw [State.noteLoss_relay, told.relay]; rfl, by rw [State.noteLoss_store, told.store]; rfl,
      by rw [State.noteLoss_conf, told.conf]; rfl, by rw [State.noteLoss_uplink, told.uplink]; rfl,
      by rw [State.noteLoss_counter (c := .forwardDrop) _ _ nofun, State.counter_count, if_neg nofun, told.drops]; rfl⟩
  · have told := State.tellLoss_td (s := (s.down .td).noteLoss .td) (c := s.choice) owners
    exact ⟨by rw [told.trunk, State.noteLoss_trunk]; rfl, by rw [told.sweep, State.noteLoss_sweep]; rfl,
      by rw [told.relay, State.noteLoss_relay]; rfl, by rw [told.store, State.noteLoss_store]; rfl,
      by rw [told.conf, State.noteLoss_conf]; rfl, by rw [told.uplink, State.noteLoss_uplink]; rfl,
      by
        rw [told.drops, State.noteLoss_counter (c := .forwardDrop) _ _ nofun, State.counter_count, if_neg nofun,
          State.noteLoss_trunk]
        rfl⟩

theorem FlightEnded.of_up (up : (s.link .tu).state = .up) (none : s.mgmt.resetPending = Option.none)
    (owners : ∀ t, (s.link .tu).tx = some t → t.owner = .scheduler ∨ t.owner = .nobody) :
    FlightEnded ((s.link .tu).tx.map Transmission.owner) s (s.linkLoss .tu) := by
  rw [State.linkLoss_up up]
  split
  · have told := State.tellLoss_tu (s := s.down .tu) none (c := s.choice) owners
    exact ⟨by rw [State.noteLoss_trunk, told.trunk]; rfl, by rw [State.noteLoss_sweep, told.sweep]; rfl,
      by rw [State.noteLoss_relay, told.relay]; rfl, fun o => by rw [State.noteLoss_uplink, told.uplink o]; rfl⟩
  · have told := State.tellLoss_tu (s := (s.down .tu).noteLoss .tu) (State.noteLoss_resetPending none) (c := s.choice) owners
    exact ⟨by rw [told.trunk, State.noteLoss_trunk]; rfl, by rw [told.sweep, State.noteLoss_sweep]; rfl,
      by rw [told.relay, State.noteLoss_relay]; rfl, fun o => by rw [told.uplink o, State.noteLoss_uplink]; rfl⟩

/-- The notice of the loss stands before or after the response to a relay, or nowhere (R148, R173). -/
structure SgLost (s t : State) : Prop where
  sweep : t.sweep = { s.sweep with waiting := none }
  trunk : t.trunk = s.trunk
  store : t.store = s.store
  conf : t.conf = s.conf
  uplink : t.uplink = s.uplink
  relay : t.relay = none
  mgmt : ∃ before after : List MqItem, (∀ i ∈ before ++ after, ∃ w d, i = .event .linkLoss w d) ∧
    (s.relay = none → t.mgmt = { s.mgmt with items := s.mgmt.items ++ (before ++ after) }) ∧
    (∀ r tag, s.relay = some r → s.mgmt.reserved.find? (fun x => x.code == 15) = some ⟨tag, 15⟩ →
      t.mgmt = { s.mgmt with
        reserved := s.mgmt.reserved.erase ⟨tag, 15⟩
        items := s.mgmt.items ++ (before ++ .response tag 15 .linkDown [] :: after) })

theorem State.noteLoss_mgmt (s : State) (p : Port) : ∃ notices : List MqItem,
    (∀ i ∈ notices, i = .event .linkLoss s.sweep.number (Port.code p)) ∧
    (s.noteLoss p).mgmt = { s.mgmt with items := s.mgmt.items ++ notices } := State.raise_mgmt ..

theorem SgLost.of_up (up : (s.link .sg).state = .up)
    (owners : ∀ t, (s.link .sg).tx = some t → t.owner = .sweepController ∨ t.owner = .relayController ∨ t.owner = .nobody) :
    SgLost s (s.linkLoss .sg) := by
  rw [State.linkLoss_up up]
  split
  · have told := State.tellLoss_sg (s := s.down .sg) (c := s.choice) owners
    obtain ⟨notices, events, mgmt⟩ := ((s.down .sg).tellLoss .sg (s.link .sg).tx s.choice).noteLoss_mgmt .sg
    refine ⟨by rw [State.noteLoss_sweep, told.sweep]; rfl, by rw [State.noteLoss_trunk, told.trunk]; rfl,
      by rw [State.noteLoss_store, told.store]; rfl, by rw [State.noteLoss_conf, told.conf]; rfl,
      by rw [State.noteLoss_uplink, told.uplink]; rfl, by rw [State.noteLoss_relay, told.relay],
      [], notices, fun i h => ⟨_, _, events i h⟩, fun none => ?_, fun r tag pending slot => ?_⟩
    · rw [mgmt, told.quiet none]
      rfl
    · rw [mgmt, told.answered r tag pending slot]
      simp [State.down, State.setLink, State.dropChoice]
  · have told := State.tellLoss_sg (s := (s.down .sg).noteLoss .sg) (c := s.choice) owners
    obtain ⟨notices, events, mgmt⟩ := (s.down .sg).noteLoss_mgmt .sg
    have relay : ((s.down .sg).noteLoss .sg).relay = s.relay := State.noteLoss_relay ..
    refine ⟨by rw [told.sweep, State.noteLoss_sweep]; rfl, by rw [told.trunk, State.noteLoss_trunk]; rfl,
      by rw [told.store, State.noteLoss_store]; rfl, by rw [told.conf, State.noteLoss_conf]; rfl,
      by rw [told.uplink, State.noteLoss_uplink]; rfl, told.relay, notices, [],
      fun i h => ⟨_, _, events i (by simpa using h)⟩, fun none => ?_, fun r tag pending slot => ?_⟩
    · rw [told.quiet (relay.trans none), mgmt, List.append_nil]
      rfl
    · rw [told.answered r tag (relay.trans pending) (by rw [mgmt]; exact slot), mgmt]
      simp [State.down, State.setLink, State.dropChoice]

end

/-- Settles O11. -/
theorem linkLossInUp : Obligations.LinkLossInUp := by
  rintro p s ⟨-, -, tu, td, sg⟩ up none
  have lost := State.lost_of_up up none
  have own : ∀ {q : Port} {t : Transmission}, (s.link q).tx = some t → t.owner ∈ s.owner q := fun sends => by
    simp [State.owner, sends]
  have mine : (s.linkLoss p).link p = ⟨.down, 0, Option.none, [], Option.none, Option.none⟩ := by
    rw [State.link, lost.links]
    exact State.down_link
  refine ⟨s.linkLoss p, rfl, mine, by rw [mine]; rfl, fun q other => ?_, lost.losses, lost.event, ?_, ?_, ?_, lost.now,
    lost.nodeCfg, lost.nodeRun, lost.chanCfg, lost.settings, lost.gaps, lost.inbox, lost.pending⟩
  · rw [State.link, lost.links]
    exact State.down_other other
  · rintro rfl
    have emptied := DfqEmptied.of_up up fun t sends => td _ (own sends)
    exact ⟨emptied.trunk, emptied.drops, emptied.sweep, emptied.relay, emptied.store, emptied.conf, emptied.uplink⟩
  · rintro rfl
    have ended := SgLost.of_up up fun t sends => sg _ (own sends)
    exact ⟨ended.sweep, ended.relay, ended.trunk, ended.store, ended.conf, ended.uplink, ended.mgmt⟩
  · rintro rfl
    have ended := FlightEnded.of_up up none fun t sends => tu _ (own sends)
    exact ⟨ended.trunk, ended.sweep, ended.relay, ended.uplink⟩

end Sys2Proof.Machine
end

section
/-! What a pending reset reads, and what the owners count at the end of a frame. -/

namespace Sys2Proof.Machine

/-! ### What a reset reads (R167) -/

/-- The parts of the state that a reset keeps in one scope or in both, but for the counters. -/
structure SameForReset (s t : State) : Prop where
  now : t.now = s.now := by simp
  nodeCfg : t.nodeCfg = s.nodeCfg := by simp
  chanCfg : t.chanCfg = s.chanCfg := by simp
  settings : t.settings = s.settings := by simp
  links : t.links = s.links := by simp
  own : t.trunk.own = s.trunk.own := by simp
  notify : t.latch.notify = s.latch.notify := by simp
  inbox : t.inbox = s.inbox := by simp
  choices : t.choices = s.choices := by simp
  pending : t.pending = s.pending := by simp

theorem SameForReset.takeReset {s t : State} (same : SameForReset s t) (scope : Scope) :
    t.takeReset scope = ({ s with bank := t.bank } : State).takeReset scope := by
  cases scope with
  | runtime =>
    show t.runtimeReset = State.runtimeReset _
    unfold State.runtimeReset
    rw [same.now, same.nodeCfg, same.chanCfg, same.settings, same.links, same.own, same.notify, same.inbox, same.choices,
      same.pending]
  | tables =>
    show t.tablesReset = State.tablesReset _
    unfold State.tablesReset
    rw [same.now, same.links, same.own, same.inbox, same.choices, same.pending]

/-- A block that is told of the end of a frame counts, and touches nothing that a pending reset reads. -/
structure Ready (s : State) (bank : Vector Nat 43) (t : State) : Prop extends SameForReset s t where
  mgmt : t.mgmt = s.mgmt := by simp
  bank : t.bank = bank

namespace Ready

variable {s t : State} {bank : Vector Nat 43} {scope : Scope}

theorem refl (s : State) : Ready s s.bank s where
  bank := rfl

theorem trans {u : State} {bank' : Vector Nat 43} (first : Ready s bank t) (second : Ready t bank' u) : Ready s bank' u :=
  ⟨⟨second.now.trans first.now, second.nodeCfg.trans first.nodeCfg, second.chanCfg.trans first.chanCfg,
    second.settings.trans first.settings, second.links.trans first.links, second.own.trans first.own,
    second.notify.trans first.notify, second.inbox.trans first.inbox, second.choices.trans first.choices,
    second.pending.trans first.pending⟩, second.mgmt.trans first.mgmt, second.bank⟩

theorem countBy (c : Counter) (n : Nat) : Ready s (s.countBy c n).bank (s.countBy c n) where
  bank := rfl

/-- What is counted after a step that counts nothing. -/
theorem thenCount (first : Ready s s.bank t) (c : Counter) (n : Nat) : Ready s (s.countBy c n).bank (t.countBy c n) := by
  have counted : (t.countBy c n).bank = (s.countBy c n).bank := by
    unfold State.countBy State.counter
    rw [first.bank]
  exact counted ▸ first.trans (countBy c n)

theorem freeSlots (n : Nat) : Ready s s.bank (s.freeSlots n) where
  notify := by unfold State.freeSlots; split <;> rfl
  bank := by unfold State.freeSlots; split <;> rfl

theorem sendDrops (late cs : List (Fin 256)) : Ready s s.bank (s.sendDrops late cs) where
  bank := by rw [(s.sendDrops_does late cs).1]

/-- The pending reset is taken where the response to its request still waits in MQ (R167). -/
theorem tellNotUp (ready : Ready s bank t) (pending : s.mgmt.resetPending = some scope)
    (waits : s.mgmt.items.any MqItem.answersReset = true) :
    t.tellNotUp .tu = ({ s with bank := bank } : State).takeReset scope := by
  show (if t.mgmt.items.any MqItem.answersReset then t.takePendingReset else t) = _
  rw [ready.mgmt, if_pos waits, State.takePendingReset_some (by rw [ready.mgmt]; exact pending),
    ready.toSameForReset.takeReset, ready.bank]

end Ready

/-- After a reset the loss of TU is told to nobody. -/
theorem State.tellNotUp_takeReset (s : State) (scope : Scope) : (s.takeReset scope).tellNotUp .tu = s.takeReset scope := by
  cases scope <;> rfl

theorem State.uplinkAborted_takeReset (s : State) (scope : Scope) (late : List (Fin 256)) :
    (s.takeReset scope).uplinkAborted late = s.takeReset scope := by
  cases scope <;> rfl

/-! ### The owners' counts at the end of a frame (R103, R104, R110, R111) -/

/-- An acknowledged entry is delivered and counted at the end of its transmission (R110, R111). -/
def countAcked (entries : List Entry) (q : Byte) (s : State) : State :=
  if (entries.find? (fun e => e.seq == q)).map Entry.acked = some true then s.count .urgentAcked else s

namespace Ready

variable {s t : State} {bank : Vector Nat 43} {scope : Scope}

theorem deliverEntry (q : Byte) : Ready s (s.count .urgentAcked).bank (s.deliverEntry q) := by
  have gone : Ready s s.bank { s with conf := { s.conf with
      entries := s.conf.entries.eraseP (fun e => e.seq == q), due := s.conf.due.erase q } } := { bank := rfl }
  exact thenCount (gone.trans (freeSlots 1)) .urgentAcked 1

theorem setEntry (e : Entry) : Ready s s.bank (s.setEntry e) where
  bank := rfl

theorem makeDue (e : Entry) : Ready s s.bank (s.makeDue e) where
  bank := rfl

theorem urgentEnds (q : Byte) : Ready s (countAcked s.conf.entries q s).bank (s.urgentCompleted q) ∧
    Ready s (countAcked s.conf.entries q s).bank (s.urgentAborted q) := by
  unfold countAcked
  cases found : s.entry q with
  | none =>
    obtain ⟨completed, aborted⟩ := State.urgentEnds_gone found
    rw [completed, aborted, show s.conf.entries.find? (fun e => e.seq == q) = none from found]
    exact ⟨refl s, refl s⟩
  | some e =>
    rw [show s.conf.entries.find? (fun e => e.seq == q) = some e from found]
    cases acked : e.acked with
    | true =>
      obtain ⟨completed, aborted⟩ := State.urgentEnds_acked found acked
      rw [completed, aborted, if_pos (by rw [Option.map_some, acked])]
      exact ⟨deliverEntry q, deliverEntry q⟩
    | false =>
      obtain ⟨completed, aborted⟩ := State.urgentEnds_waits found acked
      rw [completed, aborted, if_neg (by rw [Option.map_some, acked]; exact nofun)]
      exact ⟨setEntry _, makeDue _⟩

theorem clearFlight : Ready s s.bank s.clearFlight where
  bank := rfl

theorem clearFlight_urgentEnds (q : Byte) : Ready s (countAcked s.conf.entries q s).bank (s.clearFlight.urgentCompleted q) ∧
    Ready s (countAcked s.conf.entries q s).bank (s.clearFlight.urgentAborted q) := by
  have counted : (countAcked s.conf.entries q s.clearFlight).bank = (countAcked s.conf.entries q s).bank := by
    unfold countAcked
    split <;> rfl
  obtain ⟨completed, aborted⟩ := urgentEnds (s := s.clearFlight) q
  exact ⟨counted ▸ clearFlight.trans completed, counted ▸ clearFlight.trans aborted⟩

end Ready

/-- What the owner of a frame counts at its completion (R103, R110). -/
def countCompleted (entries : List Entry) (s : State) : Flight → State
  | .reports _ _ => s
  | .urgent q _ => countAcked entries q s
  | .transit _ => s
  | .item _ => s
  | .beacon => s

/-- What the owner of a frame counts at its abort (R104, R111). -/
def countAborted (entries : List Entry) (s : State) : Flight → State
  | .reports _ rs => s.countBy .txAborted rs.length
  | .urgent q _ => countAcked entries q s
  | .transit _ => s.count .transitDrop
  | .item _ => s.count .noticeLost
  | .beacon => s

section

variable {s : State} {scope : Scope}

theorem State.takeReset_bank (s : State) (scope : Scope) : ({ s with bank := s.bank } : State).takeReset scope = s.takeReset scope :=
  rfl

/-- The item's end takes the reset itself where it is the response to the request (R103, R104). -/
theorem State.itemEnded_takes {i : MqItem} (pending : s.mgmt.resetPending = some scope) (answers : i.answersReset = true) :
    s.itemEnded i = s.takeReset scope := (if_pos answers).trans (State.takePendingReset_some pending)

variable (pending : s.mgmt.resetPending = some scope)
include pending

theorem State.itemEnded_taken (waits : s.mgmt.items.any MqItem.answersReset = true) (i : MqItem) :
    (s.itemEnded i).tellNotUp .tu = s.takeReset scope := by
  by_cases answers : i.answersReset = true
  · rw [State.itemEnded_takes pending answers, State.tellNotUp_takeReset]
  · rw [State.itemEnded_other _ (Bool.eq_false_iff.mpr answers)]
    exact (Ready.refl s).tellNotUp pending waits

/-- A reset that is pending is taken at the loss of TU, after what the owner of the frame in flight counts (R103, R167). -/
theorem State.tellCompleted_taken (waits : s.mgmt.items.any MqItem.answersReset = true) (f : Flight) :
    (s.clearFlight.tellCompleted f).tellNotUp .tu = ({ s with bank := (countCompleted s.conf.entries s f).bank } : State).takeReset scope := by
  cases f with
  | reports _ rs => exact (Ready.clearFlight.trans (Ready.freeSlots rs.length)).tellNotUp pending waits
  | urgent q _ => exact (Ready.clearFlight_urgentEnds q).1.tellNotUp pending waits
  | transit _ => exact Ready.clearFlight.tellNotUp pending waits
  | item i => exact State.itemEnded_taken (s := s.clearFlight) pending waits i
  | beacon => exact Ready.clearFlight.tellNotUp pending waits

theorem State.tellAborted_taken (waits : s.mgmt.items.any MqItem.answersReset = true) (late : List (Fin 256)) (f : Flight) :
    (s.clearFlight.tellAborted late f).tellNotUp .tu = ({ s with bank := (countAborted s.conf.entries s f).bank } : State).takeReset scope := by
  cases f with
  | reports _ rs =>
    have freed : Ready s s.bank (s.clearFlight.freeSlots rs.length) := Ready.clearFlight.trans (Ready.freeSlots rs.length)
    have counted := freed.thenCount .txAborted rs.length
    have sent := counted.trans (Ready.sendDrops late (rs.map Report.channel))
    rw [counted.bank] at sent
    exact sent.tellNotUp pending waits
  | urgent q _ => exact (Ready.clearFlight_urgentEnds q).2.tellNotUp pending waits
  | transit _ => exact (Ready.countBy (s := s.clearFlight) .transitDrop 1).tellNotUp pending waits
  | item i => exact State.itemEnded_taken (s := s.clearFlight.count .noticeLost) pending waits i
  | beacon => exact Ready.clearFlight.tellNotUp pending waits

end

end Sys2Proof.Machine
end

section
/-! A pending reset taken at the loss of TU. -/

namespace Sys2Proof.Machine

/-! ### A pending reset at the loss of TU (R167) -/

section

variable {s : State} {scope : Scope} {t : Transmission} {c : Choice} {f : Flight}

/-- The reset of `s` with other counters. -/
def State.resetCounting (s : State) (scope : Scope) (counted : State) : State :=
  ({ s with bank := counted.bank } : State).takeReset scope

section

variable (pending : s.mgmt.resetPending = some scope) (waits : s.mgmt.items.any MqItem.answersReset = true)
include pending waits

theorem State.tellNotUp_taken : s.tellNotUp .tu = s.resetCounting scope s := (Ready.refl s).tellNotUp pending waits

theorem State.tellLoss_idle_taken : s.tellLoss .tu none c = s.resetCounting scope s := State.tellNotUp_taken pending waits

theorem State.tellLoss_gone_taken (gone : c.endLeft = true ∨ t.bytes.length + 2 ≤ t.sent) (owner : t.owner = .scheduler)
    (flight : s.uplink.flight = some f) :
    s.tellLoss .tu (some t) c = s.resetCounting scope (countCompleted s.conf.entries (s.count (.framesOut .tu)) f) := by
  rw [State.tellLoss_gone gone, owner]
  show ((s.count (.framesOut .tu)).uplinkCompleted false).tellNotUp .tu = _
  rw [State.uplinkCompleted_flight (s := s.count (.framesOut .tu)) flight]
  exact State.tellCompleted_taken (s := s.count (.framesOut .tu)) pending waits f

theorem State.tellLoss_gone_nobody_taken (gone : c.endLeft = true ∨ t.bytes.length + 2 ≤ t.sent) (owner : t.owner = .nobody) :
    s.tellLoss .tu (some t) c = s.resetCounting scope (s.count (.framesOut .tu)) := by
  rw [State.tellLoss_gone gone, owner]
  exact State.tellNotUp_taken (s := s.count (.framesOut .tu)) pending waits

variable (notLeft : c.endLeft = false) (notSent : t.sent < t.bytes.length + 2)
include notLeft notSent

theorem State.tellLoss_resetFirst_taken (first : c.resetFirst = true) (owner : t.owner = .scheduler ∨ t.owner = .nobody) :
    s.tellLoss .tu (some t) c = s.resetCounting scope s := by
  rw [State.tellLoss_aborted notLeft notSent, if_pos first, State.tellNotUp_taken pending waits]
  rcases owner with owner | owner <;> rw [owner]
  · exact State.uplinkAborted_takeReset _ scope _
  · rfl

theorem State.tellLoss_aborted_taken (later : c.resetFirst = false) (owner : t.owner = .scheduler)
    (flight : s.uplink.flight = some f) : s.tellLoss .tu (some t) c = s.resetCounting scope (countAborted s.conf.entries s f) := by
  rw [State.tellLoss_aborted notLeft notSent, if_neg (Bool.eq_false_iff.mp later), owner]
  show (s.uplinkAborted c.lateDrops).tellNotUp .tu = _
  rw [State.uplinkAborted_flight flight]
  exact State.tellAborted_taken pending waits c.lateDrops f

theorem State.tellLoss_nobody_taken (owner : t.owner = .nobody) : s.tellLoss .tu (some t) c = s.resetCounting scope s := by
  rw [State.tellLoss_aborted notLeft notSent, owner]
  split
  · exact State.tellNotUp_taken pending waits
  · exact State.tellNotUp_taken pending waits

end

/-- The response to the request is the frame in flight: its end takes the reset (R103, R104). -/
theorem State.tellLoss_response_taken {i : MqItem} (pending : s.mgmt.resetPending = some scope)
    (noneWaits : s.mgmt.items.any MqItem.answersReset = false) (owner : t.owner = .scheduler)
    (flight : s.uplink.flight = some (.item i)) (answers : i.answersReset = true) :
    s.tellLoss .tu (some t) c = s.resetCounting scope (s.count
      (if c.endLeft = true ∨ t.bytes.length + 2 ≤ t.sent then Counter.framesOut .tu else Counter.noticeLost)) := by
  have notTold : s.tellNotUp .tu = s := if_neg (by rw [noneWaits]; exact nofun)
  by_cases gone : c.endLeft = true ∨ t.bytes.length + 2 ≤ t.sent
  · rw [if_pos gone, State.tellLoss_gone gone, owner]
    show ((s.count (.framesOut .tu)).uplinkCompleted false).tellNotUp .tu = _
    rw [State.uplinkCompleted_flight (s := s.count (.framesOut .tu)) flight]
    show ((s.count (.framesOut .tu)).clearFlight.itemEnded i).tellNotUp .tu = _
    rw [State.itemEnded_takes (s := (s.count (.framesOut .tu)).clearFlight) pending answers, State.tellNotUp_takeReset]
    exact (Ready.clearFlight (s := s.count (.framesOut .tu))).takeReset scope
  · obtain ⟨left, sent⟩ := not_or.mp gone
    have aborted : s.tellOwnerAborted c.lateDrops .scheduler = s.resetCounting scope (s.count .noticeLost) := by
      show s.uplinkAborted c.lateDrops = _
      rw [State.uplinkAborted_flight flight]
      show (s.clearFlight.count .noticeLost).itemEnded i = _
      rw [State.itemEnded_takes (s := s.clearFlight.count .noticeLost) pending answers]
      exact ((Ready.clearFlight (s := s)).thenCount .noticeLost 1).toSameForReset.takeReset scope
    rw [if_neg gone, State.tellLoss_aborted (Bool.eq_false_iff.mpr left) (Nat.not_le.mp sent), owner, notTold, aborted]
    split
    · rfl
    · exact State.tellNotUp_takeReset _ _

end

/-- What is counted of the frame in transmission when the loss of TU meets a pending reset (R103, R104, R167). -/
def countEnded (s : State) (gone : Bool) (x : State) : State :=
  if (s.link .tu).tx = none then x
  else if gone then s.uplink.flight.elim (x.count (.framesOut .tu)) (countCompleted s.conf.entries (x.count (.framesOut .tu)))
  else if s.choice.resetFirst then x
  else s.uplink.flight.elim x (countAborted s.conf.entries x)

/-- The END of the frame in transmission had left, by the symbols sent or by the supply (R127). -/
def endLeft (s : State) : Bool :=
  s.choice.endLeft || (s.link .tu).tx.any (fun t => decide (t.bytes.length + 2 ≤ t.sent))

theorem endLeft_iff {s : State} {t : Transmission} (sends : (s.link .tu).tx = some t) :
    endLeft s = true ↔ s.choice.endLeft = true ∨ t.bytes.length + 2 ≤ t.sent := by
  simp [endLeft, sends]

/-- A state in which the blocks behind TU are told of the loss: what the port itself has done touches none of these. -/
structure LossTold (s x : State) : Prop where
  resetPending : x.mgmt.resetPending = s.mgmt.resetPending
  uplink : x.uplink = s.uplink
  conf : x.conf = s.conf
  answers : x.mgmt.items.any MqItem.answersReset = s.mgmt.items.any MqItem.answersReset
  same : SameForReset (s.down .tu) x

theorem LossTold.resetCounting {s x : State} (told : LossTold s x) (scope : Scope) (counted : State) :
    x.resetCounting scope counted = (s.down .tu).resetCounting scope counted := by
  have same : SameForReset (s.down .tu) { x with bank := counted.bank } := ⟨told.same.now, told.same.nodeCfg,
    told.same.chanCfg, told.same.settings, told.same.links, told.same.own, told.same.notify, told.same.inbox,
    told.same.choices, told.same.pending⟩
  exact same.takeReset scope

theorem LossTold.down (s : State) : LossTold s (s.down .tu) where
  resetPending := rfl
  uplink := rfl
  conf := rfl
  answers := rfl
  same := {}

theorem State.raise_notify (s : State) (k : EventKind) (detail : Byte) (sweep : Word) :
    (s.raise k detail sweep).latch.notify = s.latch.notify := by
  unfold State.raise State.offerMq
  split
  · rfl
  · dsimp only
    split
    · split <;> rfl
    · rfl

theorem LossTold.noted (s : State) : LossTold s ((s.down .tu).noteLoss .tu) where
  resetPending := State.noteLoss_mgmt_resetPending ..
  uplink := State.noteLoss_uplink ..
  conf := State.noteLoss_conf ..
  answers := by
    obtain ⟨notices, events, mgmt⟩ := (s.down .tu).noteLoss_mgmt .tu
    have silent : notices.any MqItem.answersReset = false :=
      List.any_eq_false.mpr fun i h => by rw [events i h]; exact nofun
    rw [mgmt]
    show (s.mgmt.items ++ notices).any _ = _
    rw [List.any_append, silent, Bool.or_false]
  same := { notify := State.raise_notify .. }

section

variable {s x : State} {scope : Scope}

/-- The response to the request still waits in MQ (R167). -/
theorem State.tellLoss_ended (law : TransmissionLaw s) (pending : s.mgmt.resetPending = some scope)
    (waits : s.mgmt.items.any MqItem.answersReset = true) (told : LossTold s x) :
    x.tellLoss .tu (s.link .tu).tx s.choice = (s.down .tu).resetCounting scope (countEnded s (endLeft s) x) := by
  obtain ⟨flightLaw, -, owners, -, -⟩ := law
  have pending' := told.resetPending.trans pending
  have waits' := told.answers.trans waits
  rw [← told.resetCounting]
  unfold countEnded
  cases sends : (s.link .tu).tx with
  | none => 
    rw [if_pos rfl]
    exact State.tellLoss_idle_taken pending' waits'
  | some t =>
    have left := endLeft_iff sends
    have owner : s.owner .tu = some t.owner := by rw [State.owner, sends]; rfl
    rw [if_neg nofun]
    rw [owner] at flightLaw owners
    have ownerCases : t.owner = .scheduler ∨ t.owner = .nobody := owners _ rfl
    by_cases gone : s.choice.endLeft = true ∨ t.bytes.length + 2 ≤ t.sent
    · rw [if_pos (left.mpr gone)]
      rcases ownerCases with scheduler | nobody
      · obtain ⟨f, flight⟩ := Option.isSome_iff_exists.mp (flightLaw.mpr (by rw [scheduler]))
        rw [State.tellLoss_gone_taken pending' waits' gone scheduler (told.uplink ▸ flight), told.conf, flight]
        rfl
      · have flight : s.uplink.flight = none := by
          rw [← Option.not_isSome_iff_eq_none, flightLaw, nobody]
          exact nofun
        rw [State.tellLoss_gone_nobody_taken pending' waits' gone nobody, flight]
        rfl
    · obtain ⟨notLeft, notSent⟩ := not_or.mp gone
      have notLeft := Bool.eq_false_iff.mpr notLeft
      have notSent := Nat.not_le.mp notSent
      rw [if_neg (mt left.mp gone)]
      by_cases first : s.choice.resetFirst = true
      · rw [if_pos first, State.tellLoss_resetFirst_taken pending' waits' notLeft notSent first ownerCases]
      · rw [if_neg first]
        rcases ownerCases with scheduler | nobody
        · obtain ⟨f, flight⟩ := Option.isSome_iff_exists.mp (flightLaw.mpr (by rw [scheduler]))
          rw [State.tellLoss_aborted_taken pending' waits' notLeft notSent (Bool.eq_false_iff.mpr first) scheduler
            (told.uplink ▸ flight), told.conf, flight]
          rfl
        · have flight : s.uplink.flight = none := by
            rw [← Option.not_isSome_iff_eq_none, flightLaw, nobody]
            exact nofun
          rw [State.tellLoss_nobody_taken pending' waits' notLeft notSent nobody, flight]
          rfl

end

end Sys2Proof.Machine
end

section
/-! The part after a pending reset and the loss of TU. -/

namespace Sys2Proof.Machine

section

variable {s : State} {scope : Scope}

/-- The response to the request is in flight, none waits in MQ (R103, R104, R167). -/
theorem State.tellLoss_inFlight {x : State} {t : Transmission} {i : MqItem} (law : TransmissionLaw s)
    (pending : s.mgmt.resetPending = some scope) (sends : (s.link .tu).tx = some t)
    (flight : s.uplink.flight = some (.item i)) (answers : i.answersReset = true)
    (noneWaits : s.mgmt.items.any MqItem.answersReset = false) (told : LossTold s x) :
    x.tellLoss .tu (s.link .tu).tx s.choice =
      (s.down .tu).resetCounting scope (x.count (if endLeft s then Counter.framesOut .tu else Counter.noticeLost)) := by
  have scheduler : t.owner = .scheduler := by
    have owner := law.1.mp (by rw [flight]; rfl)
    rw [State.owner, sends] at owner
    exact Option.some.inj owner
  have left : (if endLeft s then Counter.framesOut .tu else Counter.noticeLost) =
      if s.choice.endLeft = true ∨ t.bytes.length + 2 ≤ t.sent then Counter.framesOut .tu else Counter.noticeLost :=
    ite_congr (propext (endLeft_iff sends)) (fun _ => rfl) fun _ => rfl
  rw [left, ← told.resetCounting, sends]
  exact State.tellLoss_response_taken (told.resetPending.trans pending) (told.answers.trans noneWaits) scheduler
    (told.uplink ▸ flight) answers

theorem answersReset_iff {i : MqItem} : i.answersReset = true ↔ ∃ tag rs, i = .response tag 23 .ok rs := by
  cases i with
  | response tag code status rs => simp [MqItem.answersReset]
  | event _ _ _ => simp [MqItem.answersReset]
  | announce => simp [MqItem.answersReset]

/-- The loss of TU, told before or after it is counted and raised (R124, R125). -/
theorem exec_lossOfTu (up : (s.link .tu).state = .up) {told : State → State} 
    (first : (s.down .tu).tellLoss .tu (s.link .tu).tx s.choice = told (s.down .tu))
    (later : ((s.down .tu).noteLoss .tu).tellLoss .tu (s.link .tu).tx s.choice = told ((s.down .tu).noteLoss .tu)) :
    exec (.linkNoiseLoss .tu) s = .next (if s.choice.tellFirst then (told (s.down .tu)).noteLoss .tu
      else told ((s.down .tu).noteLoss .tu)) := by
  refine exec_eq rfl ?_
  rw [State.linkLoss_up up, first, later]

end

/-- The state after a reset taken at the loss of TU, with the counters that the end of the frame has left (R167). -/
theorem resetCounting_down (s : State) (scope : Scope) (counted : State) : (s.down .tu).resetCounting scope counted =
    { State.reset with
        now := s.now
        nodeCfg := if scope = .runtime then s.nodeCfg else State.reset.nodeCfg
        chanCfg := if scope = .runtime then s.chanCfg else State.reset.chanCfg
        settings := if scope = .runtime then s.settings else State.reset.settings
        links := ⟨{}, s.links.td.orphan, s.links.sg.orphan⟩
        trunk := { own := s.trunk.own }
        latch := if scope = .runtime then { notify := s.latch.notify } else {}
        bank := if scope = .runtime then counted.bank else State.reset.bank
        inbox := s.inbox
        choices := s.choices.tail
        pending := s.pending } := by
  cases scope <;> rfl

/-- Settles O14. -/
theorem pendingResetAtLoss : Obligations.PendingResetAtLoss := by
  intro s scope law up pending
  refine ⟨fun bank => (s.down .tu).resetCounting scope { s with bank := bank }, ?_, fun x => x.noteLoss .tu, rfl,
    s.down .tu, rfl, countAcked s.conf.entries, rfl, endLeft s, rfl, countEnded s (endLeft s), funext fun x => ?_,
    fun tag rs waits => ?_, fun t tag rs sends flight noneWaits => ⟨_, rfl, ?_⟩⟩
  · funext bank
    exact resetCounting_down s scope _
  · unfold countEnded
    cases s.uplink.flight with
    | none => rfl
    | some f => cases f <;> rfl
  · have waits : s.mgmt.items.any MqItem.answersReset = true :=
      List.any_eq_true.mpr ⟨_, waits, answersReset_iff.mpr ⟨tag, rs, rfl⟩⟩
    exact exec_lossOfTu (told := fun x => (s.down .tu).resetCounting scope (countEnded s (endLeft s) x)) up
      (State.tellLoss_ended law pending waits (LossTold.down s)) (State.tellLoss_ended law pending waits (LossTold.noted s))
  · have noneWaits : s.mgmt.items.any MqItem.answersReset = false := List.any_eq_false.mpr fun i waits answers => by
      obtain ⟨tag', rs', same⟩ := answersReset_iff.mp answers
      exact noneWaits tag' rs' (same ▸ waits)
    have answers : (MqItem.response tag 23 .ok rs).answersReset = true := answersReset_iff.mpr ⟨tag, rs, rfl⟩
    exact exec_lossOfTu
      (told := fun x => (s.down .tu).resetCounting scope
        (x.count (if endLeft s then Counter.framesOut .tu else Counter.noticeLost))) up
      (State.tellLoss_inFlight law pending sends flight answers noneWaits (LossTold.down s))
      (State.tellLoss_inFlight law pending sends flight answers noneWaits (LossTold.noted s))

end Sys2Proof.Machine
end

section
/-! The order of a close, and the sweep record after a close with no commit pending. -/

namespace Sys2Proof.Machine

/-! ### The order of a close (R8; notes/assumptions/4) -/

theorem count_map_finRange {n : Nat} (f : Fin n → CloseAct) (injective : Function.Injective f) (i : Fin n) :
    ((List.finRange n).map f).count (f i) = 1 := by
  rw [List.count_map_of_injective _ _ injective, (List.nodup_finRange n).count, if_pos (List.mem_finRange i)]

/-- Every act but a single taking of the filter comes once in the default order. -/
theorem defaultActs_count {a : CloseAct} (comesOnce : a.again = false) : defaultActs.count a = 1 := by
  have judge : Function.Injective CloseAct.judge := fun _ _ h => CloseAct.judge.inj h
  have duties : Function.Injective CloseAct.duties := fun _ _ h => CloseAct.duties.inj h
  cases a with
  | judge i => simp [defaultActs, List.count_append, count_map_finRange _ judge, List.count_eq_zero.mpr]
  | duties c => simp [defaultActs, List.count_append, count_map_finRange _ duties, List.count_eq_zero.mpr]
  | take f => exact nomatch comesOnce
  | shares => simp [defaultActs, List.count_append, List.count_eq_zero.mpr]
  | drops => simp [defaultActs, List.count_append, List.count_eq_zero.mpr]
  | deliveries => simp [defaultActs, List.count_append, List.count_eq_zero.mpr]
  | apply => exact defaultActs_count_apply
  | beacon => simp [defaultActs, List.count_append, List.count_eq_zero.mpr]
  | proceed => exact defaultActs_count_proceed

theorem closeOrder_count_once {a : CloseAct} (comesOnce : a.again = false) (prefer : List CloseAct) :
    (closeOrder prefer).count a = 1 := closeOrder_count comesOnce (defaultActs_count comesOnce) prefer

theorem mem_closeOrder {a : CloseAct} (comesOnce : a.again = false) (prefer : List CloseAct) : a ∈ closeOrder prefer := by
  have once := closeOrder_count_once comesOnce prefer
  exact List.count_pos_iff.mp (by omega)

/-- An act that comes once does not come again later. -/
def ComesOnce (l : List CloseAct) : Prop := l.Pairwise fun a b => a.again = false → a ≠ b

theorem comesOnce_of_count {l : List CloseAct} (once : ∀ a, a.again = false → l.count a ≤ 1) : ComesOnce l := by
  induction l with
  | nil => exact List.Pairwise.nil
  | cons a rest ih =>
    refine List.Pairwise.cons (fun b later comesOnce same => ?_) (ih fun b comesOnce => ?_)
    · have twice := once a comesOnce
      rw [List.count_cons_self] at twice
      exact List.count_eq_zero.mp (by omega : rest.count a = 0) (same ▸ later)
    · exact Nat.le_trans (List.count_le_count_cons) (once b comesOnce)

theorem closeOrder_comesOnce (prefer : List CloseAct) : ComesOnce (closeOrder prefer) :=
  comesOnce_of_count fun _ comesOnce => Nat.le_of_eq (closeOrder_count_once comesOnce prefer)

section

variable {k : CloseKind} {w : Word} {supply : Choice}

/-- A close act by act, with a claim about the acts that are left. -/
theorem Closing.fold_rest {claim : List CloseAct → Closing → Prop}
    (step : ∀ a rest x, (a.again = false → a ∉ rest) → claim (a :: rest) x → claim rest (Closing.act k w supply x a)) :
    ∀ (l : List CloseAct) (x : Closing), ComesOnce l → claim l x → claim [] (l.foldl (Closing.act k w supply) x) := by
  intro l
  induction l with
  | nil => exact fun _ _ h => h
  | cons a rest ih =>
    intro x once h
    obtain ⟨notLater, once⟩ := List.pairwise_cons.mp once
    exact ih _ once (step a rest x (fun comesOnce later => notLater a later comesOnce rfl) h)

end

/-- A close from its first steps to its last, with a claim about the acts that are left and the shares that wait past it. -/
theorem State.sweepClose_claim {s : State} {k : CloseKind} {claim : List CloseAct → Closing → Prop} {result : State → Prop}
    (start : claim (closeOrder s.choice.acts) { state := s.dropChoice.endCollection })
    (step : ∀ a rest x, (a.again = false → a ∉ rest) → claim (a :: rest) x →
      claim rest (Closing.act k s.sweep.number s.choice x a))
    (finish : ∀ x : Closing, claim [] x → result ((x.state.takeShares s.choice.late x.plan.resets).keepShares x.plan.resets)) :
    result (s.sweepClose k) :=
  finish _ (Closing.fold_rest step _ _ (closeOrder_comesOnce _) start)

/-- The same for an act that divides the close in two. -/
theorem State.sweepClose_turn {s : State} {k : CloseKind} {a : CloseAct} (comesOnce : a.again = false)
    {before after : Closing → Prop} {result : State → Prop}
    (start : before { state := s.dropChoice.endCollection })
    (first : ∀ x b, b ≠ a → before x → before (Closing.act k s.sweep.number s.choice x b))
    (turn : ∀ x, before x → after (Closing.act k s.sweep.number s.choice x a))
    (last : ∀ x b, b ≠ a → after x → after (Closing.act k s.sweep.number s.choice x b))
    (finish : ∀ x : Closing, after x → result ((x.state.takeShares s.choice.late x.plan.resets).keepShares x.plan.resets)) :
    result (s.sweepClose k) := by
  refine State.sweepClose_claim (claim := fun rest x => (a ∈ rest → before x) ∧ (a ∉ rest → after x))
    ⟨fun _ => start, fun absent => absurd (mem_closeOrder comesOnce _) absent⟩ (fun b rest x once ⟨early, late⟩ => ?_)
    (fun x ⟨_, late⟩ => finish x (late List.not_mem_nil))
  by_cases same : b = a
  · subst same
    exact ⟨fun again => absurd again (once comesOnce), fun _ => turn x (early List.mem_cons_self)⟩
  · refine ⟨fun among => first x b same (early (List.mem_cons_of_mem b among)), fun absent => last x b same (late ?_)⟩
    rw [List.mem_cons, not_or]
    exact ⟨Ne.symm same, absent⟩

/-! ### The sweep's record in a close with no commit pending (R7, R8, R9, R12) -/

/-- With no commit pending the apply does nothing. -/
theorem Closing.act_apply_noCommit {k : CloseKind} {w : Word} {supply : Choice} {x : Closing}
    (quiet : x.state.mgmt.session.state ≠ .commitPending) : Closing.act k w supply x .apply = x := if_neg quiet

/-- What the Controller's own move reads. -/
structure SameForMove (s t : State) : Prop where
  sweep : t.sweep = s.sweep
  settings : t.settings = s.settings
  session : t.mgmt.session = s.mgmt.session
  now : t.now = s.now
  links : t.links = s.links

theorem State.isUp_eq {s t : State} (links : t.links = s.links) (p : Port) : t.isUp p = s.isUp p := by
  rw [State.isUp, State.link, links]
  rfl

theorem SameForMove.trigger {s t : State} (same : SameForMove s t) (n : Word) : (t.trigger n).sweep = (s.trigger n).sweep := by
  unfold State.trigger State.supervisionTime
  dsimp only
  rw [same.sweep, same.settings, same.now, State.isUp_eq same.links]

theorem SameForMove.periodTest {s t : State} (same : SameForMove s t) : t.periodTest.sweep = s.periodTest.sweep := by
  have left : t.periodLeft = s.periodLeft := by
    unfold State.periodLeft
    rw [same.sweep, same.settings, same.now]
  unfold State.periodTest
  rw [same.settings, same.sweep, left]
  split
  · exact same.trigger _
  · exact same.sweep

theorem SameForMove.becomeQuiet {s t : State} (same : SameForMove s t) : SameForMove s.becomeQuiet t.becomeQuiet where
  sweep := congrArg (fun w : Sweep => { w with state := .quiet }) same.sweep
  settings := same.settings
  session := same.session
  now := same.now
  links := same.links

theorem SameForMove.afterClose {s t : State} (same : SameForMove s t) (k : CloseKind) :
    (t.afterClose k).sweep = (s.afterClose k).sweep := by
  cases k with
  | expiry oneShot =>
    cases oneShot with
    | true => exact congrArg (fun w : Sweep => { w with state := .stopped, oneShot := false, supervision := none }) same.sweep
    | false => exact same.becomeQuiet.periodTest
  | stop => exact congrArg (fun w : Sweep => { w with state := .stopped, oneShot := false, supervision := none }) same.sweep
  | sync n => exact same.trigger n

/-- An act that is not the Controller's own move touches nothing that the move reads. -/
theorem SameForMove.act {s : State} {k : CloseKind} {w : Word} {supply : Choice} {x : Closing} {a : CloseAct}
    (quiet : s.mgmt.session.state ≠ .commitPending) (notProceed : a ≠ .proceed) (same : SameForMove s x.state) :
    SameForMove s (Closing.act k w supply x a).state := by
  by_cases isApply : a = .apply
  · subst isApply
    rw [Closing.act_apply_noCommit (by rw [same.session]; exact quiet)]
    exact same
  · obtain ⟨sweep, settings, session, -⟩ := Closing.act_controller k w supply x isApply notProceed
    exact ⟨sweep.trans same.sweep, settings.trans same.settings, session.trans same.session,
      (Closing.act_now ..).trans same.now, (Closing.act_links ..).trans same.links⟩

/-- The sweep's record after a close with no commit pending is what the Controller's own move makes of it (R7, R9, R12). -/
theorem State.sweepClose_sweep {s : State} (k : CloseKind) (quiet : s.mgmt.session.state ≠ .commitPending) :
    (s.sweepClose k).sweep = (s.endCollection.afterClose k).sweep := by
  refine State.sweepClose_turn (a := .proceed) rfl (result := fun t => t.sweep = (s.endCollection.afterClose k).sweep)
    (before := fun x => SameForMove s.endCollection x.state)
    (after := fun x => x.state.sweep = (s.endCollection.afterClose k).sweep ∧
      x.state.mgmt.session.state ≠ .commitPending)
    ⟨rfl, rfl, rfl, rfl, rfl⟩ (fun x b other same => same.act quiet other) (fun x same => ⟨same.afterClose k, ?_⟩)
    (fun x b other ⟨sweep, still⟩ => ?_) (fun x ⟨sweep, _⟩ => by simpa using sweep)
  · have session := (Closing.act_noCommit k s.sweep.number s.choice x .proceed (by rw [same.session]; exact quiet)).1
    rw [session, same.session]
    exact quiet
  · by_cases isApply : b = .apply
    · subst isApply
      rw [Closing.act_apply_noCommit still]
      exact ⟨sweep, still⟩
    · obtain ⟨kept, -, session, -⟩ := Closing.act_controller k s.sweep.number s.choice x isApply other
      exact ⟨kept.trans sweep, by rw [session]; exact still⟩

end Sys2Proof.Machine
end

section
/-! The slots of a close, TRIGGER_ONCE and STOP_SWEEPS. -/

namespace Sys2Proof.Machine

/-! ### The reserved slots and the sweep of a close, a commit pending or not (R9, R16, R164) -/

theorem slotsAfter_cons {code : Byte} {e : Reservation} (other : e.code ≠ code) (l : List Reservation) :
    slotsAfter code (e :: l) = e :: slotsAfter code l := by
  have skipped : (e :: l).find? (fun r => r.code == code) = l.find? (fun r => r.code == code) :=
    List.find?_cons_of_neg (by simpa using other)
  unfold slotsAfter
  rw [skipped]
  cases found : l.find? (fun r => r.code == code) with
  | none => rfl
  | some r =>
    have own : r.code = code := by simpa using List.find?_some found
    exact List.erase_cons_tail (by
      rw [beq_iff_eq]
      rintro rfl
      exact other own)

theorem State.sourceApplied_parts (old : Settings) (s : State) : ∃ w : Sweep, s.sourceApplied old = { s with sweep := w } := by
  unfold State.sourceApplied
  split
  · exact ⟨_, rfl⟩
  · exact ⟨_, rfl⟩

/-- An apply at a close is the apply of the items, the sweep's record apart (R11, R165). -/
theorem Closing.apply_parts {x : Closing} (pending : x.state.mgmt.session.state = .commitPending) (k : CloseKind)
    (early late : List (Fin 256)) :
    ∃ w : Sweep, (x.apply k early late).state = { x.state.applyItems x.state.applyPlan early late with sweep := w } := by
  rw [Closing.apply_state pending]
  cases k with
  | expiry oneShot =>
    cases oneShot with
    | false => exact State.settingsApplied_parts _ _
    | true => exact State.sourceApplied_parts _ _
  | stop => exact State.sourceApplied_parts _ _
  | sync n => exact State.sourceApplied_parts _ _

/-- In a close that does not leave the part QUIET, the apply touches of the sweep's record the supervision timer alone (R11). -/
theorem Closing.apply_sweep {x : Closing} {k : CloseKind} (notQuiet : k ≠ .expiry false)
    (pending : x.state.mgmt.session.state = .commitPending) (early late : List (Fin 256)) :
    (x.apply k early late).state.sweep = { x.state.sweep with
      supervision := if x.state.settings.source = .trunk ∧ x.state.mergedSettings.source = .localTimer then none
        else x.state.sweep.supervision } := by
  have applied : (x.apply k early late).state =
      (x.state.applyItems x.state.applyPlan early late).sourceApplied x.state.settings := by
    rw [Closing.apply_state pending]
    cases k with
    | expiry oneShot =>
      cases oneShot with
      | false => exact absurd rfl notQuiet
      | true => rfl
    | stop => rfl
    | sync n => rfl
  rw [applied, State.sourceApplied_sweep, State.applyItems_sweep, (State.applyItems_installs _ _ _ _).2.2.1]

theorem Closing.act_reserved {k : CloseKind} {w : Word} {supply : Choice} (x : Closing) {a : CloseAct} (notApply : a ≠ .apply) :
    (Closing.act k w supply x a).state.mgmt.reserved = x.state.mgmt.reserved := by
  by_cases isProceed : a = .proceed
  · subst isProceed
    show (State.afterClose _ k).mgmt.reserved = _
    rw [State.afterClose_mgmt]
  · exact (Closing.act_controller k w supply x notApply isProceed).2.2.2

/-- A close gives the slot of a pending commit to its response, and keeps the others (R150, R164). -/
theorem State.sweepClose_reserved (s : State) (k : CloseKind) : (s.sweepClose k).mgmt.reserved =
    if s.mgmt.session.state = .commitPending then slotsAfter 22 s.mgmt.reserved else s.mgmt.reserved := by
  refine State.sweepClose_turn (a := .apply) rfl
    (result := fun t => t.mgmt.reserved =
      if s.mgmt.session.state = .commitPending then slotsAfter 22 s.mgmt.reserved else s.mgmt.reserved)
    (before := fun x => x.state.mgmt.reserved = s.mgmt.reserved ∧ x.state.mgmt.session = s.mgmt.session)
    (after := fun x => x.state.mgmt.reserved =
      if s.mgmt.session.state = .commitPending then slotsAfter 22 s.mgmt.reserved else s.mgmt.reserved)
    ⟨rfl, rfl⟩ (fun x b other ⟨slots, session⟩ => ?_) (fun x ⟨slots, session⟩ => ?_) (fun x b other slots => ?_)
    (fun x slots => by simpa using slots)
  · exact ⟨(Closing.act_reserved x other).trans slots, (Closing.act_session k _ _ x other).trans session⟩
  · rw [← session, ← slots]
    split
    · next pending =>
      obtain ⟨w, applied⟩ := Closing.apply_parts pending k s.choice.dropFirst s.choice.lateDrops
      show (x.apply k _ _).state.mgmt.reserved = _
      rw [applied]
      exact State.applyItems_reserved ..
    · next quiet => rw [Closing.act_apply_noCommit quiet]
  · exact (Closing.act_reserved x other).trans slots

theorem State.sweepClose_session_over (s : State) (k : CloseKind) : (s.sweepClose k).mgmt.session.state ≠ .commitPending := by
  rcases s.sweepClose_session k with ⟨same, notPending⟩ | ended
  · rw [same]
    exact notPending
  · rw [ended]
    exact nofun

/-- A close by STOP_SWEEPS leaves the part STOPPED; a change of source that its apply makes touches the supervision timer
alone, which the move to STOPPED makes idle (R9, R11). -/
theorem State.sweepClose_stop_sweep (s : State) : (s.sweepClose .stop).sweep = { s.sweep with
    state := .stopped
    lastClosed := some s.sweep.number
    oneShot := false
    window := none
    supervision := none
    waiting := none } := by
  refine State.sweepClose_turn (a := .proceed) rfl (result := fun t => t.sweep = _)
    (before := fun x => ∃ timer, x.state.sweep = { s.endCollection.sweep with supervision := timer })
    (after := fun x => x.state.sweep = s.endCollection.becomeStopped.sweep)
    ⟨_, rfl⟩ (fun x b other ⟨timer, sweep⟩ => ?_) (fun x ⟨timer, sweep⟩ => ?_) (fun x b other sweep => ?_)
    (fun x sweep => by
      rw [State.keepShares_sweep, State.takeShares_sweep, sweep]
      rfl)
  · by_cases isApply : b = .apply
    · subst isApply
      by_cases pending : x.state.mgmt.session.state = .commitPending
      · have applied := Closing.apply_sweep (k := .stop) nofun pending s.choice.dropFirst s.choice.lateDrops
        rw [sweep] at applied
        exact ⟨_, applied⟩
      · rw [Closing.act_apply_noCommit pending]
        exact ⟨timer, sweep⟩
    · rw [(Closing.act_controller _ _ _ x isApply other).1]
      exact ⟨timer, sweep⟩
  · show x.state.becomeStopped.sweep = _
    unfold State.becomeStopped
    rw [sweep]
  · by_cases isApply : b = .apply
    · subst isApply
      by_cases pending : x.state.mgmt.session.state = .commitPending
      · refine (Closing.apply_sweep (k := .stop) nofun pending _ _).trans ?_
        rw [sweep]
        split <;> rfl
      · rw [Closing.act_apply_noCommit pending]
        exact sweep
    · rw [(Closing.act_controller _ _ _ x isApply other).1]
      exact sweep

/-! ### TRIGGER_ONCE and STOP_SWEEPS (R16, R17) -/

theorem State.triggerOnce_eq (s : State) : s.triggerOnce =
    if s.sweep.state = .stopped ∧ s.settings.source = .localTimer then
      ({ s.trigger (s.sweep.number + 1) with
        sweep := { (s.trigger (s.sweep.number + 1)).sweep with oneShot := true } }, .ok)
    else (s, .notAllowed) := rfl

/-- The close of STOP_SWEEPS on the state in which the request's slot is reserved: the response takes the slot (R16, R150). -/
theorem State.stopSweeps_collecting_responds {s : State} (tag : Byte) :
    ((s.reserve tag 11).sweepClose .stop).respond tag 11 .ok [] = { (s.reserve tag 11).sweepClose .stop with
      mgmt := { ((s.reserve tag 11).sweepClose .stop).mgmt with
        reserved := if s.mgmt.session.state = .commitPending then slotsAfter 22 s.mgmt.reserved else s.mgmt.reserved
        items := ((s.reserve tag 11).sweepClose .stop).mgmt.items ++ [.response tag 11 .ok []] } } := by
  refine State.respond_first _ _ _ _ _ _ ((State.sweepClose_reserved _ _).trans ?_)
  show (if s.mgmt.session.state = .commitPending then slotsAfter 22 (⟨tag, 11⟩ :: s.mgmt.reserved)
    else ⟨tag, 11⟩ :: s.mgmt.reserved) = _
  split
  · exact slotsAfter_cons (show (11 : Byte) ≠ 22 by decide) _
  · rfl

/-- Settles O24. -/
theorem triggerOnceAndStopSweeps : Obligations.TriggerOnceAndStopSweeps := by
  intro r s admits empty
  have form : hasFields r 0 = true := (hasFields_zero_iff r).mpr empty
  refine ⟨fun stopped inLocal => ?_, fun refused => ?_, fun stopped => ?_, fun quiet => ?_, fun collecting => ?_⟩
  · have ran := ((s.tookRequest 12 r).reserve r.tag 12).triggerOnce_eq.trans (if_pos ⟨stopped, inLocal⟩)
    refine exec_answers_with (c := .triggerOnce r) (code := 12) rfl admits form
      (congrArg (fun out : State × Status => (out.1, Answer.done out.2 [])) ran) rfl ?_
    rw [State.trigger_inLocal ((s.tookRequest 12 r).reserve r.tag 12) _ inLocal]
    rfl
  · have ran := ((s.tookRequest 12 r).reserve r.tag 12).triggerOnce_eq.trans (if_neg (fun ⟨stopped, inLocal⟩ => by
      rcases refused with other | trunk
      · exact other stopped
      · exact absurd (inLocal.symm.trans trunk) nofun))
    exact exec_answers (c := .triggerOnce r) (code := 12) rfl admits form
      (congrArg (fun out : State × Status => (out.1, Answer.done out.2 [])) ran)
  · exact exec_answers (c := .stopSweeps r) (code := 11) rfl admits form
      (congrArg (·, okAnswer) (State.stopSweeps_stopped (s := (s.tookRequest 11 r).reserve r.tag 11) stopped))
  · exact exec_answers_with (c := .stopSweeps r) (code := 11) rfl admits form
      (congrArg (·, okAnswer) (State.stopSweeps_quiet (s := (s.tookRequest 11 r).reserve r.tag 11) quiet)) rfl rfl
  · have ran := State.stopSweeps_collecting (s := (s.tookRequest 11 r).reserve r.tag 11) collecting
    have responds := State.stopSweeps_collecting_responds (s := s.tookRequest 11 r) r.tag
    exact ⟨_, exec_eq (exec_admitted_of (c := .stopSweeps r) rfl admits form (congrArg (·, okAnswer) ran)) responds,
      State.sweepClose_stop_sweep _, State.sweepClose_session_over _ _, List.getLast?_concat⟩

end Sys2Proof.Machine
end

section
/-! WINDOW_EXPIRY. -/

namespace Sys2Proof.Machine

/-! ### WINDOW_EXPIRY (R7, R8, R10) -/

theorem exec_windowExpiry {s : State} {w : Nat} (collecting : s.sweep.state = .collecting) (window : s.sweep.window = some w) :
    exec .windowExpiry s = .next ((s.advance w).sweepClose (.expiry s.sweep.oneShot)) := by
  show Host.Outcome.next (if s.sweep.state = .collecting then _ else _) = _
  rw [if_pos collecting, window]

/-- The beacon count alone touches the Scheduler in a close (R185). -/
theorem Closing.act_flight (k : CloseKind) (w : Word) (supply : Choice) (x : Closing) (a : CloseAct) :
    ((Closing.act k w supply x a).state.uplink.flight, (Closing.act k w supply x a).state.uplink.turn) =
      (x.state.uplink.flight, x.state.uplink.turn) := by
  cases a with
  | judge i =>
    show ((x.judge i w).state.uplink.flight, (x.judge i w).state.uplink.turn) = _
    unfold Closing.judge
    split
    · rfl
    · rw [State.judgeNode_uplink]
  | take f => simp [Closing.act]
  | shares => simp [Closing.act]
  | drops => simp [Closing.act]
  | duties c => simp [Closing.act]
  | deliveries => simp [Closing.act]
  | apply =>
    by_cases pending : x.state.mgmt.session.state = .commitPending
    · obtain ⟨sweep, applied⟩ := Closing.apply_parts pending k supply.dropFirst supply.lateDrops
      show ((x.apply k _ _).state.uplink.flight, (x.apply k _ _).state.uplink.turn) = _
      rw [applied]
      show ((State.applyItems ..).uplink.flight, (State.applyItems ..).uplink.turn) = _
      rw [State.applyItems_uplink]
    · rw [Closing.act_apply_noCommit pending]
  | beacon =>
    show (x.state.advanceBeacon.uplink.flight, x.state.advanceBeacon.uplink.turn) = _
    unfold State.advanceBeacon
    dsimp only
    split
    · rfl
    · split <;> rfl
  | proceed =>
    show ((State.afterClose _ k).uplink.flight, (State.afterClose _ k).uplink.turn) = _
    rw [State.afterClose_uplink]

theorem State.sweepClose_flight (s : State) (k : CloseKind) :
    (s.sweepClose k).uplink.flight = s.uplink.flight ∧ (s.sweepClose k).uplink.turn = s.uplink.turn := by
  have folded := Closing.foldActs_keeps (fun t => (t.uplink.flight, t.uplink.turn)) k s.sweep.number s.choice
    (Closing.act_flight _ _ _) (closeOrder s.choice.acts) { state := s.dropChoice.endCollection }
  obtain ⟨flight, turn⟩ := Prod.mk.inj folded
  unfold State.sweepClose
  rw [State.keepShares_uplink, State.takeShares_uplink]
  exact ⟨flight, turn⟩

/-- The sweep's record where a window expiry leaves the part QUIET (R7, R10). -/
def Sweep.quietAfter (w : Sweep) : Sweep := { w with state := .quiet, window := none, lastClosed := some w.number, waiting := none }

section

variable {s : State}

theorem State.endCollection_quiet : s.endCollection.becomeQuiet.sweep = s.sweep.quietAfter := rfl

theorem State.afterExpiry_stopped : (s.endCollection.afterClose (.expiry true)).sweep =
    { s.sweep.quietAfter with state := .stopped, oneShot := false, supervision := none } := rfl

theorem State.afterExpiry_inTrunk (trunk : s.settings.source = .trunk) :
    (s.endCollection.afterClose (.expiry false)).sweep = s.sweep.quietAfter := by
  show s.endCollection.becomeQuiet.periodTest.sweep = _
  rw [State.periodTest_inTrunk s.endCollection.becomeQuiet trunk]
  rfl

theorem State.afterExpiry_waits {t0 : Nat} (last : s.sweep.lastTrigger = some t0) (early : s.now - t0 < s.settings.period) :
    (s.endCollection.afterClose (.expiry false)).sweep = s.sweep.quietAfter := by
  have left : s.endCollection.becomeQuiet.periodLeft ≠ 0 := by
    unfold State.periodLeft
    rw [State.endCollection_quiet, show s.sweep.quietAfter.lastTrigger = some t0 from last]
    show s.settings.period - (s.now - t0) ≠ 0
    omega
  show s.endCollection.becomeQuiet.periodTest.sweep = _
  rw [State.periodTest_waits _ left]
  rfl

theorem State.afterExpiry_triggers (inLocal : s.settings.source = .localTimer)
    (passed : ∀ t0, s.sweep.lastTrigger = some t0 → s.settings.period ≤ s.now - t0) :
    (s.endCollection.afterClose (.expiry false)).sweep = { s.sweep.quietAfter with
      state := .collecting
      number := s.sweep.number + 1
      window := some s.settings.window
      lastTrigger := some s.now
      triggerStart := none
      waiting := if s.isUp .sg then some (s.sweep.number + 1) else none } := by
  have reached : s.endCollection.becomeQuiet.periodLeft = 0 := by
    unfold State.periodLeft
    rw [State.endCollection_quiet]
    cases last : s.sweep.lastTrigger with
    | none => rw [show s.sweep.quietAfter.lastTrigger = none from last]
    | some t0 =>
      rw [show s.sweep.quietAfter.lastTrigger = some t0 from last]
      exact Nat.sub_eq_zero_of_le (passed t0 last)
  show s.endCollection.becomeQuiet.periodTest.sweep = _
  rw [State.periodTest_triggers s.endCollection.becomeQuiet inLocal rfl reached]
  rfl

end

theorem State.afterClose_lastClosed (s : State) (k : CloseKind) : (s.afterClose k).sweep.lastClosed = s.sweep.lastClosed := by
  cases k with
  | expiry oneShot =>
    cases oneShot with
    | true => rfl
    | false =>
      show s.becomeQuiet.periodTest.sweep.lastClosed = _
      rcases s.becomeQuiet.periodTest_cases with same | triggered
      · rw [same]
        rfl
      · rw [triggered]
        rfl
  | stop => rfl
  | sync n => rfl

/-- Settles O19. -/
theorem windowExpiry : Obligations.WindowExpiry := by
  intro s w collecting window quiet
  have quiet' : (s.advance w).mgmt.session.state ≠ .commitPending := quiet
  obtain ⟨session, settings, nodeCfg, chanCfg⟩ := State.sweepClose_noCommit _ (.expiry s.sweep.oneShot) quiet'
  obtain ⟨flight, turn⟩ := State.sweepClose_flight (s.advance w) (.expiry s.sweep.oneShot)
  have sweep := State.sweepClose_sweep (.expiry s.sweep.oneShot) quiet'
  refine ⟨_, exec_windowExpiry collecting window, State.sweepClose_now .., ?_, settings, nodeCfg, chanCfg,
    State.sweepClose_links .., State.sweepClose_conf .., ?_, session, State.sweepClose_trunk .., flight, turn,
    State.sweepClose_inbox .., State.sweepClose_pending .., fun mark => ?_, fun h => ?_, fun noMark inLocal passed => ?_⟩
  · rw [sweep, State.afterClose_lastClosed]
    rfl
  · exact State.sweepClose_relay ..
  · rw [sweep, mark]
    exact ⟨rfl, rfl, rfl⟩
  · rw [sweep]
    cases mark : s.sweep.oneShot with
    | true => exact ⟨rfl, rfl, rfl, rfl, rfl, nofun⟩
    | false =>
      have quietly : ((s.advance w).endCollection.afterClose (.expiry false)).sweep = (s.advance w).sweep.quietAfter := by
        rcases h with marked | trunk | ⟨t0, last, early⟩
        · exact absurd (mark.symm.trans marked) nofun
        · exact State.afterExpiry_inTrunk (s := s.advance w) trunk
        · exact State.afterExpiry_waits (s := s.advance w) last early
      rw [quietly]
      exact ⟨rfl, rfl, rfl, rfl, rfl, fun _ => ⟨rfl, rfl⟩⟩
  · rw [sweep, noMark, State.afterExpiry_triggers (s := s.advance w) inLocal passed]
    exact ⟨rfl, rfl, rfl, rfl⟩

end Sys2Proof.Machine
end

section
/-! What a command leaves alone around the close that it makes. -/

namespace Sys2Proof.Machine

/-! ### A raise touches the latched occurrences, MQ and NOTICE_LOST alone (R177) -/

theorem State.raise_latch_fresh {s : State} {k : EventKind} (old : s.latch.latched[k.index] = none) (d : Byte) (w : Word) :
    (s.raise k d w).latch = { s.latch with latched := s.latch.latched.set k.index (some ⟨d, w⟩) } := by
  rw [s.raise_fresh k d w old]
  split
  · rw [latched_offerMq]
  · rfl

theorem State.raise_latch (s : State) (k : EventKind) (d : Byte) (w : Word) :
    (s.raise k d w).latch = { s.latch with latched := (s.raise k d w).latch.latched } := by
  cases old : s.latch.latched[k.index] with
  | some o => rw [s.raise_latched k d w o old]
  | none => rw [State.raise_latch_fresh old]

theorem State.raise_latched_other (s : State) {k other : EventKind} (differ : other ≠ k) (d : Byte) (w : Word) :
    (s.raise k d w).latch.latched[other.index] = s.latch.latched[other.index] := by
  cases old : s.latch.latched[k.index] with
  | some o => rw [s.raise_latched k d w o old]
  | none =>
    have apart : k.index.val ≠ other.index.val := fun same => differ (EventKind.number_inj (by
      unfold EventKind.number
      rw [same]))
    simp only [State.raise_latch_fresh old]
    exact Vector.getElem_set_ne _ _ apart

/-! ### What a command leaves alone before and after the close that it makes (R7, R12, R16) -/

/-- The parts that a sweep close reads and changes, its own sweep record and the slots of MQ apart. -/
structure SameParts (s t : State) : Prop where
  nodeCfg : t.nodeCfg = s.nodeCfg := by simp
  nodeRun : t.nodeRun = s.nodeRun := by simp
  chanCfg : t.chanCfg = s.chanCfg := by simp
  chanRun : t.chanRun = s.chanRun := by simp
  settings : t.settings = s.settings := by simp
  store : t.store = s.store := by simp
  uplink : t.uplink = s.uplink := by simp
  handed : t.handed = s.handed := by simp
  notices : t.notices = s.notices := by simp
  drops : t.drops = s.drops := by simp
  sessionState : t.mgmt.session.state = s.mgmt.session.state := by simp
  sessionItems : t.mgmt.session.items = s.mgmt.session.items := by simp
  beaconCount : t.latch.beaconCount = s.latch.beaconCount := by simp
  storeEmpty : t.latch.storeEmpty = s.latch.storeEmpty := by simp
  classDrop : t.latch.latched[EventKind.classDrop.index] = s.latch.latched[EventKind.classDrop.index] := by simp
  latched : ∀ k, Latched k s → Latched k t := by simp [Latched]
  items : ∀ i ∈ s.mgmt.items, i ∈ t.mgmt.items := by simp
  dropped : ∀ k, t.counter (.reportsDropped k) = s.counter (.reportsDropped k) := by exact fun _ => rfl

/-- With them, what a command beside the close leaves as it is. -/
structure Aside (s t : State) : Prop extends SameParts s t where
  sweep : t.sweep = s.sweep := by simp
  now : t.now = s.now := by simp
  links : t.links = s.links := by simp
  conf : t.conf = s.conf := by simp
  relay : t.relay = s.relay := by simp
  session : t.mgmt.session = s.mgmt.session := by simp
  own : t.trunk.own = s.trunk.own := by simp
  tqU : t.trunk.tqU = s.trunk.tqU := by simp
  tqN : t.trunk.tqN = s.trunk.tqN := by simp

theorem SameParts.trans {s t u : State} (a : SameParts s t) (b : SameParts t u) : SameParts s u where
  nodeCfg := b.nodeCfg.trans a.nodeCfg
  nodeRun := b.nodeRun.trans a.nodeRun
  chanCfg := b.chanCfg.trans a.chanCfg
  chanRun := b.chanRun.trans a.chanRun
  settings := b.settings.trans a.settings
  store := b.store.trans a.store
  uplink := b.uplink.trans a.uplink
  handed := b.handed.trans a.handed
  notices := b.notices.trans a.notices
  drops := b.drops.trans a.drops
  sessionState := b.sessionState.trans a.sessionState
  sessionItems := b.sessionItems.trans a.sessionItems
  beaconCount := b.beaconCount.trans a.beaconCount
  storeEmpty := b.storeEmpty.trans a.storeEmpty
  classDrop := b.classDrop.trans a.classDrop
  latched k h := b.latched k (a.latched k h)
  items i h := b.items i (a.items i h)
  dropped k := (b.dropped k).trans (a.dropped k)

namespace Aside

variable {s t u : State}

theorem refl (s : State) : Aside s s where

theorem trans (a : Aside s t) (b : Aside t u) : Aside s u :=
  { a.toSameParts.trans b.toSameParts with
    sweep := b.sweep.trans a.sweep
    now := b.now.trans a.now
    links := b.links.trans a.links
    conf := b.conf.trans a.conf
    relay := b.relay.trans a.relay
    session := b.session.trans a.session
    own := b.own.trans a.own
    tqU := b.tqU.trans a.tqU
    tqN := b.tqN.trans a.tqN }

theorem inbox (i : Inbox) : Aside s { s with inbox := i } where

theorem dropChoice : Aside s s.dropChoice where

theorem count {c : Counter} (other : ∀ k, c ≠ .reportsDropped k) : Aside s (s.count c) where
  dropped k := by rw [State.counter_count, if_neg (other k).symm]

theorem raise {k : EventKind} (other : k ≠ .classDrop) (d : Byte) (w : Word) : Aside s (s.raise k d w) where
  beaconCount := by rw [State.raise_latch]
  storeEmpty := by rw [State.raise_latch]
  classDrop := State.raise_latched_other s other.symm d w
  latched k' h := latched_raise k' s k d w h
  items i h := by
    obtain ⟨notices, -, mgmt⟩ := s.raise_mgmt k d w
    rw [mgmt]
    exact List.mem_append_left _ h
  dropped k' := State.raise_counter s k d w nofun

theorem forwardOffer (f : TrunkFrame) : Aside s (s.forwardOffer f) := by
  unfold State.forwardOffer
  split
  · exact {}
  · exact (count (c := .forwardDrop) nofun).trans (raise (k := .forwardDrop) nofun _ _)

theorem tookRequest (code : Byte) (r : Request) : Aside s (s.tookRequest code r) := inbox _

theorem reserve (tag code : Byte) : Aside s (s.reserve tag code) where

theorem respond (tag code : Byte) (st : Status) (res : List Byte) : Aside s (s.respond tag code st res) where
  items i h := by
    unfold State.respond
    split
    · exact List.mem_append_left _ h
    · exact h
  dropped k := by
    unfold State.respond
    split <;> rfl

end Aside

theorem SameParts.advance (s : State) (dt : Nat) : SameParts s (s.advance dt) :=
  ⟨rfl, rfl, rfl, rfl, rfl, rfl, rfl, rfl, rfl, rfl, rfl, rfl, rfl, rfl, rfl, fun _ h => h, fun _ h => h, fun _ => rfl⟩

/-- With them, what the Dispatcher leaves as it is when it routes and forwards frames (R136, R142). -/
structure Passed (s t : State) : Prop extends Aside s t where
  reserved : t.mgmt.reserved = s.mgmt.reserved := by simp
  choices : t.choices = s.choices := by simp

namespace Passed

variable {s t u : State}

theorem refl (s : State) : Passed s s where

theorem trans (a : Passed s t) (b : Passed t u) : Passed s u :=
  { a.toAside.trans b.toAside with
    reserved := b.reserved.trans a.reserved
    choices := b.choices.trans a.choices }

theorem inbox (i : Inbox) : Passed s { s with inbox := i } where

theorem forwardOffer (f : TrunkFrame) : Passed s (s.forwardOffer f) := { Aside.forwardOffer f with }

/-- What arrived behind a frame with a command of its own is routed (R136). -/
theorem drain : Passed s s.drain :=
  State.drain_law (law := Passed s) (fun _ i h => h.trans (inbox i)) (fun _ f h => h.trans (forwardOffer f)) s (refl s)

end Passed

/-! ### The commands that close a sweep, each around the one close that it makes (R7, R12, R16) -/

/-- `c` makes on `s` the close `k`, beginning it in `a`, and ends in `t`. -/
structure ClosesBy (c : Instr) (s a : State) (k : CloseKind) (t : State) : Prop where
  run : exec c s = .next t
  before : SameParts s a
  after : SameParts (a.sweepClose k) t
  choice : a.choice = closeSupply c s
  number : a.sweep.number = s.sweep.number
  sweep : t.sweep = (a.sweepClose k).sweep
  session : t.mgmt.session = (a.sweepClose k).mgmt.session
  slots : ∃ extra, a.mgmt.reserved = extra ++ s.mgmt.reserved ∧ (∀ e ∈ extra, e.code ≠ 22) ∧
    ∀ rest, (a.sweepClose k).mgmt.reserved = extra ++ rest → t.mgmt.reserved = rest
  expiry : c = .windowExpiry → k = .expiry s.sweep.oneShot
  sync : ∀ h n, c = .sync h n → k = .sync n
  stop : ∀ r, c = .stopSweeps r → k = .stop

theorem slots_none {s a x t : State} (before : a.mgmt.reserved = s.mgmt.reserved) (after : t.mgmt.reserved = x.mgmt.reserved) :
    ∃ extra, a.mgmt.reserved = extra ++ s.mgmt.reserved ∧ (∀ e ∈ extra, Reservation.code e ≠ 22) ∧
      ∀ rest, x.mgmt.reserved = extra ++ rest → t.mgmt.reserved = rest :=
  ⟨[], before, nofun, fun _ h => after.trans h⟩

section

variable {s : State}

theorem closesBy_windowExpiry {w : Nat} (collecting : s.sweep.state = .collecting) (window : s.sweep.window = some w) :
    ClosesBy .windowExpiry s (s.advance w) (.expiry s.sweep.oneShot) ((s.advance w).sweepClose (.expiry s.sweep.oneShot)) where
  run := exec_windowExpiry collecting window
  before := SameParts.advance s w
  after := (Aside.refl _).toSameParts
  choice := rfl
  number := rfl
  sweep := rfl
  session := rfl
  slots := slots_none rfl rfl
  expiry _ := rfl
  sync := nofun
  stop := nofun

theorem closesBy_stopSweeps_broadcast {r : Request} (collecting : s.sweep.state = .collecting) (broadcast : r.broadcast = true)
    (empty : r.fields = []) (assigned : s.trunk.own ≠ 0) (noReset : s.mgmt.resetPending = none) :
    ClosesBy (.stopSweeps r) s (s.tookRequest 11 r) .stop ((s.tookRequest 11 r).sweepClose .stop) where
  run := exec_eq (stopSweeps_broadcast broadcast empty assigned noReset)
    ((s.tookRequest 11 r).stopSweeps_collecting collecting)
  before := (Aside.tookRequest 11 r).toSameParts
  after := (Aside.refl _).toSameParts
  choice := rfl
  number := rfl
  sweep := rfl
  session := rfl
  slots := slots_none rfl rfl
  expiry := nofun
  sync := nofun
  stop _ _ := rfl

theorem closesBy_stopSweeps {r : Request} (collecting : s.sweep.state = .collecting) (admits : s.admits r)
    (empty : r.fields = []) :
    ClosesBy (.stopSweeps r) s ((s.tookRequest 11 r).reserve r.tag 11) .stop
      ((((s.tookRequest 11 r).reserve r.tag 11).sweepClose .stop).respond r.tag 11 .ok []) where
  run := exec_admitted_of (c := .stopSweeps r) rfl admits ((hasFields_zero_iff r).mpr empty)
    (congrArg (·, okAnswer) (State.stopSweeps_collecting (s := (s.tookRequest 11 r).reserve r.tag 11) collecting))
  before := ((Aside.tookRequest 11 r).trans (Aside.reserve r.tag 11)).toSameParts
  after := (Aside.respond r.tag 11 .ok []).toSameParts
  choice := rfl
  number := rfl
  sweep := (Aside.respond r.tag 11 .ok []).sweep
  session := (Aside.respond r.tag 11 .ok []).session
  slots := ⟨[⟨r.tag, 11⟩], rfl, fun e h => by
    rw [List.mem_singleton.mp h]
    show (11 : Byte) ≠ 22
    decide, fun rest slots => by rw [State.respond_first _ _ _ _ _ rest slots]⟩
  expiry := nofun
  sync := nofun
  stop _ _ := rfl

/-- The SYNC_GAP test of a SYNC (R13). -/
def State.testedSync (s : State) (n : Word) : State := if n = s.sweep.number + 1 then s else s.raiseNow .syncGap 0

theorem Passed.testedSync (n : Word) : Passed s (s.testedSync n) := by
  unfold State.testedSync
  split
  · exact Passed.refl s
  · exact { Aside.raise (k := .syncGap) nofun 0 s.sweep.number with }

theorem State.testedSync_gap {n : Word} (gap : n ≠ s.sweep.number + 1) : Latched .syncGap (s.testedSync n) := by
  unfold State.testedSync
  rw [if_neg gap]
  unfold Latched State.raiseNow
  rw [State.raise_isLatched]
  rfl

theorem State.takeSync_ignored {n : Word} (ignores : s.settings.source = .localTimer ∨ s.sweep.state = .stopped) :
    s.takeSync n = s := by
  unfold State.takeSync
  split
  · rfl
  · next trunk =>
    rcases ignores with inLocal | stopped
    · exact absurd inLocal trunk
    · rw [stopped]

theorem State.takeSync_quiet {n : Word} (trunk : s.settings.source = .trunk) (quiet : s.sweep.state = .quiet) :
    s.takeSync n = (s.testedSync n).trigger n := by
  unfold State.takeSync
  rw [if_neg (by rw [trunk]; exact nofun), quiet]
  rfl

theorem State.takeSync_collecting {n : Word} (trunk : s.settings.source = .trunk) (collecting : s.sweep.state = .collecting) :
    s.takeSync n = (s.testedSync n).sweepClose (.sync n) := by
  unfold State.takeSync
  rw [if_neg (by rw [trunk]; exact nofun), collecting]
  rfl

/-- The frame has left the arrivals, and the supply of choices is the close's (R12, R136). -/
def State.tookSync (s : State) (f : TrunkFrame) : State :=
  { s.dropChoice with inbox := { s.inbox with tu := dropHead f s.inbox.tu } }

/-- SYNC in COLLECTING: the close begins with the frame taken, forwarded before it or after it (R12, R13, R136). -/
theorem sync_closes (h : TrunkHeader) (n : Word) (trunk : s.settings.source = .trunk) (collecting : s.sweep.state = .collecting) :
    ∃ a t, exec (.sync h n) s = .next t ∧ Passed s.dropChoice a ∧ Passed (a.sweepClose (.sync n)) t ∧
      (n ≠ s.sweep.number + 1 → Latched .syncGap a) := by
  obtain ⟨f, frame⟩ : ∃ f, f = syncFrame h n := ⟨_, rfl⟩
  have run : exec (.sync h n) s = .next (if s.choice.forwardFirst then ((s.tookSync f).forwardOffer f).takeSync n
      else ((s.tookSync f).takeSync n).forwardOffer f).drain := by
    rw [frame]
    rfl
  have took : Passed s.dropChoice (s.tookSync f) := Passed.inbox _
  have closes : ∀ x, Passed s.dropChoice x → x.takeSync n = (x.testedSync n).sweepClose (.sync n) ∧
      Passed s.dropChoice (x.testedSync n) ∧ (n ≠ s.sweep.number + 1 → Latched .syncGap (x.testedSync n)) := fun x passed =>
    ⟨State.takeSync_collecting (by rw [passed.settings]; exact trunk) (by rw [passed.sweep]; exact collecting),
      passed.trans (Passed.testedSync n), fun gap => State.testedSync_gap (by rw [passed.sweep]; exact gap)⟩
  by_cases first : s.choice.forwardFirst = true
  · obtain ⟨same, begun, gap⟩ := closes _ (took.trans (Passed.forwardOffer f))
    rw [if_pos first, same] at run
    exact ⟨_, _, run, begun, Passed.drain, gap⟩
  · obtain ⟨same, begun, gap⟩ := closes _ took
    rw [if_neg first, same] at run
    exact ⟨_, _, run, begun, (Passed.forwardOffer f).trans Passed.drain, gap⟩

theorem closesBy_sync {h : TrunkHeader} {n : Word} {a t : State} (run : exec (.sync h n) s = .next t)
    (begun : Passed s.dropChoice a) (ended : Passed (a.sweepClose (.sync n)) t) : ClosesBy (.sync h n) s a (.sync n) t where
  run := run
  before := (Aside.dropChoice.trans begun.toAside).toSameParts
  after := ended.toAside.toSameParts
  choice := by rw [State.choice, begun.choices]; rfl
  number := by rw [begun.sweep]; rfl
  sweep := ended.sweep
  session := ended.session
  slots := slots_none begun.reserved ended.reserved
  expiry := nofun
  sync h' n' same := by
    obtain ⟨-, rfl⟩ := Instr.sync.inj same
    rfl
  stop := nofun

/-- Every command that closes the sweep makes one close. -/
theorem closesBy_of_closesSweep {c : Instr} (closes : ClosesSweep c s) : ∃ a k t, ClosesBy c s a k t := by
  obtain ⟨collecting, ⟨rfl, window⟩ | ⟨r, rfl, empty, noReset, ⟨addressed, room⟩ | ⟨broadcast, assigned⟩⟩ | ⟨h, n, rfl, trunk⟩⟩ :=
    closes
  · obtain ⟨w, window⟩ := Option.isSome_iff_exists.mp window
    exact ⟨_, _, _, closesBy_windowExpiry collecting window⟩
  · exact ⟨_, _, _, closesBy_stopSweeps collecting ⟨addressed, room, noReset⟩ empty⟩
  · exact ⟨_, _, _, closesBy_stopSweeps_broadcast collecting broadcast empty assigned noReset⟩
  · obtain ⟨a, t, run, begun, ended, -⟩ := sync_closes h n trunk collecting
    exact ⟨_, _, _, closesBy_sync run begun ended⟩

end

end Sys2Proof.Machine
end

section
/-! SYNC. -/

namespace Sys2Proof.Machine

/-! ### What is latched stays latched in a close (R177) -/

theorem Closing.act_latched {e : EventKind} {k : CloseKind} {w : Word} {supply : Choice} (x : Closing) (a : CloseAct)
    (h : Latched e x.state) : Latched e (Closing.act k w supply x a).state := by
  by_cases isApply : a = .apply
  · subst isApply
    by_cases pending : x.state.mgmt.session.state = .commitPending
    · obtain ⟨sweep, applied⟩ := Closing.apply_parts pending k supply.dropFirst supply.lateDrops
      show Latched e (x.apply k _ _).state
      rw [applied]
      show ((State.applyItems _ _ _ _).latch.latched[e.index]).isSome = true
      simp only [State.applyItems_latched]
      exact h
    · rw [Closing.act_apply_noCommit pending]
      exact h
  · by_cases isProceed : a = .proceed
    · subst isProceed
      show ((State.afterClose _ k).latch.latched[e.index]).isSome = true
      simp only [State.afterClose_latch]
      exact h
    · exact (latched_takes e).act k w supply x a isApply isProceed h

theorem State.sweepClose_latched {e : EventKind} {s : State} (k : CloseKind) (h : Latched e s) : Latched e (s.sweepClose k) :=
  State.sweepClose_claim (claim := fun _ x => Latched e x.state) (result := Latched e) h
    (fun a _ _ _ => Closing.act_latched _ a)
    (fun _ hx => (latched_takes e).notices _ _ ((latched_takes e).takeShares _ _ _ hx))

/-! ### SYNC (R9, R12, R13, R136) -/

section

variable {s : State} {h : TrunkHeader} {n : Word}

/-- A sweep triggered by a SYNC (R3, R12, R14). -/
def Sweep.synced (w : Sweep) (s : State) (n : Word) : Sweep := { w with
  state := .collecting
  number := n
  window := some s.settings.window
  lastTrigger := some s.now
  triggerStart := none
  supervision := some (2 * s.settings.period)
  waiting := if s.isUp .sg then some n else none }

theorem State.trigger_inTrunk (trunk : s.settings.source = .trunk) : s.trigger n = { s with sweep := s.sweep.synced s n } := by
  unfold State.trigger
  rw [if_pos trunk]
  rfl

theorem State.takeSync_inbox (x : State) (n : Word) : (x.takeSync n).inbox = x.inbox := by
  unfold State.takeSync
  split
  · rfl
  · dsimp only
    have tested : (x.testedSync n).inbox = x.inbox := by
      unfold State.testedSync
      split
      · rfl
      · exact State.raiseNow_inbox ..
    split
    · rfl
    · exact tested
    · exact (State.sweepClose_inbox ..).trans tested

theorem State.testedSync_next (next : n = s.sweep.number + 1) : s.testedSync n = s := if_pos next

theorem State.testedSync_raises (gap : n ≠ s.sweep.number + 1) : s.testedSync n = s.raise .syncGap 0 s.sweep.number := if_neg gap

theorem State.testedSync_withTrunk (s : State) (n : Word) (t : Trunk) :
    ({ s with trunk := t } : State).testedSync n = { s.testedSync n with trunk := t } := by
  by_cases next : n = s.sweep.number + 1
  · rw [State.testedSync_next next, State.testedSync_next (s := { s with trunk := t }) next]
  · rw [State.testedSync_raises next, State.testedSync_raises (s := { s with trunk := t }) next]
    exact s.raise_withTrunk _ _ _ t

theorem Passed.synced {a : State} (passed : Passed s a) (n : Word) : a.sweep.synced a n = s.sweep.synced s n := by
  unfold Sweep.synced
  rw [passed.sweep, passed.settings, passed.now, State.isUp_eq passed.links]

/-- The trigger of a SYNC, after its test (R12, R13). -/
theorem State.testedSync_trigger (trunk : s.settings.source = .trunk) (n : Word) :
    (s.testedSync n).trigger n = { s.testedSync n with sweep := s.sweep.synced s n } := by
  have passed := Passed.testedSync (s := s) n
  rw [State.trigger_inTrunk (by rw [passed.settings]; exact trunk), passed.synced]

/-- The only frame that waits is taken and joins DFQ (R136, R142). -/
def State.forwardedSync (s : State) (h : TrunkHeader) (n : Word) : State :=
  { s with
    choices := s.choices.tail
    inbox := { s.inbox with tu := [] }
    trunk := { s.trunk with dfq := s.trunk.dfq ++ [⟨0x13, h.flags, h.dest, h.src, be16 n.toNat⟩] } }

theorem exec_sync_only (only : s.inbox.tu = [⟨0x13, h.flags, h.dest, h.src, be16 n.toNat⟩]) : exec (.sync h n) s =
    .next (if s.choice.forwardFirst then
        (s.tookFrame.forwardOffer ⟨0x13, h.flags, h.dest, h.src, be16 n.toNat⟩).takeSync n
      else (s.tookFrame.takeSync n).forwardOffer ⟨0x13, h.flags, h.dest, h.src, be16 n.toNat⟩) :=
  exec_eq rfl (State.takeStep_forward only fun x => x.takeSync_inbox n)

section

variable (only : s.inbox.tu = [⟨0x13, h.flags, h.dest, h.src, be16 n.toNat⟩]) (up : s.isUp .td = true)
  (room : s.trunk.dfq.length < 16)
include only up room

theorem exec_sync_ignored (ignores : s.settings.source = .localTimer ∨ s.sweep.state = .stopped) :
    exec (.sync h n) s = .next (s.forwardedSync h n) := by
  have joins := State.forwardOffer_joins s.tookFrame ⟨0x13, h.flags, h.dest, h.src, be16 n.toNat⟩ up room
  rw [exec_sync_only only, joins, State.takeSync_ignored (s := s.tookFrame) ignores, State.takeSync_ignored, ite_eq_left_iff.mpr]
  · rfl
  · exact fun _ => joins
  · exact ignores

theorem exec_sync_quiet (trunk : s.settings.source = .trunk) (quiet : s.sweep.state = .quiet) :
    exec (.sync h n) s = .next { (s.forwardedSync h n).testedSync n with sweep := s.sweep.synced s n } := by
  rw [exec_sync_only only]
  split
  · rw [State.forwardOffer_joins s.tookFrame _ up room]
    show Host.Outcome.next ((s.forwardedSync h n).takeSync n) = _
    rw [State.takeSync_quiet (s := s.forwardedSync h n) trunk quiet,
      State.testedSync_trigger (s := s.forwardedSync h n) trunk]
    rfl
  · have passed := Passed.testedSync (s := s.tookFrame) n
    have dfq : (s.tookFrame.testedSync n).trunk = s.trunk := by
      unfold State.testedSync
      split
      · rfl
      · exact State.raiseNow_trunk ..
    rw [State.takeSync_quiet (s := s.tookFrame) trunk quiet, State.testedSync_trigger (s := s.tookFrame) trunk,
      State.forwardOffer_joins]
    · have same := State.testedSync_withTrunk s.tookFrame n
        { s.trunk with dfq := s.trunk.dfq ++ [⟨0x13, h.flags, h.dest, h.src, be16 n.toNat⟩] }
      have after : (s.forwardedSync h n).testedSync n = { s.tookFrame.testedSync n with
          trunk := { s.trunk with dfq := s.trunk.dfq ++ [⟨0x13, h.flags, h.dest, h.src, be16 n.toNat⟩] } } := same
      rw [after]
      dsimp only
      rw [dfq]
      rfl
    · exact (State.isUp_eq passed.links .td).trans up
    · show (s.tookFrame.testedSync n).trunk.dfq.length < 16
      rw [dfq]
      exact room

end

/-- Settles O17. -/
theorem syncTakenOrForcesClose : Obligations.SyncTakenOrForcesClose := by
  refine ⟨fun h n s only up room => ⟨s.forwardedSync h n, rfl, exec_sync_ignored only up room, fun trunk quiet =>
    ⟨s.sweep.synced s n, rfl, fun next => ?_, fun gap => ?_⟩⟩, fun h n s trunk collecting quiet => ?_⟩
  · rw [exec_sync_quiet only up room trunk quiet, State.testedSync_next (s := s.forwardedSync h n) next]
  · rw [exec_sync_quiet only up room trunk quiet, State.testedSync_raises (s := s.forwardedSync h n) gap]
    rfl
  · obtain ⟨a, t, run, begun, ended, gap⟩ := sync_closes h n trunk collecting
    have quiet' : a.mgmt.session.state ≠ .commitPending := by
      rw [begun.session]
      exact quiet
    obtain ⟨session, settings, nodeCfg, chanCfg⟩ := State.sweepClose_noCommit a (.sync n) quiet'
    obtain ⟨flight, turn⟩ := State.sweepClose_flight a (.sync n)
    have sweep := State.sweepClose_sweep (.sync n) quiet'
    have triggered : (a.endCollection.afterClose (.sync n)).sweep = a.endCollection.sweep.synced a n := by
      show (a.endCollection.trigger n).sweep = _
      rw [State.trigger_inTrunk (s := a.endCollection) (begun.settings ▸ trunk)]
      rfl
    refine ⟨t, run, ?_, fun n' => ended.latched _ (State.sweepClose_latched _ (gap n')), ?_, ?_, ?_, ?_, ?_, ?_, ?_, ?_, ?_, ?_,
      ?_, ?_, ?_⟩
    · rw [ended.sweep, sweep, triggered]
      unfold State.endCollection Sweep.synced
      rw [begun.sweep, begun.settings, begun.now, State.isUp_eq begun.links]
      rfl
    · rw [ended.settings, settings, begun.settings]; rfl
    · rw [ended.nodeCfg, nodeCfg, begun.nodeCfg]; rfl
    · rw [ended.chanCfg, chanCfg, begun.chanCfg]; rfl
    · rw [ended.now, State.sweepClose_now, begun.now]; rfl
    · rw [ended.links, State.sweepClose_links, begun.links]; rfl
    · rw [ended.conf, State.sweepClose_conf, begun.conf]; rfl
    · rw [ended.relay, State.sweepClose_relay, begun.relay]; rfl
    · rw [ended.session, session, begun.session]; rfl
    · rw [ended.own, State.sweepClose_trunk, begun.own]; rfl
    · rw [ended.tqU, State.sweepClose_trunk, begun.tqU]; rfl
    · rw [ended.tqN, State.sweepClose_trunk, begun.tqN]; rfl
    · rw [ended.uplink, flight, begun.uplink]; rfl
    · rw [ended.uplink, turn, begun.uplink]; rfl

end

end Sys2Proof.Machine
end

section
/-! The judgement of nodes and the beacon count at a close with no commit pending. -/

namespace Sys2Proof.Machine

/-! ### A close with no commit pending (R8, R31) -/

/-- No commit is pending in the close: it changes no table, no setting and no plan, so every node entry is judged. -/
structure NoApply (s : State) (x : Closing) : Prop where
  session : x.state.mgmt.session.state ≠ .commitPending
  settings : x.state.settings = s.settings
  nodeCfg : x.state.nodeCfg = s.nodeCfg
  chanCfg : x.state.chanCfg = s.chanCfg
  plan : x.plan = {}

theorem NoApply.act {s : State} {x : Closing} (h : NoApply s x) (k : CloseKind) (w : Word) (supply : Choice) (a : CloseAct) :
    NoApply s (Closing.act k w supply x a) := by
  obtain ⟨session, settings, nodes, channels, plan⟩ := Closing.act_noCommit k w supply x a h.session
  exact ⟨by rw [session]; exact h.session, settings.trans h.settings, nodes.trans h.nodeCfg, channels.trans h.chanCfg,
    plan.trans h.plan⟩

theorem NoApply.start {s : State} (quiet : s.mgmt.session.state ≠ .commitPending) :
    NoApply s { state := s.dropChoice.endCollection } := ⟨quiet, rfl, rfl, rfl, rfl⟩

theorem NoApply.apply {s : State} {x : Closing} (h : NoApply s x) (k : CloseKind) (w : Word) (supply : Choice) :
    Closing.act k w supply x .apply = x := Closing.act_apply_noCommit h.session

theorem NoApply.judge {s : State} {x : Closing} (h : NoApply s x) (k : CloseKind) (w : Word) (supply : Choice) (i : Fin 24) :
    (Closing.act k w supply x (.judge i)).state = x.state.judgeNode i w := by
  refine congrArg Closing.state (if_neg ?_ : x.judge i w = { x with state := x.state.judgeNode i w })
  rw [h.plan]
  exact List.not_mem_nil

/-- A close with no commit pending, divided in two by an act. -/
theorem State.sweepClose_turn_noApply {s : State} {k : CloseKind} {a : CloseAct}
    (quiet : s.mgmt.session.state ≠ .commitPending) (comesOnce : a.again = false)
    {before after result : State → Prop} (start : before s.dropChoice.endCollection)
    (first : ∀ x b, NoApply s x → b ≠ a → before x.state → before (Closing.act k s.sweep.number s.choice x b).state)
    (turn : ∀ x, NoApply s x → before x.state → after (Closing.act k s.sweep.number s.choice x a).state)
    (last : ∀ x b, NoApply s x → b ≠ a → after x.state → after (Closing.act k s.sweep.number s.choice x b).state)
    (finish : ∀ x, after x → result ((x.takeShares s.choice.late []).keepShares [])) :
    result (s.sweepClose k) :=
  State.sweepClose_turn (a := a) comesOnce (before := fun x => NoApply s x ∧ before x.state)
    (after := fun x => NoApply s x ∧ after x.state) ⟨NoApply.start quiet, start⟩
    (fun x b other ⟨h, hx⟩ => ⟨h.act .., first x b h other hx⟩) (fun x ⟨h, hx⟩ => ⟨h.act .., turn x h hx⟩)
    (fun x b other ⟨h, hx⟩ => ⟨h.act .., last x b h other hx⟩)
    (fun x ⟨h, hx⟩ => by rw [h.plan]; exact finish x.state hx)

/-! ### The judgement of a node entry (R29, R30, R32) -/

/-- The record of a node entry after its judgement. -/
def State.judgedRun (s : State) (i : Fin 24) : NodeRuntime :=
  if s.nodeCfg[i].enabled = false then s.nodeRun[i]
  else if s.nodeRun[i].responded = true then { s.nodeRun[i] with presence := .present, misses := 0, responded := false }
  else { s.nodeRun[i] with
    misses := min 15 (s.nodeRun[i].misses + 1)
    presence :=
      if s.nodeRun[i].presence = .absent then .absent
      else if s.nodeCfg[i].required = true ∧ s.settings.absentLimit ≤ min 15 (s.nodeRun[i].misses + 1) then .absent
      else .missing }

theorem NodeRuntime.goesAbsent_iff (r : NodeRuntime) (required : Bool) (limit : Nat) :
    r.goesAbsent required limit = true ↔ r.presence ≠ .absent ∧ required = true ∧ limit ≤ min 15 (r.misses + 1) := by
  unfold NodeRuntime.goesAbsent NodeRuntime.missed
  rw [Bool.and_eq_true, Bool.and_eq_true, bne_iff_ne, decide_eq_true_eq, and_assoc]

theorem State.losesNode_iff (s : State) (i : Fin 24) : s.losesNode i ↔ s.nodeCfg[i].enabled = true ∧
    s.nodeRun[i].responded = false ∧ s.nodeRun[i].goesAbsent s.nodeCfg[i].required s.settings.absentLimit = true := by
  rw [NodeRuntime.goesAbsent_iff]
  unfold State.losesNode
  tauto

/-- The judgement of an entry that the close makes ABSENT raises NODE_LOST and sends the notices (R32). -/
theorem State.judgeNode_loses {s : State} {i : Fin 24} (loses : s.losesNode i) (w : Word) : s.judgeNode i w =
    ((s.setNodeRun i (s.judgedRun i)).raise .nodeLost (byteOf s.nodeCfg[i].address) w).sendLoss s.nodeCfg[i] w := by
  obtain ⟨enabled, required, silent, present, limit⟩ := id loses
  obtain ⟨-, -, absent⟩ := (s.losesNode_iff i).mp loses
  unfold State.judgeNode State.judgedRun NodeRuntime.missed
  rw [required] at absent
  simp only [enabled, silent, present, absent, required, limit, Bool.not_true, Bool.false_eq_true, Bool.true_eq_false,
    reduceIte, and_self]

/-- The judgement of any other entry replaces its record alone. -/
theorem State.judgeNode_keeps {s : State} {i : Fin 24} (stays : ¬ s.losesNode i) (w : Word) :
    s.judgeNode i w = s.setNodeRun i (s.judgedRun i) := by
  unfold State.judgeNode State.judgedRun NodeRuntime.missed
  cases enabled : s.nodeCfg[i].enabled with
  | false =>
    simp only [enabled, Bool.not_false, reduceIte]
    have same : s.nodeRun.set i.val s.nodeRun[i.val] = s.nodeRun := Vector.set_getElem_self _
    exact congrArg (fun run => { s with nodeRun := run }) same.symm
  | true =>
    cases responded : s.nodeRun[i].responded with
    | true => simp only [enabled, responded, Bool.not_true, Bool.false_eq_true, Bool.true_eq_false, reduceIte]
    | false =>
      simp only [enabled, responded, Bool.not_true, Bool.false_eq_true, Bool.true_eq_false, reduceIte]
      by_cases absent : s.nodeRun[i].presence = .absent
      · simp only [absent, reduceIte]
      · have notLost : ¬ s.nodeRun[i].goesAbsent s.nodeCfg[i].required s.settings.absentLimit = true := fun goes =>
          stays ((s.losesNode_iff i).mpr ⟨enabled, responded, goes⟩)
        have below : ¬ (s.nodeCfg[i].required = true ∧ s.settings.absentLimit ≤ min 15 (s.nodeRun[i].misses + 1)) :=
          fun both => notLost ((NodeRuntime.goesAbsent_iff ..).mpr ⟨absent, both⟩)
        simp only [if_neg absent, if_neg below, if_neg notLost]

theorem State.judgeNode_nodeRun (s : State) (i : Fin 24) (w : Word) :
    (s.judgeNode i w).nodeRun = s.nodeRun.set i (s.judgedRun i) := by
  by_cases loses : s.losesNode i
  · rw [State.judgeNode_loses loses, State.sendLoss_nodeRun, State.raise_nodeRun, State.setNodeRun_nodeRun]
  · rw [State.judgeNode_keeps loses, State.setNodeRun_nodeRun]

/-- An act of a close that is neither the judgement of the entry nor the apply leaves its record. -/
theorem Closing.act_nodeRun {k : CloseKind} {w : Word} {supply : Choice} (x : Closing) {a : CloseAct} {i : Fin 24}
    (notJudge : a ≠ .judge i) (notApply : a ≠ .apply) :
    (Closing.act k w supply x a).state.nodeRun[i] = x.state.nodeRun[i] := by
  cases a with
  | judge j =>
    have other : j.val ≠ i.val := fun same => notJudge (congrArg CloseAct.judge (Fin.ext same))
    show (x.judge j w).state.nodeRun[i] = _
    unfold Closing.judge
    split
    · rfl
    · simp only [State.judgeNode_nodeRun]
      exact Vector.getElem_set_ne _ _ other
  | apply => exact absurd rfl notApply
  | take f => simp [Closing.act]
  | shares => simp [Closing.act]
  | drops => simp [Closing.act]
  | duties c => simp [Closing.act]
  | deliveries => simp [Closing.act]
  | beacon => simp [Closing.act]
  | proceed => simp [Closing.act]

/-- A close with no commit pending judges every entry once, as the part stands at its start (R29, R30). -/
theorem State.sweepClose_judges {s : State} (k : CloseKind) (quiet : s.mgmt.session.state ≠ .commitPending) (i : Fin 24) :
    (s.sweepClose k).nodeRun[i] = s.judgedRun i := by
  have keeps : ∀ {r x b}, NoApply s x → b ≠ CloseAct.judge i → x.state.nodeRun[i] = r →
      (Closing.act k s.sweep.number s.choice x b).state.nodeRun[i] = r := by
    intro r x b h other same
    by_cases isApply : b = .apply
    · subst isApply
      rw [h.apply]
      exact same
    · rw [Closing.act_nodeRun x other isApply]
      exact same
  refine State.sweepClose_turn_noApply (a := .judge i) quiet rfl (before := fun x => x.nodeRun[i] = s.nodeRun[i])
    (after := fun x => x.nodeRun[i] = s.judgedRun i) (result := fun x => x.nodeRun[i] = s.judgedRun i) rfl
    (fun x b h other same => keeps h other same) (fun x h same => ?_) (fun x b h other same => keeps h other same)
    (fun x same => by simpa using same)
  rw [h.judge]
  simp only [State.judgeNode_nodeRun]
  refine (Vector.getElem_set_self _).trans ?_
  unfold State.judgedRun
  rw [same, h.nodeCfg, h.settings]

/-- A node that this close makes ABSENT is told by NODE_LOST (R32). -/
theorem State.sweepClose_nodeLost {s : State} (k : CloseKind) (quiet : s.mgmt.session.state ≠ .commitPending) {i : Fin 24}
    (loses : s.losesNode i) : Latched .nodeLost (s.sweepClose k) := by
  refine State.sweepClose_turn_noApply (a := .judge i) quiet rfl (before := fun x => x.nodeRun[i] = s.nodeRun[i])
    (after := Latched .nodeLost) (result := Latched .nodeLost) rfl
    (fun x b h other same => ?_) (fun x h same => ?_) (fun x b _ _ => Closing.act_latched x b)
    (fun _ hx => (latched_takes _).notices _ _ ((latched_takes _).takeShares _ _ _ hx))
  · by_cases isApply : b = .apply
    · subst isApply
      rw [h.apply]
      exact same
    · rw [Closing.act_nodeRun x other isApply]
      exact same
  · have lost : x.state.losesNode i := by
      unfold State.losesNode
      rw [same, h.nodeCfg, h.settings]
      exact loses
    rw [h.judge, State.judgeNode_loses lost]
    unfold Latched
    rw [State.sendLoss_latch, State.raise_isLatched]
    rfl

/-! ### The beacon count of a close (R185) -/

/-- The beacon count and the flag of a beacon that waits. -/
def State.beacon (s : State) : Nat × Bool := (s.latch.beaconCount, s.uplink.beaconPending)

theorem State.raise_beacon (s : State) (k : EventKind) (d : Byte) (w : Word) : (s.raise k d w).beacon = s.beacon := by
  unfold State.beacon
  rw [State.raise_latch, State.raise_uplink]

theorem State.offer_beacon (s : State) (r : Report) : (s.offer r).beacon = s.beacon := by
  rcases s.offer_cases r with ⟨-, -, answer⟩ | ⟨head, rest, -, answer⟩ | answer <;> rw [answer]
  · unfold State.admitReport
    dsimp only
    split
    · exact State.raise_beacon ..
    · rfl
  · exact State.raise_beacon ..
  · unfold State.refuse
    dsimp only
    split
    · exact State.raise_beacon ..
    · exact State.raise_beacon ..

/-- What the filter takes, and the judgement of nodes, leave the beacon (R185). -/
theorem beacon_filter (b : Nat × Bool) : KeptByFilter fun s => s.beacon = b where
  raise s k d w h := (s.raise_beacon k d w).trans h
  offer s r h := (s.offer_beacon r).trans h

/-- The beacon after the count advances. -/
theorem State.advanceBeacon_beacon (s : State) : s.advanceBeacon.beacon =
    if s.settings.beaconInterval = 0 then (0, s.uplink.beaconPending)
    else if s.settings.beaconInterval ≤ s.latch.beaconCount + 1 then (0, true)
    else (s.latch.beaconCount + 1, s.uplink.beaconPending) := by
  unfold State.advanceBeacon State.beacon
  dsimp only
  split
  · rfl
  · split <;> rfl

theorem State.afterClose_beacon (s : State) (k : CloseKind) : (s.afterClose k).beacon = s.beacon := by
  unfold State.beacon
  rw [State.afterClose_latch, State.afterClose_uplink]

/-- With no commit pending a close advances the count once (R185). -/
theorem State.sweepClose_beacon {s : State} (k : CloseKind) (quiet : s.mgmt.session.state ≠ .commitPending) :
    (s.sweepClose k).beacon = s.advanceBeacon.beacon := by
  have keeps : ∀ {n x b}, NoApply s x → b ≠ .beacon → x.state.beacon = n →
      (Closing.act k s.sweep.number s.choice x b).state.beacon = n := by
    intro n x b h other same
    by_cases isApply : b = .apply
    · subst isApply
      rw [h.apply]
      exact same
    · by_cases isProceed : b = .proceed
      · subst isProceed
        exact (State.afterClose_beacon _ _).trans same
      · exact (beacon_filter n).act k _ _ x b isApply other isProceed same
  refine State.sweepClose_turn_noApply (a := .beacon) quiet rfl (before := fun x => x.beacon = s.beacon)
    (after := fun x => x.beacon = s.advanceBeacon.beacon) (result := fun x => x.beacon = s.advanceBeacon.beacon) rfl
    (fun x b h other same => keeps h other same) (fun x h same => ?_) (fun x b h other same => keeps h other same)
    (fun x same => (beacon_filter _).notices _ _ ((beacon_filter _).takeShares _ _ _ same))
  obtain ⟨count, flag⟩ := Prod.mk.inj same
  show x.state.advanceBeacon.beacon = _
  rw [State.advanceBeacon_beacon, State.advanceBeacon_beacon, h.settings, count, flag]

theorem SameParts.judgedRun {s t : State} (same : SameParts s t) (i : Fin 24) : t.judgedRun i = s.judgedRun i := by
  unfold State.judgedRun
  rw [same.nodeCfg, same.nodeRun, same.settings]

theorem SameParts.losesNode {s t : State} (same : SameParts s t) (i : Fin 24) : t.losesNode i ↔ s.losesNode i := by
  unfold State.losesNode
  rw [same.nodeCfg, same.nodeRun, same.settings]

theorem SameParts.beacon {s t : State} (same : SameParts s t) : t.beacon = s.beacon := by
  unfold State.beacon
  rw [same.beaconCount, same.uplink]

theorem SameParts.advanceBeacon {s t : State} (same : SameParts s t) : t.advanceBeacon.beacon = s.advanceBeacon.beacon := by
  rw [State.advanceBeacon_beacon, State.advanceBeacon_beacon, same.settings, same.beaconCount, same.uplink]

/-- Settles O20. -/
theorem closeJudgesNodesAndCountsBeacon : Obligations.CloseJudgesNodesAndCountsBeacon := by
  intro c s closes quiet
  obtain ⟨a, k, t, by_⟩ := closesBy_of_closesSweep closes
  have quietA : a.mgmt.session.state ≠ .commitPending := by rw [by_.before.sessionState]; exact quiet
  have judged : ∀ i : Fin 24, t.nodeRun[i] = s.judgedRun i := fun i => by
    rw [by_.after.nodeRun, State.sweepClose_judges k quietA, by_.before.judgedRun]
  have beacon : (t.latch.beaconCount, t.uplink.beaconPending) = s.advanceBeacon.beacon := by
    refine by_.after.beacon.trans ((State.sweepClose_beacon k quietA).trans by_.before.advanceBeacon)
  rw [State.advanceBeacon_beacon] at beacon
  refine ⟨t, by_.run, fun i => ⟨fun off => ?_, fun on answered => ?_, fun on silent => ?_, fun loses => ?_⟩, fun never => ?_,
    fun counts below => ?_, fun counts reached => ?_⟩
  · rw [judged, State.judgedRun, if_pos off]
  · rw [judged, State.judgedRun, if_neg (by rw [on]; exact nofun), if_pos answered]
  · rw [judged, State.judgedRun, if_neg (by rw [on]; exact nofun), if_neg (by rw [silent]; exact nofun)]
  · exact by_.after.latched _ (State.sweepClose_nodeLost k quietA ((by_.before.losesNode i).mpr loses))
  · rw [if_pos never] at beacon
    exact Prod.mk.inj beacon
  · rw [if_neg counts, if_neg (Nat.not_le.mpr below)] at beacon
    exact Prod.mk.inj beacon
  · rw [if_neg counts, if_pos reached] at beacon
    exact Prod.mk.inj beacon

end Sys2Proof.Machine
end

section
/-! One channel through the takings of the filter and the acts of a close. -/

namespace Sys2Proof.Machine

/-! ### One channel's record, its gap flag apart, through the takings of the filter (R40, R54, R57) -/

/-- The record of a channel but for its gap flag. -/
def State.record (s : State) (i : Fin 256) : ChanRuntime := { s.chanRun[i] with gap := false }

theorem State.record_eq_iff {s t : State} {i : Fin 256} :
    t.record i = s.record i ↔ t.chanRun[i] = { s.chanRun[i] with gap := t.chanRun[i].gap } := by
  refine ⟨fun same => ?_, fun same => ?_⟩
  · exact congrArg (fun r : ChanRuntime => { r with gap := t.chanRun[i].gap }) same
  · unfold State.record
    rw [same]

section

variable {s t : State} {i : Fin 256}

theorem State.record_of_chanRun (same : t.chanRun = s.chanRun) : t.record i = s.record i := by
  unfold State.record
  rw [same]

theorem State.record_setChanRun_self (r : ChanRuntime) : (s.setChanRun i r).record i = { r with gap := false } :=
  congrArg (fun x : ChanRuntime => { x with gap := false }) (Vector.getElem_set_self _)

theorem State.record_setChanRun {c : Fin 256} (other : c ≠ i) (r : ChanRuntime) : (s.setChanRun c r).record i = s.record i :=
  congrArg (fun x : ChanRuntime => { x with gap := false })
    (Vector.getElem_set_ne (x := r) c.isLt i.isLt fun same => other (Fin.ext same))

theorem State.record_dropNotice (s : State) (c i : Fin 256) : (s.dropNotice c).record i = s.record i := by
  by_cases same : c = i
  · subst same
    exact State.record_setChanRun_self _
  · exact State.record_setChanRun same _

theorem State.record_dropNotices (s : State) (cs : List (Fin 256)) (i : Fin 256) :
    (s.dropNotices cs).record i = s.record i :=
  State.foldl_keeps (fun x => x.record i) State.dropNotice (fun x c => x.record_dropNotice c i) cs s

theorem State.record_takeDrops (s : State) (late : List (Fin 256)) (i : Fin 256) : (s.takeDrops late).record i = s.record i :=
  State.record_dropNotices _ _ i

theorem State.record_takeDropOf (s : State) (c i : Fin 256) : (s.takeDropOf c).record i = s.record i := by
  unfold State.takeDropOf
  split
  · exact State.record_dropNotice _ c i
  · rfl

/-- An offer touches the records of other channels in their gap flags alone (R47, R48, R58). -/
theorem State.record_offer {r : Report} (other : r.channel ≠ i) : (s.offer r).record i = s.record i := by
  rcases s.offer_cases r with ⟨-, -, answer⟩ | ⟨head, rest, -, answer⟩ | answer <;> rw [answer]
  · refine (State.record_setChanRun other _).trans ?_
    split
    · exact State.record_of_chanRun (State.tellStoreEmpty_chanRun _)
    · rfl
  · exact (State.record_dropNotice ..).trans ((State.record_setChanRun other _).trans
      (State.record_of_chanRun (State.raiseNow_chanRun ..)))
  · refine (State.record_setChanRun other _).trans ?_
    split
    · exact State.record_of_chanRun (State.raiseNow_chanRun ..)
    · exact State.record_of_chanRun (State.raiseNow_chanRun ..)

theorem State.record_takeLoss {n : LossNotice} (other : n.channel ≠ i) : (s.takeLoss n).record i = s.record i := by
  cases on : s.chanCfg[n.channel].enabled with
  | false => rw [State.takeLoss_disabled on]
  | true =>
    rw [State.takeLoss_enabled on]
    split
    · exact State.record_setChanRun other _
    · exact (State.record_offer other).trans (State.record_setChanRun other _)

theorem State.record_takeShare {n : LossNotice} (other : n.channel ≠ i) (resets : List (Fin 256)) :
    (State.takeShare resets s n).record i = s.record i := by
  unfold State.takeShare
  split
  · rfl
  · exact State.record_takeLoss other

theorem State.record_judgeSample {c : Fin 256} (other : c ≠ i) (q : Quality) (v w : Word) :
    (s.judgeSample c q v w).record i = s.record i := by
  unfold State.judgeSample
  split
  · rfl
  · split
    · exact State.record_of_chanRun (State.raise_chanRun ..)
    · unfold State.judgeFresh
      dsimp only
      split
      · exact State.record_setChanRun other _
      · split
        · exact (State.record_offer other).trans (State.record_setChanRun other _)
        · exact State.record_setChanRun other _

theorem State.record_channelClose {c : Fin 256} (other : c ≠ i) (w : Word) : (s.channelClose c w).record i = s.record i := by
  unfold State.channelClose
  split
  · rfl
  · dsimp only
    split
    · exact State.record_setChanRun other _
    · split
      · exact (State.record_offer other).trans (State.record_setChanRun other _)
      · exact State.record_setChanRun other _

end

/-! ### A law about one channel that the acts of a close keep -/

/-- The law speaks of the channel's record but for its gap flag, of the notices that wait and of the channel table alone. It is
kept when a sample of one of the channels `samples` is judged, and when shares are taken: single ones if `single` names them,
and all but those of the channels in `late`. -/
structure RecordLaw (i : Fin 256) (late resets : List (Fin 256)) (samples : Fin 256 → Prop) (single : Notice → Prop)
    (law : State → Prop) : Prop where
  same : ∀ s t : State, t.record i = s.record i → t.notices = s.notices → t.chanCfg = s.chanCfg → law s → law t
  sample : ∀ (s : State) (c : Fin 256) (q : Quality) (v w : Word), samples c → law s → law (s.judgeSample c q v w)
  share : ∀ (s : State) (c : Fin 256) (n : LossNotice), single (.share c) →
    s.notices.find? (fun m => m.channel == c) = some n → law s →
    law (State.takeShare resets { s with notices := s.notices.eraseP (fun m => m.channel == c) } n)
  shares : ∀ s : State, law s → law (s.takeShares late resets)

namespace RecordLaw

section

variable {i : Fin 256} {late resets : List (Fin 256)} {samples : Fin 256 → Prop} {single : Notice → Prop} {law : State → Prop}
  (m : RecordLaw i late resets samples single law)
include m

theorem takeNotice {s : State} {n : Notice} (ok : single n) (h : law s) : law (s.takeNotice resets n) := by
  cases n with
  | share c =>
    show law (s.takeShareOf resets c)
    unfold State.takeShareOf
    split
    · exact h
    · next n found => exact m.share s c n ok found h
  | drop c => exact m.same _ _ (s.record_takeDropOf c i) (State.takeDropOf_notices ..) (State.takeDropOf_chanCfg ..) h

theorem takeSample {between : List (Fin 256 × Notice)} (ok : ∀ p ∈ between, single p.2) {s : State} {d : HandedSample}
    (sampled : samples d.channel) (h : law s) : law (State.takeSample between resets s d) := by
  have notices : ∀ l : List (Fin 256 × Notice), (∀ p ∈ l, single p.2) → ∀ x, law x →
      law (l.foldl (fun x p => x.takeNotice resets p.2) x) := by
    intro l
    induction l with
    | nil => exact fun _ _ hx => hx
    | cons p rest ih =>
      intro among x hx
      exact ih (fun q later => among q (List.mem_cons_of_mem p later)) _ (m.takeNotice (among p List.mem_cons_self) hx)
  exact m.sample _ _ _ _ _ sampled (notices _ (fun p kept => ok p (List.mem_filter.mp kept).1) s h)

theorem takeSamples {between : List (Fin 256 × Notice)} (ok : ∀ p ∈ between, single p.2) (ds : List HandedSample)
    (sampled : ∀ d ∈ ds, samples d.channel) (s : State) (h : law s) : law (ds.foldl (State.takeSample between resets) s) := by
  induction ds generalizing s with
  | nil => exact h
  | cons d rest ih =>
    exact ih (fun e later => sampled e (List.mem_cons_of_mem d later)) _ (m.takeSample ok (sampled d List.mem_cons_self) h)

theorem take {between : List (Fin 256 × Notice)} (ok : ∀ p ∈ between, single p.2) {s : State}
    (sampled : ∀ ds ∈ s.handed, ∀ d ∈ ds, samples d.channel) {f : FilterAct} (alone : ∀ n, f = .notice n → single n)
    (h : law s) : law (s.take between resets f) := by
  cases f with
  | notice n => exact m.takeNotice (alone n rfl) h
  | delivery =>
    show law (s.takeDelivery between resets)
    unfold State.takeDelivery
    split
    · exact h
    · next ds rest waits =>
      exact m.takeSamples ok ds (sampled ds (by rw [waits]; exact List.mem_cons_self)) _ (m.same s _ rfl rfl rfl h)

theorem takeDeliveries {between : List (Fin 256 × Notice)} (ok : ∀ p ∈ between, single p.2) {s : State}
    (sampled : ∀ ds ∈ s.handed, ∀ d ∈ ds, samples d.channel) (h : law s) : law (s.takeDeliveries between resets) :=
  m.takeSamples ok _ (fun d among => by
    obtain ⟨ds, waits, isIn⟩ := List.mem_flatten.mp among
    exact sampled ds waits d isIn) _ (m.same s _ rfl rfl rfl h)

/-- The law is kept by every act of a close but the judgements, the channel's own close duties and the apply. -/
theorem act {k : CloseKind} {w : Word} {supply : Choice} {x : Closing} (puts : supply.late = late) (plan : x.plan.resets = resets)
    (ok : ∀ p ∈ supply.between, single p.2) (sampled : ∀ ds ∈ x.state.handed, ∀ d ∈ ds, samples d.channel) {a : CloseAct}
    (alone : ∀ n, a = .take (.notice n) → single n) (notJudge : ∀ j, a ≠ .judge j) (notOwn : a ≠ .duties i)
    (notApply : a ≠ .apply) (h : law x.state) : law (Closing.act k w supply x a).state := by
  cases a with
  | judge j => exact absurd rfl (notJudge j)
  | take f =>
    show law (x.state.take supply.between x.plan.resets f)
    rw [plan]
    exact m.take ok sampled (fun n same => alone n (congrArg CloseAct.take same)) h
  | shares =>
    show law (x.state.takeShares supply.late x.plan.resets)
    rw [puts, plan]
    exact m.shares _ h
  | drops => exact m.same _ _ (State.record_takeDrops ..) (State.takeDrops_notices ..) (State.takeDrops_chanCfg ..) h
  | duties c =>
    have other : c ≠ i := fun same => notOwn (congrArg CloseAct.duties same)
    exact m.same _ _ (State.record_channelClose other w) (State.channelClose_notices ..) (State.channelClose_chanCfg ..) h
  | deliveries =>
    show law (x.state.takeDeliveries supply.between x.plan.resets)
    rw [plan]
    exact m.takeDeliveries ok sampled h
  | apply => exact absurd rfl notApply
  | beacon =>
    exact m.same _ _ (State.record_of_chanRun (State.advanceBeacon_chanRun _)) (State.advanceBeacon_notices _)
      (State.advanceBeacon_chanCfg _) h
  | proceed =>
    exact m.same _ _ (State.record_of_chanRun (State.afterClose_chanRun ..)) (State.afterClose_notices ..)
      (State.afterClose_chanCfg ..) h

end

end RecordLaw

/-- Shares that wait are taken one by one. -/
theorem State.takeShares_law {law : State → Prop} {resets : List (Fin 256)} {s : State} (late : List (Fin 256))
    (start : law { s with notices := s.notices.filter (fun n => decide (n.channel ∈ late)) })
    (step : ∀ x n, n ∈ s.notices → law x → law (State.takeShare resets x n)) : law (s.takeShares late resets) := by
  have fold : ∀ l : List LossNotice, (∀ n ∈ l, n ∈ s.notices) → ∀ x, law x → law (l.foldl (State.takeShare resets) x) := by
    intro l
    induction l with
    | nil => exact fun _ _ hx => hx
    | cons n rest ih =>
      intro among x hx
      exact ih (fun q later => among q (List.mem_cons_of_mem n later)) _ (step x n (among n List.mem_cons_self) hx)
  exact fold _ (fun n kept => (List.mem_filter.mp kept).1) _ start

/-- A close takes deliveries and brings none. -/
theorem Closing.act_handed {k : CloseKind} {w : Word} {supply : Choice} (x : Closing) (a : CloseAct) :
    ∀ ds ∈ (Closing.act k w supply x a).state.handed, ds ∈ x.state.handed := by
  have taken : ∀ (l : List HandedSample) (y : State),
      (l.foldl (State.takeSample supply.between x.plan.resets) y).handed = y.handed := fun l y =>
    State.foldl_keeps State.handed _ (fun _ _ => State.takeSample_handed ..) l y
  intro ds waits
  cases a with
  | judge j =>
    have same : (Closing.act k w supply x (.judge j)).state.handed = x.state.handed := by
      show (x.judge j w).state.handed = _
      unfold Closing.judge
      split
      · rfl
      · exact State.judgeNode_handed ..
    exact same ▸ waits
  | take f =>
    cases f with
    | notice n => exact (show (x.state.takeNotice x.plan.resets n).handed = x.state.handed by simp) ▸ waits
    | delivery =>
      have waits : ds ∈ (x.state.takeDelivery supply.between x.plan.resets).handed := waits
      unfold State.takeDelivery at waits
      split at waits
      · exact waits
      · next first rest head =>
        rw [taken] at waits
        rw [head]
        exact List.mem_cons_of_mem first waits
  | shares => exact (State.takeShares_handed x.state ..) ▸ waits
  | drops => exact (State.takeDrops_handed x.state ..) ▸ waits
  | duties c => exact (State.channelClose_handed x.state ..) ▸ waits
  | deliveries =>
    have gone : (x.state.takeDeliveries supply.between x.plan.resets).handed = [] := taken _ _
    have waits : ds ∈ (x.state.takeDeliveries supply.between x.plan.resets).handed := waits
    rw [gone] at waits
    exact absurd waits List.not_mem_nil
  | apply =>
    by_cases pending : x.state.mgmt.session.state = .commitPending
    · obtain ⟨v, applied⟩ := Closing.apply_parts pending k supply.dropFirst supply.lateDrops
      have waits : ds ∈ (x.apply k supply.dropFirst supply.lateDrops).state.handed := waits
      rw [applied] at waits
      exact (State.applyItems_handed x.state ..) ▸ waits
    · rw [Closing.act_apply_noCommit pending] at waits
      exact waits
  | beacon => exact (State.advanceBeacon_handed x.state) ▸ waits
  | proceed => exact (State.afterClose_handed x.state k) ▸ waits

end Sys2Proof.Machine
end

section
/-! A close with no commit pending, seen from one channel. -/

namespace Sys2Proof.Machine

/-! ### The latest reading and the limit record through offers, close duties and shares (R49, R54) -/

/-- What an offer and the close duties leave of a channel's record: its latest reading and its limit record. -/
def ChanRuntime.measured (r : ChanRuntime) : Option Latest × LimitState × Nat × Option LimitState :=
  (r.latest, r.limit, r.count, r.candidate)

def State.measured (s : State) (i : Fin 256) : Option Latest × LimitState × Nat × Option LimitState := s.chanRun[i].measured

section

variable {s t : State} {i : Fin 256}

theorem State.measured_of_record (same : t.record i = s.record i) : t.measured i = s.measured i :=
  (congrArg ChanRuntime.measured same : (t.record i).measured = (s.record i).measured)

theorem State.measured_setChanRun_self (r : ChanRuntime) : (s.setChanRun i r).measured i = r.measured :=
  congrArg ChanRuntime.measured (Vector.getElem_set_self _)

/-- A record replaced by one of the same reading and limit record. -/
theorem State.measured_setChanRun {c : Fin 256} {r : ChanRuntime}
    (same : r.measured = s.measured c) : (s.setChanRun c r).measured i = s.measured i := by
  by_cases own : c = i
  · subst own
    exact (State.measured_setChanRun_self r).trans same
  · exact State.measured_of_record (State.record_setChanRun own r)

theorem State.measured_applyAdmission (r : Report) (i : Fin 256) : (s.applyAdmission r).measured i = s.measured i :=
  State.measured_setChanRun rfl

theorem State.measured_applyRefusal (r : Report) (i : Fin 256) : (s.applyRefusal r).measured i = s.measured i :=
  State.measured_setChanRun rfl

theorem State.measured_offer (r : Report) (i : Fin 256) : (s.offer r).measured i = s.measured i := by
  rcases s.offer_cases r with ⟨-, -, answer⟩ | ⟨head, rest, -, answer⟩ | answer <;> rw [answer]
  · refine (State.measured_applyAdmission r i).trans ?_
    split
    · exact State.measured_of_record (State.record_of_chanRun (State.tellStoreEmpty_chanRun _))
    · rfl
  · exact (State.measured_of_record (State.record_dropNotice ..)).trans ((State.measured_applyAdmission r i).trans
      (State.measured_of_record (State.record_of_chanRun (State.raiseNow_chanRun ..))))
  · refine (State.measured_applyRefusal r i).trans ?_
    split
    · exact State.measured_of_record (State.record_of_chanRun (State.raiseNow_chanRun ..))
    · exact State.measured_of_record (State.record_of_chanRun (State.raiseNow_chanRun ..))

/-- The close duties look at the reading and the limit record and change neither (R49 to R52). -/
theorem closeDuties_measured (cfg : ChanConfig) (run : ChanRuntime) : (closeDuties cfg run).1.measured = run.measured := by
  cases latest : run.latest with
  | some l => rw [closeDuties_eq latest]; rfl
  | none =>
    have counted : (countedRun run).latest = none := latest
    have left : (closeDuties cfg run).1 = { countedRun run with pendingChange := false, forcePending := false } := by
      show (serveForce (resolvePending cfg (countedRun run)).1).1 = _
      rw [resolvePending_none counted]
      exact serveForce_none counted
    rw [left]
    rfl

theorem State.measured_channelClose (c : Fin 256) (w : Word) (i : Fin 256) : (s.channelClose c w).measured i = s.measured i := by
  have done := State.measured_setChanRun (s := s) (i := i) (closeDuties_measured s.chanCfg[c] s.chanRun[c])
  unfold State.channelClose
  split
  · rfl
  · dsimp only
    split
    · exact done
    · split
      · exact (State.measured_offer _ i).trans done
      · exact done

/-- The reading with its quality NO_DATA (R54). -/
def withoutData (l : Option Latest) : Option Latest := l.map fun l => { l with quality := .noData }

theorem withoutData_twice (l : Option Latest) : withoutData (withoutData l) = withoutData l := by
  cases l <;> rfl

/-- A share of an enabled channel takes its reading's quality and ends its run of disagreeing samples (R54). -/
theorem State.measured_takeLoss {n : LossNotice} (on : s.chanCfg[n.channel].enabled = true) :
    (s.takeLoss n).measured n.channel =
      (withoutData s.chanRun[n.channel].latest, s.chanRun[n.channel].limit, 0, none) := by
  have lost := State.measured_setChanRun_self (s := s) (i := n.channel) (lostRun s.chanRun[n.channel])
  rw [State.takeLoss_enabled on]
  split
  · exact lost
  · exact (State.measured_offer _ _).trans lost

end

/-! ### A close with no commit pending, seen from one channel -/

/-- What is known between the acts of such a close: the entries still to be judged are as at its start, and the deliveries that
wait were there. -/
structure Underway (s : State) (rest : List CloseAct) (x : Closing) : Prop extends NoApply s x where
  unjudged : ∀ j : Fin 24, CloseAct.judge j ∈ rest → x.state.nodeRun[j] = s.nodeRun[j]
  handed : ∀ ds ∈ x.state.handed, ds ∈ s.handed

theorem Underway.start {s : State} (quiet : s.mgmt.session.state ≠ .commitPending) (acts : List CloseAct) :
    Underway s acts { state := s.dropChoice.endCollection } :=
  { NoApply.start quiet with unjudged := fun _ _ => rfl, handed := fun _ h => h }

theorem Underway.act {s : State} {a : CloseAct} {rest : List CloseAct} {x : Closing} (h : Underway s (a :: rest) x)
    (once : a.again = false → a ∉ rest) (k : CloseKind) (w : Word) (supply : Choice) :
    Underway s rest (Closing.act k w supply x a) where
  toNoApply := h.toNoApply.act k w supply a
  unjudged j later := by
    rw [← h.unjudged j (List.mem_cons_of_mem a later)]
    by_cases isApply : a = .apply
    · subst isApply
      rw [h.apply]
    · refine Closing.act_nodeRun x (fun same => ?_) isApply
      subst same
      exact once rfl later
  handed ds waits := h.handed ds (Closing.act_handed x a ds waits)

theorem Underway.losesNode {s : State} {rest : List CloseAct} {x : Closing} (h : Underway s rest x) {j : Fin 24}
    (later : CloseAct.judge j ∈ rest) : x.state.losesNode j ↔ s.losesNode j := by
  unfold State.losesNode
  rw [h.nodeCfg, h.settings, h.unjudged j later]

/-- The law about a channel is kept by every act of a close that begins in `s`, the apply and the act `exempt` apart. -/
structure CloseLaw (s : State) (i : Fin 256) (samples : Fin 256 → Prop) (single : Notice → Prop) (exempt : CloseAct)
    (law : State → Prop) : Prop extends RecordLaw i s.choice.late [] samples single law where
  judge : ∀ (x : State) (j : Fin 24), CloseAct.judge j ≠ exempt → x.nodeCfg = s.nodeCfg → (x.losesNode j ↔ s.losesNode j) →
    law x → law (x.judgeNode j s.sweep.number)
  duties : CloseAct.duties i ≠ exempt → ∀ x : State, law x → law (x.channelClose i s.sweep.number)

theorem CloseLaw.step {s : State} {i : Fin 256} {samples : Fin 256 → Prop} {single : Notice → Prop} {exempt : CloseAct}
    {law : State → Prop} (m : CloseLaw s i samples single exempt law) (k : CloseKind)
    (between : ∀ p ∈ s.choice.between, single p.2) (sampled : ∀ ds ∈ s.handed, ∀ d ∈ ds, samples d.channel)
    {a : CloseAct} {rest : List CloseAct} {x : Closing} (alone : ∀ n, a = .take (.notice n) → single n)
    (other : a ≠ exempt) (h : Underway s (a :: rest) x) (hx : law x.state) :
    law (Closing.act k s.sweep.number s.choice x a).state := by
  by_cases isJudge : ∃ j, a = .judge j
  · obtain ⟨j, rfl⟩ := isJudge
    rw [h.judge]
    exact m.judge _ j other h.nodeCfg (h.losesNode List.mem_cons_self) hx
  · by_cases isOwn : a = .duties i
    · subst isOwn
      exact m.duties other _ hx
    · by_cases isApply : a = .apply
      · subst isApply
        rw [h.apply]
        exact hx
      · exact m.act rfl (congrArg ApplyPlan.resets h.plan) between (fun ds waits => sampled ds (h.handed ds waits)) alone
          (fun j same => isJudge ⟨j, same⟩) isOwn isApply hx

/-- The number of times that a single taking of the filter comes is the supply's. -/
theorem closeOrder_count_take (prefer : List CloseAct) (f : FilterAct) :
    (closeOrder prefer).count (.take f) = prefer.count (.take f) := by
  have chosen : ∀ l : List CloseAct, (onceEach l).count (.take f) = l.count (.take f) := by
    intro l
    induction l with
    | nil => rfl
    | cons b rest ih =>
      unfold onceEach
      split
      · next skipped =>
        have differ : b ≠ .take f := by
          rintro rfl
          exact absurd skipped (by simp [CloseAct.again])
        rw [ih, List.count_cons_of_ne differ]
      · rw [List.count_cons, List.count_cons, ih]
  have others : (defaultActs.filter (fun b => decide (b ∉ prefer))).count (.take f) = 0 :=
    List.count_eq_zero.mpr fun among => absurd (List.mem_filter.mp among).1 (by simp [defaultActs])
  rw [closeOrder, List.count_append, chosen, others, Nat.add_zero]

theorem mem_closeOrder_take {prefer : List CloseAct} {f : FilterAct} (among : CloseAct.take f ∈ closeOrder prefer) :
    CloseAct.take f ∈ prefer := by
  rw [← List.count_pos_iff, closeOrder_count_take] at among
  exact List.count_pos_iff.mp among

/-- A law about one channel, in a close with no commit pending that an act of the close divides in two. -/
theorem State.sweepClose_channel {s : State} {k : CloseKind} {i : Fin 256} {samples : Fin 256 → Prop} {single : Notice → Prop}
    {a : CloseAct} (comesOnce : a.again = false) (quiet : s.mgmt.session.state ≠ .commitPending)
    (between : ∀ p ∈ s.choice.between, single p.2) (alone : ∀ n, CloseAct.take (.notice n) ∈ s.choice.acts → single n)
    (sampled : ∀ ds ∈ s.handed, ∀ d ∈ ds, samples d.channel) {before after : State → Prop}
    (mb : CloseLaw s i samples single a before) (ma : CloseLaw s i samples single a after)
    (start : before s.dropChoice.endCollection)
    (turn : ∀ rest x, Underway s (a :: rest) x → before x.state → after (Closing.act k s.sweep.number s.choice x a).state) :
    ∃ x : State, after x ∧ s.sweepClose k = (x.takeShares s.choice.late []).keepShares [] := by
  refine State.sweepClose_claim
    (claim := fun rest x => (Underway s rest x ∧ ∀ n, CloseAct.take (.notice n) ∈ rest → single n) ∧
      (a ∈ rest → before x.state) ∧ (a ∉ rest → after x.state))
    (result := fun t => ∃ x : State, after x ∧ t = (x.takeShares s.choice.late []).keepShares [])
    ⟨⟨Underway.start quiet _, fun n among => alone n (mem_closeOrder_take among)⟩, fun _ => start,
      fun absent => absurd (mem_closeOrder comesOnce _) absent⟩
    (fun b rest x once ⟨⟨under, singles⟩, early, later⟩ => ⟨⟨under.act once _ _ _,
      fun n among => singles n (List.mem_cons_of_mem b among)⟩, ?_⟩)
    (fun x ⟨⟨under, _⟩, _, done⟩ => ⟨x.state, done List.not_mem_nil, by rw [under.plan]⟩)
  have mine : ∀ n, b = .take (.notice n) → single n := fun n same => singles n (same ▸ List.mem_cons_self)
  by_cases same : b = a
  · subst same
    exact ⟨fun again => absurd again (once comesOnce), fun _ => turn rest x under (early List.mem_cons_self)⟩
  · refine ⟨fun among => mb.step k between sampled mine same under (early (List.mem_cons_of_mem b among)), fun absent =>
      ma.step k between sampled mine same under (later ?_)⟩
    rw [List.mem_cons, not_or]
    exact ⟨Ne.symm same, absent⟩

end Sys2Proof.Machine
end

section
/-! A channel that nothing disturbs in a close. -/

namespace Sys2Proof.Machine

/-! ### A channel that nothing disturbs in a close (R40, R49, R54) -/

/-- A sample or a share of channel `c` does not touch the record of channel `i`: it is another channel, or `i` is disabled. -/
def State.spares (s : State) (i c : Fin 256) : Prop := c ≠ i ∨ s.chanCfg[i].enabled = false

theorem State.spares_own {s : State} {i c : Fin 256} (spared : s.spares i c) (own : c = i) : s.chanCfg[c].enabled = false := by
  subst own
  exact spared.resolve_left (not_not_intro rfl)

/-- The record is `r` but for the gap flag, and no share that waits touches it. -/
structure Undisturbed (s : State) (i : Fin 256) (r : ChanRuntime) (x : State) : Prop where
  record : x.record i = r
  chanCfg : x.chanCfg = s.chanCfg
  notices : ∀ n ∈ x.notices, s.spares i n.channel

theorem State.judgeNode_notices {x : State} {j : Fin 24} {w : Word} {n : LossNotice} (waits : n ∈ (x.judgeNode j w).notices) :
    n ∈ x.notices ∨ x.losesNode j ∧ n ∈ lossNotices x.nodeCfg[j] w := by
  by_cases loses : x.losesNode j
  · rw [State.judgeNode_loses loses, State.sendLoss, State.raise_notices, State.setNodeRun_notices] at waits
    exact (List.mem_append.mp waits).imp_right fun sent => ⟨loses, sent⟩
  · rw [State.judgeNode_keeps loses] at waits
    exact .inl waits

section

variable {s : State} {i : Fin 256} {r : ChanRuntime}

theorem Undisturbed.takeShare {x : State} {n : LossNotice} (spared : s.spares i n.channel) (h : Undisturbed s i r x)
    (resets : List (Fin 256)) : Undisturbed s i r (State.takeShare resets x n) where
  record := by
    by_cases own : n.channel = i
    · have off : x.chanCfg[n.channel].enabled = false := by
        rw [h.chanCfg]
        exact State.spares_own spared own
      unfold State.takeShare
      rw [State.takeLoss_disabled off, ite_self]
      exact h.record
    · exact (State.record_takeShare own resets).trans h.record
  chanCfg := (State.takeShare_chanCfg ..).trans h.chanCfg
  notices m waits := h.notices m (State.takeShare_notices .. ▸ waits)

theorem Undisturbed.fewer {x : State} {l : List LossNotice} (h : Undisturbed s i r x) (among : ∀ n ∈ l, n ∈ x.notices) :
    Undisturbed s i r { x with notices := l } := ⟨h.record, h.chanCfg, fun n waits => h.notices n (among n waits)⟩

/-- A close disturbs no channel that is disabled, nor one of no sample, no share and no node that it makes ABSENT. -/
theorem undisturbed_law {exempt : CloseAct} (own : .duties i = exempt ∨ s.chanCfg[i].enabled = false)
    (far : ∀ j, s.losesNode j → ∀ n ∈ lossNotices s.nodeCfg[j] s.sweep.number, s.spares i n.channel) :
    CloseLaw s i (s.spares i) (fun _ => True) exempt (Undisturbed s i r) where
  same x y record notices chanCfg h := ⟨record.trans h.record, chanCfg.trans h.chanCfg, notices ▸ h.notices⟩
  sample x c q v w spared h := by
    refine ⟨?_, (State.judgeSample_chanCfg ..).trans h.chanCfg, fun n waits => h.notices n (State.judgeSample_notices .. ▸ waits)⟩
    by_cases own : c = i
    · have off : x.chanCfg[c].enabled = false := by
        rw [h.chanCfg]
        exact State.spares_own spared own
      unfold State.judgeSample
      rw [off]
      exact h.record
    · exact (State.record_judgeSample own q v w).trans h.record
  share x c n _ found h :=
    (h.fewer fun _ => List.mem_of_mem_eraseP).takeShare (h.notices n (List.mem_of_find?_eq_some found)) []
  shares x h := State.takeShares_law _ (h.fewer fun _ kept => (List.mem_filter.mp kept).1)
    fun _ n waits hy => hy.takeShare (h.notices n waits) []
  judge x j _ nodes loses h := by
    refine ⟨(State.record_of_chanRun (State.judgeNode_chanRun ..)).trans h.record, (State.judgeNode_chanCfg ..).trans h.chanCfg,
      fun n waits => (State.judgeNode_notices waits).elim (h.notices n) fun ⟨lost, sent⟩ => ?_⟩
    rw [nodes] at sent
    exact far j (loses.mp lost) n sent
  duties notOwn x h := by
    have off : x.chanCfg[i].enabled = false := by
      rw [h.chanCfg]
      exact own.resolve_left notOwn
    rw [State.channelClose_disabled off]
    exact h

/-- With no commit pending a close leaves the record of a disabled channel, the gap flag apart (R49, R54). -/
theorem State.sweepClose_record_disabled (k : CloseKind) (quiet : s.mgmt.session.state ≠ .commitPending)
    (off : s.chanCfg[i].enabled = false) : (s.sweepClose k).record i = s.record i := by
  have law : CloseLaw s i (s.spares i) (fun _ => True) .beacon (Undisturbed s i (s.record i)) :=
    undisturbed_law (.inr off) fun _ _ _ _ => .inr off
  obtain ⟨x, h, same⟩ := State.sweepClose_channel (k := k) rfl quiet (fun _ _ => trivial) (fun _ _ => trivial)
    (fun _ _ _ _ => .inr off) law law ⟨rfl, rfl, fun _ _ => .inr off⟩
    (fun rest x _ h => law.same _ _ (State.record_of_chanRun (State.advanceBeacon_chanRun _)) (State.advanceBeacon_notices _)
      (State.advanceBeacon_chanCfg _) h)
  rw [same]
  exact (law.shares x h).record

theorem ChanRuntime.clear_of_cleared {r : ChanRuntime} (change : r.pendingChange = false) (force : r.forcePending = false) :
    { r with pendingChange := false, forcePending := false } = r := by
  obtain ⟨_, _, _, _, _, _, _, _, _⟩ := r
  subst change force
  rfl

/-- The close duties of a channel with nothing to report (R49 to R52). -/
theorem State.channelClose_quiet {w : Word} (on : s.chanCfg[i].enabled = true) (change : s.chanRun[i].pendingChange = false)
    (force : s.chanRun[i].forcePending = false)
    (early : s.chanCfg[i].heartbeat = 0 ∨ min 65535 (s.chanRun[i].sinceReport + 1) < s.chanCfg[i].heartbeat ∨
      s.chanRun[i].latest = none) : s.channelClose i w = s.setChanRun i (countedRun s.chanRun[i]) := by
  have noChange : (countedRun s.chanRun[i]).pendingChange = false := change
  have noForce : (countedRun s.chanRun[i]).forcePending = false := force
  cases latest : s.chanRun[i].latest with
  | none =>
    rw [State.channelClose_none on latest, ChanRuntime.clear_of_cleared noChange noForce]
  | some l =>
    have notDue : refreshDue s.chanCfg[i] (countedRun s.chanRun[i]) = false := by
      rw [Bool.eq_false_iff, ne_eq, refreshDue_iff (run := countedRun s.chanRun[i]) (l := l) latest]
      rintro ⟨beats, reached⟩
      rcases early with never | early | none
      · exact beats never
      · exact Nat.not_le.mpr early reached
      · rw [latest] at none
        exact nomatch none
    have out := closeDuties_eq (cfg := s.chanCfg[i]) latest
    have kept : pendingKept s.chanCfg[i] (countedRun s.chanRun[i]) (false, false) = countedRun s.chanRun[i] := by
      unfold pendingKept
      rw [noChange, Bool.false_and, ← noChange]
    rw [resolvePending_quiet noChange, kept, notDue, noForce] at out
    rw [State.channelClose_latest on out latest]
    rfl

theorem lossNotices_channel {n : NodeConfig} {w : Word} {m : LossNotice} (fits : n.first + n.count ≤ 256)
    (sent : m ∈ lossNotices n w) : n.covers m.channel.val = true := by
  obtain ⟨j, isIn, rfl⟩ := List.mem_map.mp sent
  have below := List.mem_range.mp isIn
  have same : (Fin.ofNat 256 (n.first + j)).val = n.first + j := Nat.mod_eq_of_lt (by omega)
  unfold NodeConfig.covers
  rw [Bool.and_eq_true, decide_eq_true_eq, decide_eq_true_eq, same]
  omega

/-- With no commit pending a close counts itself once in a channel with nothing to report (R49). -/
theorem State.sweepClose_record_quiet (k : CloseKind) (quiet : s.mgmt.session.state ≠ .commitPending)
    (fits : ∀ j : Fin 24, s.nodeCfg[j].first + s.nodeCfg[j].count ≤ 256)
    (samples : ∀ ds ∈ s.handed, ∀ d ∈ ds, d.channel ≠ i) (on : s.chanCfg[i].enabled = true)
    (shares : ∀ n ∈ s.notices, n.channel ≠ i) (far : ∀ j : Fin 24, s.nodeCfg[j].covers i.val = true → ¬ s.losesNode j)
    (change : s.chanRun[i].pendingChange = false) (force : s.chanRun[i].forcePending = false)
    (early : s.chanCfg[i].heartbeat = 0 ∨ min 65535 (s.chanRun[i].sinceReport + 1) < s.chanCfg[i].heartbeat ∨
      s.chanRun[i].latest = none) : (s.sweepClose k).record i = countedRun (s.record i) := by
  have law : ∀ r, CloseLaw s i (s.spares i) (fun _ => True) (.duties i) (Undisturbed s i r) := fun r =>
    undisturbed_law (.inl rfl) fun j loses n sent => .inl fun same =>
      far j (same ▸ lossNotices_channel (fits j) sent) loses
  have turn : ∀ x : State, Undisturbed s i (s.record i) x →
      Undisturbed s i (countedRun (s.record i)) (x.channelClose i s.sweep.number) := by
    refine fun x h => ⟨?_, (State.channelClose_chanCfg ..).trans h.chanCfg,
      fun n waits => h.notices n (State.channelClose_notices .. ▸ waits)⟩
    have run : x.chanRun[i] = { s.chanRun[i] with gap := x.chanRun[i].gap } := State.record_eq_iff.mp h.record
    rw [State.channelClose_quiet, State.record_setChanRun_self, run]
    · rfl
    · rw [h.chanCfg]
      exact on
    · rw [run]
      exact change
    · rw [run]
      exact force
    · rw [h.chanCfg, run]
      exact early
  obtain ⟨x, h, same⟩ := State.sweepClose_channel (k := k) rfl quiet (fun _ _ => trivial) (fun _ _ => trivial)
    (fun ds waits d isIn => .inl (samples ds waits d isIn)) (law (s.record i)) (law (countedRun (s.record i)))
    ⟨rfl, rfl, fun n waits => .inl (shares n waits)⟩ (fun rest x _ h => turn x.state h)
  rw [same]
  exact ((law _).shares x h).record

end

end Sys2Proof.Machine
end

section
/-! A channel of a node that a close makes ABSENT. -/

namespace Sys2Proof.Machine

/-! ### A channel of a node that the close makes ABSENT (R32, R54, R73) -/

section

variable {i : Fin 256} {l : Option Latest} {m n : LossNotice} {x : State}

/-- The channel is enabled, and its reading is `l`, with or without its data. -/
def Readable (i : Fin 256) (l : Option Latest) (x : State) : Prop :=
  x.chanCfg[i].enabled = true ∧ (x.chanRun[i].latest = l ∨ x.chanRun[i].latest = withoutData l)

/-- The channel is enabled, and its reading has lost its data, or the share that takes them waits. -/
def LossComes (i : Fin 256) (l : Option Latest) (m : LossNotice) (x : State) : Prop :=
  Readable i l x ∧ (x.chanRun[i].latest = withoutData l ∨ m ∈ x.notices)

theorem State.takeLoss_latest_own (on : x.chanCfg[i].enabled = true) (own : n.channel = i) :
    (x.takeLoss n).chanRun[i].latest = withoutData x.chanRun[i].latest := by
  subst own
  exact congrArg Prod.fst (State.measured_takeLoss on)

theorem State.takeLoss_latest_other (other : n.channel ≠ i) : (x.takeLoss n).chanRun[i].latest = x.chanRun[i].latest :=
  congrArg Prod.fst (State.measured_of_record (State.record_takeLoss other))

theorem Readable.of_latest {y : State} (h : Readable i l x) (chanCfg : y.chanCfg = x.chanCfg)
    (latest : y.chanRun[i].latest = x.chanRun[i].latest) : Readable i l y := by
  unfold Readable
  rw [chanCfg, latest]
  exact h

theorem Readable.withoutData (h : Readable i l x) : Machine.withoutData x.chanRun[i].latest = Machine.withoutData l := by
  rcases h.2 with same | same <;> rw [same]
  exact withoutData_twice l

theorem Readable.taken (h : Readable i l x) (own : n.channel = i) :
    (x.takeLoss n).chanRun[i].latest = Machine.withoutData l :=
  (State.takeLoss_latest_own h.1 own).trans h.withoutData

theorem Readable.takeLoss (h : Readable i l x) (n : LossNotice) : Readable i l (x.takeLoss n) := by
  by_cases own : n.channel = i
  · refine ⟨?_, .inr (h.taken own)⟩
    rw [State.takeLoss_chanCfg]
    exact h.1
  · exact h.of_latest (State.takeLoss_chanCfg ..) (State.takeLoss_latest_other own)

/-- A reading without its data has none to lose. -/
theorem Readable.takeLoss_lost (h : Readable i l x) (lost : x.chanRun[i].latest = Machine.withoutData l) (n : LossNotice) :
    (x.takeLoss n).chanRun[i].latest = Machine.withoutData l := by
  by_cases own : n.channel = i
  · exact h.taken own
  · exact (State.takeLoss_latest_other own).trans lost

theorem LossComes.takeLoss (h : LossComes i l m x) (n : LossNotice) : LossComes i l m (x.takeLoss n) := by
  obtain ⟨readable, coming⟩ := h
  refine ⟨readable.takeLoss n, coming.imp (fun lost => readable.takeLoss_lost lost n) fun waits => ?_⟩
  rw [State.takeLoss_notices]
  exact waits

theorem State.takeShare_nil (x : State) (n : LossNotice) : State.takeShare [] x n = x.takeLoss n :=
  x.takeShare_takes [] n (.inr List.not_mem_nil)

/-- Where the channel is not put off, its share is taken with the others. -/
theorem LossComes.takeShares (h : LossComes i l m x) (own : m.channel = i) {late : List (Fin 256)} (prompt : i ∉ late) :
    Readable i l (x.takeShares late []) ∧ (x.takeShares late []).chanRun[i].latest = Machine.withoutData l := by
  have fold : ∀ (ns : List LossNotice) (y : State), Readable i l y → (y.chanRun[i].latest = Machine.withoutData l ∨ m ∈ ns) →
      Readable i l (ns.foldl (State.takeShare []) y) ∧
        (ns.foldl (State.takeShare []) y).chanRun[i].latest = Machine.withoutData l := by
    intro ns
    induction ns with
    | nil => exact fun y readable coming => ⟨readable, coming.resolve_right List.not_mem_nil⟩
    | cons n rest ih =>
      intro y readable coming
      rw [List.foldl_cons, State.takeShare_nil]
      refine ih _ (readable.takeLoss n) ?_
      rcases coming with lost | waits
      · exact .inl (readable.takeLoss_lost lost n)
      · rcases List.mem_cons.mp waits with same | later
        · exact .inl (readable.taken (same ▸ own))
        · exact .inr later
  obtain ⟨readable, coming⟩ := h
  refine fold _ _ (readable.of_latest rfl rfl) (coming.imp_right fun waits => List.mem_filter.mpr ⟨waits, ?_⟩)
  rw [decide_eq_true_eq, own]
  exact prompt

theorem judgeNode_sent {s : State} {j : Fin 24} (loses : s.losesNode j) (covers : s.nodeCfg[j].covers i.val = true) (w : Word) :
    (⟨i, s.nodeCfg[j].address, s.nodeCfg[j].first, w, false⟩ : LossNotice) ∈ (s.judgeNode j w).notices := by
  rw [State.judgeNode_loses loses, State.sendLoss, State.raise_notices]
  refine List.mem_append_right _ (List.mem_map.mpr ⟨i.val - s.nodeCfg[j].first, ?_, ?_⟩)
  · rw [NodeConfig.covers, Bool.and_eq_true, decide_eq_true_eq, decide_eq_true_eq] at covers
    exact List.mem_range.mpr (by omega)
  · rw [NodeConfig.covers, Bool.and_eq_true, decide_eq_true_eq, decide_eq_true_eq] at covers
    have same : Fin.ofNat 256 (s.nodeCfg[j].first + (i.val - s.nodeCfg[j].first)) = i := by
      rw [Nat.add_sub_cancel' covers.1]
      exact Fin.ext (Nat.mod_eq_of_lt i.isLt)
    rw [same]

theorem State.judgeNode_notices_keep {s : State} (j : Fin 24) (w : Word) (waits : m ∈ s.notices) :
    m ∈ (s.judgeNode j w).notices := by
  by_cases loses : s.losesNode j
  · rw [State.judgeNode_loses loses, State.sendLoss, State.raise_notices]
    exact List.mem_append_left _ waits
  · rw [State.judgeNode_keeps loses]
    exact waits

theorem Readable.record {y : State} (h : Readable i l x) (record : y.record i = x.record i) (chanCfg : y.chanCfg = x.chanCfg) :
    Readable i l y := h.of_latest chanCfg (congrArg Prod.fst (State.measured_of_record record))

theorem Readable.judgeNode (h : Readable i l x) (j : Fin 24) (w : Word) : Readable i l (x.judgeNode j w) :=
  h.record (State.record_of_chanRun (State.judgeNode_chanRun ..)) (State.judgeNode_chanCfg ..)

theorem LossComes.same {y : State} (h : LossComes i l m x) (record : y.record i = x.record i) (notices : ∀ n ∈ x.notices, n ∈ y.notices)
    (chanCfg : y.chanCfg = x.chanCfg) : LossComes i l m y := by
  have latest : y.chanRun[i].latest = x.chanRun[i].latest := congrArg Prod.fst (State.measured_of_record record)
  exact ⟨h.1.record record chanCfg, h.2.imp latest.trans (notices m)⟩

end

section

variable {s : State} {i : Fin 256} {l : Option Latest}

/-- The acts of a close leave the reading of a channel with no sample waiting, its data apart (R40, R54). -/
theorem readable_law (exempt : CloseAct) : CloseLaw s i (· ≠ i) (fun _ => True) exempt (Readable i l) where
  same x y record _ chanCfg h := h.record record chanCfg
  sample x c q v w other h := h.record (State.record_judgeSample other q v w) (State.judgeSample_chanCfg ..)
  share x c n _ _ h := by
    have readable : Readable i l { x with notices := x.notices.eraseP (fun m => m.channel == c) } := h.of_latest rfl rfl
    rw [State.takeShare_nil]
    exact readable.takeLoss n
  shares x h := State.takeShares_law _ (h.of_latest rfl rfl) fun y n _ hy => by
    rw [State.takeShare_nil]
    exact hy.takeLoss n
  judge x j _ _ _ h := h.judgeNode j _
  duties _ x h := h.of_latest (State.channelClose_chanCfg ..) (congrArg Prod.fst (State.measured_channelClose ..))

/-- A share that waits is taken or waits on. -/
theorem lossComes_law (exempt : CloseAct) {m : LossNotice} (own : m.channel = i) :
    CloseLaw s i (· ≠ i) (fun _ => True) exempt (LossComes i l m) where
  same x y record notices chanCfg h := h.same record (fun n waits => notices ▸ waits) chanCfg
  sample x c q v w other h := h.same (State.record_judgeSample other q v w)
    (fun n waits => by rw [State.judgeSample_notices]; exact waits) (State.judgeSample_chanCfg ..)
  share x c n _ found h := by
    have taken : n.channel = c := by simpa using List.find?_some found
    have readable : Readable i l { x with notices := x.notices.eraseP (fun m => m.channel == c) } := h.1.of_latest rfl rfl
    rw [State.takeShare_nil]
    by_cases same : c = i
    · exact ⟨readable.takeLoss n, .inl (readable.taken (taken.trans same))⟩
    · refine LossComes.takeLoss ⟨readable, h.2.imp_right fun waits => ?_⟩ n
      refine (List.mem_eraseP_of_neg ?_).mpr waits
      rw [beq_iff_eq, own]
      exact Ne.symm same
  shares x h := by
    by_cases put : i ∈ s.choice.late
    · refine State.takeShares_law _ ⟨h.1.of_latest rfl rfl, h.2.imp_right fun waits => ?_⟩ fun y n _ hy => ?_
      · exact List.mem_filter.mpr ⟨waits, by rw [own]; exact decide_eq_true put⟩
      · rw [State.takeShare_nil]
        exact hy.takeLoss n
    · obtain ⟨readable, lost⟩ := h.takeShares own put
      exact ⟨readable, .inl lost⟩
  judge x j _ _ _ h := h.same (State.record_of_chanRun (State.judgeNode_chanRun ..))
    (fun n waits => State.judgeNode_notices_keep j _ waits) (State.judgeNode_chanCfg ..)
  duties _ x h := by
    have latest : (x.channelClose i s.sweep.number).chanRun[i].latest = x.chanRun[i].latest :=
      congrArg Prod.fst (State.measured_channelClose ..)
    exact ⟨h.1.of_latest (State.channelClose_chanCfg ..) latest, h.2.imp latest.trans fun waits => by
      rw [State.channelClose_notices]
      exact waits⟩

/-- A share that the supply puts off, and that no single taking takes, waits on (R73). -/
theorem waits_law (exempt : CloseAct) {m : LossNotice} (own : m.channel = i) (put : i ∈ s.choice.late) :
    CloseLaw s i (· ≠ i) (· ≠ .share i) exempt (fun x => m ∈ x.notices) where
  same x y _ notices _ h := by
    rw [notices]
    exact h
  sample x c q v w _ h := by
    rw [State.judgeSample_notices]
    exact h
  share x c n single _ h := by
    rw [State.takeShare_notices]
    refine (List.mem_eraseP_of_neg ?_).mpr h
    rw [beq_iff_eq, own]
    exact fun same => single (congrArg Notice.share same.symm)
  shares x h := by
    refine State.takeShares_law (law := fun y => m ∈ y.notices) _ (List.mem_filter.mpr ⟨h, ?_⟩) fun y n _ hy => ?_
    · rw [own]
      exact decide_eq_true put
    · rw [State.takeShare_notices]
      exact hy
  judge x j _ _ _ h := State.judgeNode_notices_keep j _ h
  duties _ x h := by
    rw [State.channelClose_notices]
    exact h

/-- The share of channel `i` that node entry `j` sends when this close makes it ABSENT (R32). -/
def State.lossShare (s : State) (j : Fin 24) (i : Fin 256) : LossNotice :=
  ⟨i, s.nodeCfg[j].address, s.nodeCfg[j].first, s.sweep.number, false⟩

theorem keepShares_kept {x : State} {m : LossNotice} (waits : m ∈ x.notices) : { m with past := true } ∈ (x.keepShares []).notices :=
  List.mem_map.mpr ⟨m, List.mem_filter.mpr ⟨waits, by simp⟩, rfl⟩

section

variable {k : CloseKind} {j : Fin 24} (quiet : s.mgmt.session.state ≠ .commitPending)
  (samples : ∀ ds ∈ s.handed, ∀ d ∈ ds, d.channel ≠ i)
  (loses : s.losesNode j) (covers : s.nodeCfg[j].covers i.val = true)
include quiet samples loses covers

/-- With no commit pending, a close that makes a node ABSENT takes the reading of its channel, or its share waits past the
close (R54, R73; notes/assumptions/35). -/
theorem State.sweepClose_loss (on : s.chanCfg[i].enabled = true) :
    ((s.sweepClose k).chanRun[i].latest = withoutData s.chanRun[i].latest ∨
        i ∈ s.choice.late ∧ { s.lossShare j i with past := true } ∈ (s.sweepClose k).notices) := by
  have turn : ∀ rest x, Underway s (.judge j :: rest) x → Readable i s.chanRun[i].latest x.state →
      LossComes i s.chanRun[i].latest (s.lossShare j i) (Closing.act k s.sweep.number s.choice x (.judge j)).state := by
    intro rest x under h
    rw [under.judge]
    refine ⟨h.judgeNode j _, .inr ?_⟩
    have sent := judgeNode_sent (i := i) ((under.losesNode List.mem_cons_self).mpr loses) (by rw [under.nodeCfg]; exact covers)
      s.sweep.number
    rw [under.nodeCfg] at sent
    exact sent
  obtain ⟨x, h, same⟩ := State.sweepClose_channel (k := k) rfl quiet (fun _ _ => trivial) (fun _ _ => trivial) samples
    (readable_law (.judge j)) (lossComes_law (i := i) (m := s.lossShare j i) (.judge j) rfl) ⟨on, .inl rfl⟩ turn
  rw [same]
  by_cases put : i ∈ s.choice.late
  · have last := (lossComes_law (s := s) (m := s.lossShare j i) (.judge j) rfl).shares x h
    exact last.2.imp id fun waits => ⟨put, keepShares_kept waits⟩
  · exact .inl (h.takeShares rfl put).2

/-- A share that the supply puts off, and that no single taking takes, waits past the close (R73). -/
theorem State.sweepClose_loss_waits (put : i ∈ s.choice.late) (alone : CloseAct.take (.notice (.share i)) ∉ s.choice.acts)
    (between : ∀ p ∈ s.choice.between, p.2 ≠ .share i) :
    { s.lossShare j i with past := true } ∈ (s.sweepClose k).notices := by
  have nothing : CloseLaw s i (· ≠ i) (· ≠ .share i) (.judge j) (fun _ => True) :=
    { same := fun _ _ _ _ _ _ => trivial, sample := fun _ _ _ _ _ _ _ => trivial, share := fun _ _ _ _ _ _ => trivial,
      shares := fun _ _ => trivial, judge := fun _ _ _ _ _ _ => trivial, duties := fun _ _ _ => trivial }
  have turn : ∀ rest x, Underway s (.judge j :: rest) x → True →
      s.lossShare j i ∈ (Closing.act k s.sweep.number s.choice x (.judge j)).state.notices := by
    intro rest x under _
    have sent := judgeNode_sent (i := i) ((under.losesNode List.mem_cons_self).mpr loses) (by rw [under.nodeCfg]; exact covers)
      s.sweep.number
    rw [under.nodeCfg] at sent
    rw [under.judge]
    exact sent
  obtain ⟨x, h, same⟩ := State.sweepClose_channel (k := k) rfl quiet between
    (fun n among => by rintro rfl; exact alone among) samples nothing (waits_law (.judge j) rfl put) trivial turn
  rw [same]
  exact keepShares_kept ((waits_law (s := s) (.judge j) rfl put).shares x h)

end

end

end Sys2Proof.Machine
end

section
/-! A sweep close with no commit pending reaches every channel. -/

namespace Sys2Proof.Machine

/-! ### The order of a close (R8; notes/assumptions/4) -/

theorem onceEach_of_once {l : List CloseAct} (once : ∀ a, a.again = false → l.count a ≤ 1) : onceEach l = l := by
  induction l with
  | nil => rfl
  | cons a rest ih =>
    have kept : ¬ (!a.again && decide (a ∈ rest)) = true := by
      rw [Bool.and_eq_true, Bool.not_eq_true', decide_eq_true_eq]
      rintro ⟨comesOnce, again⟩
      have twice := once a comesOnce
      rw [List.count_cons_self] at twice
      exact absurd (List.count_pos_iff.mpr again) (by omega)
    unfold onceEach
    rw [if_neg kept, ih fun b comesOnce => Nat.le_trans List.count_le_count_cons (once b comesOnce)]

theorem comesOnce_of_notTake {a : CloseAct} (notTake : ∀ f, a ≠ .take f) : a.again = false := by
  cases a with
  | take f => exact absurd rfl (notTake f)
  | _ => rfl

theorem notTake_of_comesOnce {a : CloseAct} (comesOnce : a.again = false) (f : FilterAct) : a ≠ .take f := by
  rintro rfl
  exact absurd comesOnce nofun

/-! ### The default order of a close (R8; notes/assumptions/4) -/

/-- Acts of one sort in a close that no apply has changed. -/
theorem Closing.fold_map {α : Type} {k : CloseKind} {w : Word} {f : α → CloseAct} {g : State → α → State}
    (each : ∀ (x : State) a, Closing.act k w {} { state := x } (f a) = { state := g x a }) (l : List α) (x : State) :
    (l.map f).foldl (Closing.act k w {}) { state := x } = { state := l.foldl g x } := by
  induction l generalizing x with
  | nil => rfl
  | cons a rest ih => rw [List.map_cons, List.foldl_cons, each, ih, List.foldl_cons]

/-- The shares that wait are all taken where the supply puts none off and no apply has reset a channel. -/
theorem State.takeShares_all (s : State) :
    s.takeShares [] [] = s.notices.foldl (fun x n => x.takeLoss n) { s with notices := [] } := by
  have all : s.notices.filter (fun n => decide (n.channel ∉ ([] : List (Fin 256)))) = s.notices :=
    List.filter_eq_self.mpr fun n _ => by simp
  have none : s.notices.filter (fun n => decide (n.channel ∈ ([] : List (Fin 256)))) = [] :=
    List.filter_eq_nil_iff.mpr fun n _ => by simp
  unfold State.takeShares
  rw [all, none]
  exact congrArg (fun f => s.notices.foldl f _) (funext fun x => funext fun n => x.takeShare_nil n)

theorem State.takeShares_nothing {s : State} (empty : s.notices = []) (late resets : List (Fin 256)) :
    s.takeShares late resets = s := by
  unfold State.takeShares
  rw [empty]
  show { s with notices := [] } = s
  rw [← empty]

theorem State.keepShares_nothing {s : State} (empty : s.notices = []) (resets : List (Fin 256)) : s.keepShares resets = s := by
  unfold State.keepShares
  rw [empty]
  show { s with notices := [] } = s
  rw [← empty]

/-- The part after the acts of the default order before the apply: the judgements, the shares, the drop notices, the close
duties and the deliveries. -/
def State.servedClose (s : State) (w : Word) : State :=
  let judged := (List.finRange 24).foldl (fun x i => x.judgeNode i w) s
  let told := judged.notices.foldl (fun x n => x.takeLoss n) { judged with notices := [] }
  ((List.finRange 256).foldl (fun x c => x.channelClose c w) (told.takeDrops [])).takeDeliveries [] []

/-- The supply of a close in the default order is empty; its acts one by one. -/
theorem Closing.act_default (k : CloseKind) (w : Word) (x : State) :
    (∀ i, Closing.act k w {} { state := x } (.judge i) = { state := x.judgeNode i w }) ∧
    [.shares, .drops].foldl (Closing.act k w {}) { state := x } = { state := (x.takeShares [] []).takeDrops [] } ∧
    (∀ c, Closing.act k w {} { state := x } (.duties c) = { state := x.channelClose c w }) ∧
    Closing.act k w {} { state := x } .deliveries = { state := x.takeDeliveries [] [] } ∧
    Closing.act k w {} { state := x } .beacon = { state := x.advanceBeacon } ∧
    Closing.act k w {} { state := x } .proceed = { state := x.afterClose k } :=
  ⟨fun i => (if_neg List.not_mem_nil : Closing.judge { state := x } i w = _), rfl, fun _ => rfl, rfl, rfl, rfl⟩

theorem defaultActs_fold (k : CloseKind) (w : Word) (s : State) : defaultActs.foldl (Closing.act k w {}) { state := s } =
    [.apply, .beacon, .proceed].foldl (Closing.act k w {}) { state := s.servedClose w } := by
  have judged := Closing.fold_map (k := k) (w := w) (f := .judge) fun x i => (Closing.act_default k w x).1 i
  have told : ∀ x, [.shares, .drops].foldl (Closing.act k w {}) { state := x } = _ := fun x => (Closing.act_default k w x).2.1
  have served := Closing.fold_map (k := k) (w := w) (f := .duties) fun x c => (Closing.act_default k w x).2.2.1 c
  have taken : ∀ x, Closing.act k w {} { state := x } .deliveries = _ := fun x => (Closing.act_default k w x).2.2.2.1
  unfold defaultActs State.servedClose
  rw [List.foldl_append, List.foldl_append, List.foldl_append, judged, told, served, List.foldl_cons, taken,
    State.takeShares_all]

theorem closeOrder_nil : closeOrder [] = defaultActs := List.filter_eq_self.mpr fun _ _ => by simp

/-- A close in the default order, up to its apply. -/
theorem State.sweepClose_default {s : State} (k : CloseKind) (choice : s.choice = {}) : ∃ x : Closing,
    x = [.apply, .beacon, .proceed].foldl (Closing.act k s.sweep.number {})
      { state := s.dropChoice.endCollection.servedClose s.sweep.number } ∧
    s.sweepClose k = (x.state.takeShares [] x.plan.resets).keepShares x.plan.resets := by
  refine ⟨_, (defaultActs_fold k s.sweep.number s.dropChoice.endCollection), ?_⟩
  unfold State.sweepClose
  rw [choice]
  dsimp only
  rw [closeOrder_nil]

theorem State.takeDeliveries_nil_notices (s : State) : (s.takeDeliveries [] []).notices = s.notices :=
  State.foldl_keeps State.notices (State.takeSample [] []) (fun _ _ => State.judgeSample_notices ..) _ _

/-- After the acts of the default order before the apply no share waits. -/
theorem State.servedClose_notices (s : State) (w : Word) : (s.servedClose w).notices = [] := by
  unfold State.servedClose
  dsimp only
  rw [State.takeDeliveries_nil_notices, State.foldl_keeps State.notices _ (fun _ _ => State.channelClose_notices ..),
    State.takeDrops_notices, State.foldl_keeps State.notices _ (fun _ _ => State.takeLoss_notices ..)]

theorem State.servedClose_session (s : State) (w : Word) : (s.servedClose w).mgmt.session = s.mgmt.session := by
  have judged : ∀ l : List (Fin 24), (l.foldl (fun x i => x.judgeNode i w) s).mgmt.session = s.mgmt.session := fun l =>
    State.foldl_keeps (fun x => x.mgmt.session) _ (fun _ _ => State.judgeNode_mgmt_session ..) l s
  have told : ∀ (l : List LossNotice) (y : State), (l.foldl (fun x n => x.takeLoss n) y).mgmt.session = y.mgmt.session :=
    State.foldl_keeps (fun x => x.mgmt.session) _ (fun _ _ => State.takeLoss_mgmt_session ..)
  have served : ∀ (l : List (Fin 256)) (y : State), (l.foldl (fun x c => x.channelClose c w) y).mgmt.session = y.mgmt.session :=
    State.foldl_keeps (fun x => x.mgmt.session) _ (fun _ _ => State.channelClose_mgmt_session ..)
  unfold State.servedClose
  dsimp only
  rw [State.takeDeliveries_mgmt_session, served, State.takeDrops_mgmt, told, judged]

/-- With no commit pending the beacon count and the Controller's own move follow (R8). -/
theorem Closing.fold_quiet {x : State} (quiet : x.mgmt.session.state ≠ .commitPending) (k : CloseKind) (w : Word) :
    [.apply, .beacon, .proceed].foldl (Closing.act k w {}) { state := x } = { state := x.advanceBeacon.afterClose k } := by
  rw [List.foldl_cons, Closing.act_apply_noCommit quiet]
  rfl

theorem State.sweepClose_default_quiet {s : State} (k : CloseKind) (choice : s.choice = {})
    (quiet : s.mgmt.session.state ≠ .commitPending) : s.sweepClose k =
      ((s.dropChoice.endCollection.servedClose s.sweep.number).advanceBeacon).afterClose k := by
  obtain ⟨x, acts, same⟩ := State.sweepClose_default k choice
  have empty := s.dropChoice.endCollection.servedClose_notices s.sweep.number
  have session := s.dropChoice.endCollection.servedClose_session s.sweep.number
  generalize s.dropChoice.endCollection.servedClose s.sweep.number = served at acts empty session ⊢
  rw [Closing.fold_quiet (by rw [session]; exact quiet)] at acts
  have none : (served.advanceBeacon.afterClose k).notices = [] := by
    rw [State.afterClose_notices, State.advanceBeacon_notices, empty]
  rw [same, acts, State.takeShares_nothing none, State.keepShares_nothing none]

theorem NodeConfig.ends_of_inRange {n : NodeConfig} (ok : n.inRange = true) : n.first + n.count ≤ 256 := by
  simp only [NodeConfig.inRange, Bool.and_eq_true, decide_eq_true_eq] at ok
  omega

/-- Settles O21. -/
theorem closeReachesChannels : Obligations.CloseReachesChannels := by
  refine ⟨fun prefer => ⟨closeOrder_count_take prefer, fun a notTake => closeOrder_count_once (comesOnce_of_notTake notTake) prefer,
    fun once => ⟨_, congrArg (· ++ _) (onceEach_of_once fun a comesOnce => once a (notTake_of_comesOnce comesOnce)),
      List.filter_sublist⟩⟩, fun s w collecting window quiet choice => ⟨_, _, _, _, rfl, rfl, rfl, rfl, ?_⟩,
    fun c s i closes quiet tables => ?_⟩
  · rw [exec_windowExpiry collecting window]
    exact congrArg _ (State.sweepClose_default_quiet (s := s.advance w) (.expiry s.sweep.oneShot) choice quiet)
  · obtain ⟨a, k, t, by_⟩ := closesBy_of_closesSweep closes
    obtain ⟨inRange, -, -, -, -, -⟩ := tables
    have quietA : a.mgmt.session.state ≠ .commitPending := by rw [by_.before.sessionState]; exact quiet
    have loses := by_.before.losesNode
    have record : ∀ r, (a.sweepClose k).record i = r → t.chanRun[i] = { r with gap := t.chanRun[i].gap } := fun r same => by
      rw [← same, by_.after.chanRun]
      rfl
    have samplesA : (∀ ds ∈ s.handed, ∀ d ∈ ds, d.channel ≠ i) → ∀ ds ∈ a.handed, ∀ d ∈ ds, d.channel ≠ i := by
      rw [by_.before.handed]
      exact id
    have coversA : ∀ j : Fin 24, s.nodeCfg[j].covers i.val = true → a.nodeCfg[j].covers i.val = true := by
      rw [by_.before.nodeCfg]
      exact fun _ => id
    have share : ∀ j, a.lossShare j i = s.lossShare j i := fun j => by
      unfold State.lossShare
      rw [by_.before.nodeCfg, by_.number]
    have latest : (a.sweepClose k).chanRun[i].latest = withoutData a.chanRun[i].latest →
        t.chanRun[i].latest = withoutData s.chanRun[i].latest := by
      rw [by_.after.chanRun, by_.before.chanRun]
      exact id
    have waits : ∀ j, { a.lossShare j i with past := true } ∈ (a.sweepClose k).notices → ∃ n ∈ t.notices, n.channel = i ∧
        n.address = s.nodeCfg[j].address ∧ n.first = s.nodeCfg[j].first ∧ n.closing = s.sweep.number ∧ n.past = true := by
      intro j kept
      rw [share, ← by_.after.notices] at kept
      exact ⟨_, kept, rfl, rfl, rfl, rfl, rfl⟩
    rw [← by_.choice]
    refine ⟨t, by_.run, fun off => ?_, fun samples on => ⟨fun shares far change force early => ?_,
      fun j lost covers => ⟨fun prompt => ?_, _, rfl, fun put => ?_, fun put alone between => ?_⟩⟩⟩
    · refine (record _ (State.sweepClose_record_disabled k quietA (by rw [by_.before.chanCfg]; exact off))).trans ?_
      rw [State.record, by_.before.chanRun]
    · have counted := State.sweepClose_record_quiet (s := a) (i := i) k quietA
      rw [by_.before.nodeCfg, by_.before.handed, by_.before.notices, by_.before.chanCfg, by_.before.chanRun] at counted
      refine (record _ (counted (fun j => ?_) samples on shares (fun j own => mt (loses j).mp (far j own)) change force early)).trans ?_
      · exact NodeConfig.ends_of_inRange (inRange j)
      · rw [State.record, by_.before.chanRun]
        rfl
    · have onA : a.chanCfg[i].enabled = true := by rw [by_.before.chanCfg]; exact on
      exact latest ((State.sweepClose_loss quietA (samplesA samples) ((loses j).mpr lost) (coversA j covers) onA).resolve_right
        fun ⟨put, _⟩ => prompt put)
    · have onA : a.chanCfg[i].enabled = true := by rw [by_.before.chanCfg]; exact on
      exact (State.sweepClose_loss quietA (samplesA samples) ((loses j).mpr lost) (coversA j covers) onA).symm.imp
        (fun ⟨_, kept⟩ => waits j kept) latest
    · exact waits j (State.sweepClose_loss_waits quietA (samplesA samples) ((loses j).mpr lost) (coversA j covers) put alone
        between)

end Sys2Proof.Machine
end

section
/-! A close with a commit pending, before and after its apply. -/

namespace Sys2Proof.Machine

/-! ### A close with a commit pending, before and after its apply (R164, R165) -/

/-- What an apply reads, as at the start of the close; no delivery has come. -/
structure BeforeApply (s : State) (x : Closing) : Prop where
  session : x.state.mgmt.session = s.mgmt.session
  settings : x.state.settings = s.settings
  nodeCfg : x.state.nodeCfg = s.nodeCfg
  chanCfg : x.state.chanCfg = s.chanCfg
  plan : x.plan = {}
  handed : ∀ ds ∈ x.state.handed, ds ∈ s.handed

/-- The staged items of `s` are installed. -/
structure AfterApply (s : State) (x : Closing) : Prop where
  session : x.state.mgmt.session = {}
  settings : x.state.settings = s.mergedSettings
  nodeCfg : x.state.nodeCfg = s.mergedNodes
  chanCfg : x.state.chanCfg = s.mergedChannels
  plan : x.plan = s.applyPlan
  handed : ∀ ds ∈ x.state.handed, ds ∈ s.handed

/-- An act that is not the apply leaves the session, the settings, the tables and the plan. -/
theorem Closing.act_tables (k : CloseKind) (w : Word) (supply : Choice) (x : Closing) {a : CloseAct} (notApply : a ≠ .apply) :
    (Closing.act k w supply x a).state.mgmt.session = x.state.mgmt.session ∧
      (Closing.act k w supply x a).state.settings = x.state.settings ∧
      (Closing.act k w supply x a).state.nodeCfg = x.state.nodeCfg ∧
      (Closing.act k w supply x a).state.chanCfg = x.state.chanCfg ∧ (Closing.act k w supply x a).plan = x.plan := by
  cases a with
  | judge i =>
    show (x.judge i w).state.mgmt.session = _ ∧ (x.judge i w).state.settings = _ ∧ (x.judge i w).state.nodeCfg = _ ∧
      (x.judge i w).state.chanCfg = _ ∧ (x.judge i w).plan = _
    unfold Closing.judge
    split <;> simp
  | apply => exact absurd rfl notApply
  | take f => simp [Closing.act]
  | shares => simp [Closing.act]
  | drops => simp [Closing.act]
  | duties c => simp [Closing.act]
  | deliveries => simp [Closing.act]
  | beacon => simp [Closing.act]
  | proceed => simp [Closing.act]

section

variable {s : State} {x : Closing} {a : CloseAct} {k : CloseKind} {w : Word} {supply : Choice}

theorem BeforeApply.act (h : BeforeApply s x) (notApply : a ≠ .apply) : BeforeApply s (Closing.act k w supply x a) := by
  obtain ⟨session, settings, nodes, channels, plan⟩ := Closing.act_tables k w supply x notApply
  exact ⟨session.trans h.session, settings.trans h.settings, nodes.trans h.nodeCfg, channels.trans h.chanCfg, plan.trans h.plan,
    fun ds waits => h.handed ds (Closing.act_handed x a ds waits)⟩

theorem AfterApply.act (h : AfterApply s x) (notApply : a ≠ .apply) : AfterApply s (Closing.act k w supply x a) := by
  obtain ⟨session, settings, nodes, channels, plan⟩ := Closing.act_tables k w supply x notApply
  exact ⟨session.trans h.session, settings.trans h.settings, nodes.trans h.nodeCfg, channels.trans h.chanCfg, plan.trans h.plan,
    fun ds waits => h.handed ds (Closing.act_handed x a ds waits)⟩

theorem BeforeApply.pending (h : BeforeApply s x) (pending : s.mgmt.session.state = .commitPending) :
    x.state.mgmt.session.state = .commitPending := by
  rw [h.session]
  exact pending

theorem BeforeApply.mergedNodes (h : BeforeApply s x) : x.state.mergedNodes = s.mergedNodes := by
  unfold State.mergedNodes
  rw [h.session, h.nodeCfg]

theorem BeforeApply.mergedChannels (h : BeforeApply s x) : x.state.mergedChannels = s.mergedChannels := by
  unfold State.mergedChannels
  rw [h.session, h.chanCfg]

theorem BeforeApply.mergedSettings (h : BeforeApply s x) : x.state.mergedSettings = s.mergedSettings := by
  unfold State.mergedSettings
  rw [h.session, h.settings]

theorem BeforeApply.applyPlan (h : BeforeApply s x) : x.state.applyPlan = s.applyPlan := by
  have reset : channelReset x.state = channelReset s := by
    unfold channelReset
    rw [h.mergedNodes, h.mergedChannels, h.nodeCfg, h.chanCfg]
  unfold State.applyPlan
  rw [reset, h.nodeCfg, h.mergedNodes]

/-- The apply as an act of the close: the apply of the items, the sweep's record apart (R165). -/
theorem Closing.act_apply (pending : x.state.mgmt.session.state = .commitPending) : ∃ v : Sweep,
    (Closing.act k w supply x .apply).state =
      { x.state.applyItems x.state.applyPlan supply.dropFirst supply.lateDrops with sweep := v } :=
  Closing.apply_parts pending k supply.dropFirst supply.lateDrops

theorem BeforeApply.apply (h : BeforeApply s x) (pending : s.mgmt.session.state = .commitPending) :
    AfterApply s (Closing.act k w supply x .apply) := by
  obtain ⟨v, applied⟩ := Closing.act_apply (k := k) (w := w) (supply := supply) (h.pending pending)
  obtain ⟨nodes, channels, settings, session⟩ := x.state.applyItems_installs x.state.applyPlan supply.dropFirst supply.lateDrops
  have plan : (Closing.act k w supply x .apply).plan = x.state.applyPlan := by
    show (x.apply k _ _).plan = _
    unfold Closing.apply
    rw [if_pos (h.pending pending)]
  refine ⟨?_, ?_, ?_, ?_, plan.trans h.applyPlan, fun ds waits => h.handed ds (Closing.act_handed x .apply ds waits)⟩
  · rw [applied]
    exact session
  · rw [applied, ← h.mergedSettings]
    exact settings
  · rw [applied, ← h.mergedNodes]
    exact nodes
  · rw [applied, ← h.mergedChannels]
    exact channels

end

/-- A close with a commit pending, divided in two by its apply. -/
theorem State.sweepClose_applies {s : State} {k : CloseKind} (pending : s.mgmt.session.state = .commitPending)
    {before after : List CloseAct → State → Prop} {result : State → Prop}
    (start : before (closeOrder s.choice.acts) s.dropChoice.endCollection)
    (first : ∀ a rest x, BeforeApply s x → a ≠ .apply → a ∈ closeOrder s.choice.acts → (a.again = false → a ∉ rest) →
      before (a :: rest) x.state → before rest (Closing.act k s.sweep.number s.choice x a).state)
    (turn : ∀ rest x, BeforeApply s x → before (.apply :: rest) x.state →
      after rest (Closing.act k s.sweep.number s.choice x .apply).state)
    (last : ∀ a rest x, AfterApply s x → a ≠ .apply → a ∈ closeOrder s.choice.acts → (a.again = false → a ∉ rest) →
      after (a :: rest) x.state → after rest (Closing.act k s.sweep.number s.choice x a).state)
    (finish : ∀ x, AfterApply s x → after [] x.state →
      result ((x.state.takeShares s.choice.late s.applyPlan.resets).keepShares s.applyPlan.resets)) : result (s.sweepClose k) := by
  refine State.sweepClose_claim
    (claim := fun rest x => (∀ b ∈ rest, b ∈ closeOrder s.choice.acts) ∧
      (.apply ∈ rest → BeforeApply s x ∧ before rest x.state) ∧ (.apply ∉ rest → AfterApply s x ∧ after rest x.state))
    ⟨fun _ among => among, fun _ => ⟨⟨rfl, rfl, rfl, rfl, rfl, fun _ waits => waits⟩, start⟩,
      fun absent => absurd (mem_closeOrder rfl _) absent⟩
    (fun a rest x once ⟨among, early, later⟩ => ⟨fun b isIn => among b (List.mem_cons_of_mem a isIn), ?_⟩)
    (fun x ⟨_, _, later⟩ => by
      obtain ⟨applied, h⟩ := later List.not_mem_nil
      rw [applied.plan]
      exact finish x applied h)
  by_cases isApply : a = .apply
  · subst isApply
    obtain ⟨waiting, h⟩ := early List.mem_cons_self
    exact ⟨fun again => absurd again (once rfl), fun _ => ⟨waiting.apply pending, turn rest x waiting h⟩⟩
  · refine ⟨fun isIn => ?_, fun absent => ?_⟩
    · obtain ⟨waiting, h⟩ := early (List.mem_cons_of_mem a isIn)
      exact ⟨waiting.act isApply, first a rest x waiting isApply (among a List.mem_cons_self) once h⟩
    · obtain ⟨applied, h⟩ := later (fun isIn => (List.mem_cons.mp isIn).elim (fun same => isApply same.symm) absent)
      exact ⟨applied.act isApply, last a rest x applied isApply (among a List.mem_cons_self) once h⟩

section

variable {s : State} (k : CloseKind) (pending : s.mgmt.session.state = .commitPending)
include pending

/-- After the close the staged tables and settings are active, and the session is over (R165). -/
theorem State.sweepClose_installs : (s.sweepClose k).nodeCfg = s.mergedNodes ∧ (s.sweepClose k).chanCfg = s.mergedChannels ∧
    (s.sweepClose k).settings = s.mergedSettings ∧ (s.sweepClose k).mgmt.session = {} :=
  State.sweepClose_applies (before := fun _ _ => True) (after := fun _ _ => True) pending
    (result := fun t => t.nodeCfg = s.mergedNodes ∧ t.chanCfg = s.mergedChannels ∧ t.settings = s.mergedSettings ∧
      t.mgmt.session = {}) trivial (fun _ _ _ _ _ _ _ _ => trivial) (fun _ _ _ _ => trivial)
    (fun _ _ _ _ _ _ _ _ => trivial) (fun x h _ => by simp [h.nodeCfg, h.chanCfg, h.settings, h.session])

/-- A changed node entry is reset by the apply and not judged after it (R31, R35). -/
theorem State.sweepClose_changedNode {i : Fin 24} (changed : s.nodeCfg[i] ≠ s.mergedNodes[i]) :
    (s.sweepClose k).nodeRun[i] = ⟨.unknown, 0, false, none, none⟩ := by
  refine State.sweepClose_applies (before := fun _ _ => True)
    (after := fun _ x => x.nodeRun[i] = ⟨.unknown, 0, false, none, none⟩) pending
    (result := fun t => t.nodeRun[i] = ⟨.unknown, 0, false, none, none⟩) trivial (fun _ _ _ _ _ _ _ _ => trivial)
    (fun rest x h _ => ?_) (fun a rest x h notApply _ _ same => ?_) (fun x _ same => by simpa using same)
  · obtain ⟨v, applied⟩ := Closing.act_apply (k := k) (w := s.sweep.number) (supply := s.choice) (h.pending pending)
    rw [applied]
    refine (State.applyItems_node _ _ _ i).trans (if_neg ?_)
    rw [h.nodeCfg, h.mergedNodes]
    exact changed
  · by_cases own : a = .judge i
    · subst own
      have kept : (x.judge i s.sweep.number) = x := if_pos (by
        rw [h.plan]
        exact (s.mem_applyPlan_changed i).mpr changed)
      show (x.judge i s.sweep.number).state.nodeRun[i] = _
      rw [kept]
      exact same
    · rw [Closing.act_nodeRun x own notApply]
      exact same

end

end Sys2Proof.Machine
end

section
/-! The response, the class queues and the node entries of a close with a commit pending. -/

namespace Sys2Proof.Machine

/-! ### The response, the class queues and the node entries of a close with a commit pending (R31, R35, R89, R165) -/

/-- What waits in MQ is not taken from it by the filter, nor by the judgement of nodes. -/
theorem waitingItem_takes (m : MqItem) : KeptByTakes fun s => m ∈ s.mgmt.items where
  raise s k d w h := by
    obtain ⟨notices, -, mgmt⟩ := s.raise_mgmt k d w
    rw [mgmt]
    exact List.mem_append_left _ h
  offer s r h := by
    have raised : ∀ (x : State) k d w, x.mgmt = s.mgmt → m ∈ (x.raise k d w).mgmt.items := fun x k d w same => by
      obtain ⟨notices, -, mgmt⟩ := x.raise_mgmt k d w
      rw [mgmt, same]
      exact List.mem_append_left _ h
    rcases s.offer_cases r with ⟨-, -, answer⟩ | ⟨head, rest, -, answer⟩ | answer <;> rw [answer]
    · unfold State.admitReport
      dsimp only
      split
      · exact raised _ _ _ _ rfl
      · exact h
    · exact raised _ _ _ _ rfl
    · unfold State.refuse
      dsimp only
      split
      · exact raised _ _ _ _ rfl
      · exact raised _ _ _ _ rfl

theorem KeptByTakes.finish {law : State → Prop} (m : KeptByTakes law) {x : State} (h : law x) (late resets : List (Fin 256)) :
    law ((x.takeShares late resets).keepShares resets) := m.notices _ _ (m.takeShares _ _ _ h)

section

variable {s : State} (k : CloseKind) (pending : s.mgmt.session.state = .commitPending)
include pending

/-- The response of the COMMIT joins MQ, and stays there (R165). -/
theorem State.sweepClose_responds {tag : Byte} (slot : s.mgmt.reserved.find? (fun x => x.code == 22) = some ⟨tag, 22⟩) :
    MqItem.response tag 22 .ok [] ∈ (s.sweepClose k).mgmt.items := by
  refine State.sweepClose_applies (before := fun _ x => x.mgmt.reserved = s.mgmt.reserved)
    (after := fun _ x => MqItem.response tag 22 .ok [] ∈ x.mgmt.items) pending
    (result := fun t => MqItem.response tag 22 .ok [] ∈ t.mgmt.items) rfl
    (fun a rest x _ notApply _ _ same => (Closing.act_reserved x notApply).trans same) (fun rest x h same => ?_)
    (fun a rest x _ notApply _ _ waits => ?_) (fun x _ waits => (waitingItem_takes _).finish waits _ _)
  · obtain ⟨v, applied⟩ := Closing.act_apply (k := k) (w := s.sweep.number) (supply := s.choice) (h.pending pending)
    rw [applied]
    show _ ∈ (x.state.applyItems _ _ _).mgmt.items
    rw [State.applyItems_mgmt _ _ _ _ (same ▸ slot)]
    exact List.mem_append_right _ (List.mem_singleton_self _)
  · by_cases isProceed : a = .proceed
    · subst isProceed
      show _ ∈ (State.afterClose _ k).mgmt.items
      rw [State.afterClose_mgmt]
      exact waits
    · exact (waitingItem_takes _).act _ _ _ x a notApply isProceed waits

/-- Every class queue stands within its new limit after the close (R89, R79). -/
theorem State.sweepClose_queues (j : ReportClass) : ((s.sweepClose k).queue j).length ≤ s.mergedSettings.limits.get j := by
  refine State.sweepClose_applies (before := fun _ _ => True) (after := fun _ x => QueuesFit x.store.cq x.settings) pending
    (result := fun t => (t.queue j).length ≤ s.mergedSettings.limits.get j) trivial (fun _ _ _ _ _ _ _ _ => trivial)
    (fun rest x h _ => ?_) (fun a rest x _ notApply _ _ fits => ?_) (fun x h fits => ?_)
  · obtain ⟨v, applied⟩ := Closing.act_apply (k := k) (w := s.sweep.number) (supply := s.choice) (h.pending pending)
    obtain ⟨queues, -⟩ := x.state.applyItems_store x.state.applyPlan s.choice.dropFirst s.choice.lateDrops
    obtain ⟨-, -, settings, -⟩ := x.state.applyItems_installs x.state.applyPlan s.choice.dropFirst s.choice.lateDrops
    rw [applied]
    intro c
    show ((x.state.applyItems _ _ _).queue c).length ≤ (x.state.applyItems _ _ _).settings.limits.get c
    rw [queues, settings, List.length_drop, State.excessOf]
    omega
  · by_cases isProceed : a = .proceed
    · subst isProceed
      show QueuesFit (State.afterClose _ k).store.cq (State.afterClose _ k).settings
      rw [State.afterClose_store, State.afterClose_settings]
      exact fits
    · exact queuesFit_moves.toKeptByTakes.act _ _ _ x a notApply isProceed fits
  · have last := queuesFit_moves.toKeptByTakes.finish fits s.choice.late s.applyPlan.resets j
    rw [State.keepShares_settings, State.takeShares_settings, h.settings] at last
    exact last

/-- An unchanged node entry is judged once, before the apply or after it (R29, R31). -/
theorem State.sweepClose_sameNode {i : Fin 24} (same : s.nodeCfg[i] = s.mergedNodes[i]) {r : NodeRuntime}
    (judged : ∀ x : State, x.nodeCfg[i] = s.nodeCfg[i] → x.nodeRun[i] = s.nodeRun[i] → x.judgedRun i = r) :
    (s.sweepClose k).nodeRun[i] = r := by
  have step : ∀ a rest x, x.state.nodeCfg[i] = s.nodeCfg[i] → i ∉ x.plan.changed → a ≠ .apply → (a.again = false → a ∉ rest) →
      (x.state.nodeRun[i] = if .judge i ∈ (a :: rest) then s.nodeRun[i] else r) →
      (Closing.act k s.sweep.number s.choice x a).state.nodeRun[i] = if .judge i ∈ rest then s.nodeRun[i] else r := by
    intro a rest x cfg unchanged notApply once run
    by_cases own : a = .judge i
    · subst own
      have turn : x.judge i s.sweep.number = { x with state := x.state.judgeNode i s.sweep.number } := if_neg unchanged
      rw [if_pos List.mem_cons_self] at run
      rw [if_neg (once rfl)]
      show (x.judge i s.sweep.number).state.nodeRun[i] = r
      rw [turn]
      simp only [State.judgeNode_nodeRun]
      exact (Vector.getElem_set_self _).trans (judged x.state cfg run)
    · have later : CloseAct.judge i ∈ a :: rest ↔ CloseAct.judge i ∈ rest := by simp [Ne.symm own]
      rw [Closing.act_nodeRun x own notApply, run]
      exact if_congr later rfl rfl
  refine State.sweepClose_applies (before := fun rest x => x.nodeRun[i] = if .judge i ∈ rest then s.nodeRun[i] else r)
    (after := fun rest x => x.nodeRun[i] = if .judge i ∈ rest then s.nodeRun[i] else r) pending
    (result := fun t => t.nodeRun[i] = r) (if_pos (mem_closeOrder rfl _)).symm
    (fun a rest x h notApply _ once run => step a rest x (by rw [h.nodeCfg]) (by rw [h.plan]; exact List.not_mem_nil) notApply
      once run) (fun rest x h run => ?_)
    (fun a rest x h notApply _ once run => step a rest x (by rw [h.nodeCfg]; exact same.symm) (fun changed => ?_) notApply
      once run) (fun x _ run => by simpa using run)
  · obtain ⟨v, applied⟩ := Closing.act_apply (k := k) (w := s.sweep.number) (supply := s.choice) (h.pending pending)
    rw [applied]
    refine (State.applyItems_node _ _ _ i).trans ((if_pos ?_).trans (run.trans (if_congr (by simp) rfl rfl)))
    rw [h.nodeCfg, h.mergedNodes]
    exact same
  · rw [h.plan] at changed
    exact (s.mem_applyPlan_changed i).mp changed same

end

end Sys2Proof.Machine
end

section
/-! The sweep record in a close with a commit pending. -/

namespace Sys2Proof.Machine

/-! ### The sweep's record in a close with a commit pending (R9, R11, R12) -/

/-- In LOCAL source the period test leaves the supervision timer. -/
theorem State.periodTest_supervision {s : State} (inLocal : s.settings.source = .localTimer) :
    s.periodTest.sweep.supervision = s.sweep.supervision := by
  unfold State.periodTest
  split
  · rw [State.trigger_inLocal _ _ inLocal]
  · rfl

/-- In LOCAL source the Controller's own move leaves an idle supervision timer. -/
theorem State.afterClose_idle {s : State} (inLocal : s.settings.source = .localTimer) (idle : s.sweep.supervision = none)
    (k : CloseKind) : (s.afterClose k).sweep.supervision = none := by
  cases k with
  | expiry oneShot =>
    cases oneShot with
    | true => rfl
    | false => exact (State.periodTest_supervision (s := s.becomeQuiet) inLocal).trans idle
  | stop => rfl
  | sync n =>
    show (s.trigger n).sweep.supervision = none
    rw [State.trigger_inLocal _ _ inLocal]
    exact idle

theorem Closing.apply_idle {x : Closing} (pending : x.state.mgmt.session.state = .commitPending)
    (old : x.state.settings.source = .trunk) (new : x.state.mergedSettings.source = .localTimer) (k : CloseKind)
    (early late : List (Fin 256)) : (x.apply k early late).state.sweep.supervision = none := by
  by_cases quiet : k = .expiry false
  · subst quiet
    have settings := (x.state.applyItems_installs x.state.applyPlan early late).2.2.1
    rw [Closing.apply_state pending]
    generalize x.state.applyItems x.state.applyPlan early late = z at settings
    have stopped : supervisionAfter x.state.settings z.settings z.sweep.supervision = none := by
      unfold supervisionAfter
      rw [if_neg (fun both => absurd (both.1.symm.trans old) nofun), if_pos ⟨old, by rw [settings]; exact new⟩]
    dsimp only
    rw [State.settingsApplied_eq, stopped]
    split
    · exact State.periodTest_supervision (by rw [← new, ← settings])
    · rfl
  · rw [Closing.apply_sweep quiet pending]
    exact if_pos ⟨old, new⟩

section

variable {s : State} (pending : s.mgmt.session.state = .commitPending)
include pending

/-- A source changed to LOCAL leaves the supervision timer idle (R11). -/
theorem State.sweepClose_idle (k : CloseKind) (old : s.settings.source = .trunk) (new : s.mergedSettings.source = .localTimer) :
    (s.sweepClose k).sweep.supervision = none := by
  refine State.sweepClose_applies (before := fun _ _ => True) (after := fun _ x => x.sweep.supervision = none) pending
    (result := fun t => t.sweep.supervision = none) trivial (fun _ _ _ _ _ _ _ _ => trivial) (fun rest x h _ => ?_)
    (fun a rest x h notApply _ _ idle => ?_) (fun x _ idle => by simpa using idle)
  · exact Closing.apply_idle (h.pending pending) (by rw [h.settings]; exact old) (by rw [h.mergedSettings]; exact new) ..
  · by_cases isProceed : a = .proceed
    · subst isProceed
      exact State.afterClose_idle (by rw [h.settings]; exact new) idle k
    · rw [(Closing.act_controller k _ _ x notApply isProceed).1]
      exact idle

/-- A source changed to TRUNK at a window expiry to QUIET starts the supervision timer with twice the new period (R11). -/
theorem State.sweepClose_supervises (old : s.settings.source = .localTimer) (new : s.mergedSettings.source = .trunk) :
    (s.sweepClose (.expiry false)).sweep.supervision = some (2 * s.mergedSettings.period) := by
  refine State.sweepClose_applies (before := fun _ _ => True)
    (after := fun _ x => x.sweep.supervision = some (2 * s.mergedSettings.period)) pending
    (result := fun t => t.sweep.supervision = some (2 * s.mergedSettings.period)) trivial (fun _ _ _ _ _ _ _ _ => trivial)
    (fun rest x h _ => ?_) (fun a rest x h notApply _ _ runs => ?_) (fun x _ runs => by simpa using runs)
  · have settings := (x.state.applyItems_installs x.state.applyPlan s.choice.dropFirst s.choice.lateDrops).2.2.1
    show (x.apply _ _ _).state.sweep.supervision = _
    rw [Closing.apply_state (h.pending pending)]
    generalize x.state.applyItems x.state.applyPlan s.choice.dropFirst s.choice.lateDrops = z at settings
    rw [h.mergedSettings] at settings
    dsimp only
    rw [State.settingsApplied_inTrunk _ _ (by rw [settings]; exact new), settings, h.settings]
    exact if_pos ⟨old, new⟩
  · by_cases isProceed : a = .proceed
    · subst isProceed
      show (x.state.becomeQuiet.periodTest).sweep.supervision = _
      rw [State.periodTest_inTrunk]
      · exact runs
      · show x.state.settings.source = _
        rw [h.settings]
        exact new
    · rw [(Closing.act_controller _ _ _ x notApply isProceed).1]
      exact runs

end

/-- A close by SYNC leaves the part COLLECTING the sweep of its number, a commit pending or not (R12). -/
theorem State.sweepClose_sync (s : State) (n : Word) : (s.sweepClose (.sync n)).sweep.state = .collecting ∧
    (s.sweepClose (.sync n)).sweep.number = n := by
  refine State.sweepClose_turn (a := .proceed) rfl (before := fun _ => True)
    (after := fun x => x.state.sweep.state = .collecting ∧ x.state.sweep.number = n)
    (result := fun t => t.sweep.state = .collecting ∧ t.sweep.number = n) trivial (fun _ _ _ _ => trivial)
    (fun _ _ => ⟨rfl, rfl⟩) (fun x b other sweep => ?_) (fun x sweep => by simpa using sweep)
  by_cases isApply : b = .apply
  · subst isApply
    by_cases pending : x.state.mgmt.session.state = .commitPending
    · show (x.apply _ _ _).state.sweep.state = _ ∧ (x.apply _ _ _).state.sweep.number = _
      rw [Closing.apply_sweep (k := .sync n) nofun pending]
      exact sweep
    · rw [Closing.act_apply_noCommit pending]
      exact sweep
  · rw [(Closing.act_controller _ _ _ x isApply other).1]
    exact sweep

end Sys2Proof.Machine
end

section
/-! The channels that an apply resets, and those whose limit fields it changes. -/

namespace Sys2Proof.Machine

/-! ### The channels that an apply resets, and those whose limit fields it changes (R56, R61, R62, R63) -/

/-- No share of the channel that waits is past its close. -/
def FreshShares (i : Fin 256) (x : State) : Prop := ∀ n ∈ x.notices, n.channel = i → n.past = false

/-- The channel's record is as a reset leaves it, `n` closes counted since and the gap flag apart. -/
def ResetRecord (i : Fin 256) (n : Nat) (x : State) : Prop := FreshShares i x ∧ x.record i = { sinceReport := n }

/-- The channel has no limit state and no run of disagreeing samples. -/
def NoLimit (i : Fin 256) (x : State) : Prop := (x.measured i).2 = (.unknown, 0, none)

section

variable {i : Fin 256} {late resets : List (Fin 256)} {x y : State}

theorem FreshShares.fewer (h : FreshShares i x) (among : ∀ n ∈ y.notices, n ∈ x.notices) : FreshShares i y :=
  fun n waits => h n (among n waits)

theorem FreshShares.of_same (h : FreshShares i x) (same : y.notices = x.notices) : FreshShares i y :=
  h.fewer fun _ waits => same ▸ waits

theorem FreshShares.judgeNode (h : FreshShares i x) (j : Fin 24) (w : Word) : FreshShares i (x.judgeNode j w) := by
  intro n waits own
  rcases State.judgeNode_notices waits with old | ⟨-, sent⟩
  · exact h n old own
  · obtain ⟨m, -, rfl⟩ := List.mem_map.mp sent
    rfl

theorem freshShares_law : RecordLaw i late resets (fun _ => True) (fun _ => True) (FreshShares i) where
  same x y _ notices _ h := h.of_same notices
  sample x c q v w _ h := h.of_same (State.judgeSample_notices ..)
  share x c n _ _ h := by
    refine h.fewer fun m waits => ?_
    rw [State.takeShare_notices] at waits
    exact List.mem_of_mem_eraseP waits
  shares x h := State.takeShares_law late (h.fewer fun _ kept => (List.mem_filter.mp kept).1) fun y n _ hy =>
    hy.of_same (State.takeShare_notices ..)

/-- A share of a channel that the apply has reset passes it by (R56). -/
theorem ResetRecord.takeShare {n : Nat} {m : LossNotice} (reset : i ∈ resets) (h : ResetRecord i n x)
    (fresh : m.channel = i → m.past = false) : ResetRecord i n (State.takeShare resets x m) := by
  obtain ⟨shares, record⟩ := h
  refine ⟨shares.of_same (State.takeShare_notices ..), ?_⟩
  by_cases own : m.channel = i
  · rw [State.takeShare_passes resets x m (fresh own) (own ▸ reset)]
    exact record
  · exact (State.record_takeShare own resets).trans record

theorem resetRecord_law (n : Nat) (reset : i ∈ resets) : RecordLaw i late resets (· ≠ i) (fun _ => True) (ResetRecord i n) where
  same x y record notices _ h := ⟨h.1.of_same notices, record.trans h.2⟩
  sample x c q v w other h := ⟨h.1.of_same (State.judgeSample_notices ..), (State.record_judgeSample other q v w).trans h.2⟩
  share x c m _ found h := by
    have left : ResetRecord i n { x with notices := x.notices.eraseP (fun m => m.channel == c) } :=
      ⟨h.1.fewer fun _ => List.mem_of_mem_eraseP, h.2⟩
    exact left.takeShare reset (h.1 m (List.mem_of_find?_eq_some found))
  shares x h := State.takeShares_law late ⟨h.1.fewer fun _ kept => (List.mem_filter.mp kept).1, h.2⟩ fun y m waits hy =>
    hy.takeShare reset (h.1 m waits)

theorem NoLimit.of_measured (h : NoLimit i x) (same : y.measured i = x.measured i) : NoLimit i y :=
  (congrArg Prod.snd same).trans h

theorem NoLimit.of_record (h : NoLimit i x) (same : y.record i = x.record i) : NoLimit i y :=
  h.of_measured (State.measured_of_record same)

theorem NoLimit.takeShare (h : NoLimit i x) (m : LossNotice) : NoLimit i (State.takeShare resets x m) := by
  by_cases own : m.channel = i
  · unfold State.takeShare
    split
    · exact h
    · cases on : x.chanCfg[m.channel].enabled with
      | false =>
        rw [State.takeLoss_disabled on]
        exact h
      | true =>
        subst own
        unfold NoLimit
        rw [State.measured_takeLoss on, show x.chanRun[m.channel].limit = .unknown from congrArg Prod.fst h]
  · exact h.of_record (State.record_takeShare own resets)

theorem noLimit_law : RecordLaw i late resets (· ≠ i) (fun _ => True) (NoLimit i) where
  same x y record _ _ h := h.of_record record
  sample x c q v w other h := h.of_record (State.record_judgeSample other q v w)
  share x c m _ _ h := by
    have left : NoLimit i { x with notices := x.notices.eraseP (fun m => m.channel == c) } := h
    exact left.takeShare m
  shares x h := State.takeShares_law late h fun y m _ hy => hy.takeShare m

/-- A law about one channel that a judgement keeps too is kept by every act but the channel's close duties and the apply. -/
theorem RecordLaw.act_judging {samples : Fin 256 → Prop} {law : State → Prop}
    (m : RecordLaw i late resets samples (fun _ => True) law) (judge : ∀ (y : State) j w, law y → law (y.judgeNode j w))
    {k : CloseKind} {w : Word} {supply : Choice} {x : Closing} {a : CloseAct} (puts : supply.late = late)
    (plan : x.plan.resets = resets) (sampled : ∀ ds ∈ x.state.handed, ∀ d ∈ ds, samples d.channel) (notOwn : a ≠ .duties i)
    (notApply : a ≠ .apply) (h : law x.state) : law (Closing.act k w supply x a).state := by
  by_cases isJudge : ∃ j, a = .judge j
  · obtain ⟨j, rfl⟩ := isJudge
    show law (x.judge j w).state
    unfold Closing.judge
    split
    · exact h
    · exact judge _ j w h
  · exact m.act puts plan (fun _ _ => trivial) sampled (fun _ _ => trivial) (fun j same => isJudge ⟨j, same⟩) notOwn notApply h

/-- The close duties of an enabled channel just reset count the close alone (R49, R63). -/
theorem ResetRecord.duties (h : ResetRecord i 0 x) (on : x.chanCfg[i].enabled = true) (w : Word) :
    ResetRecord i 1 (x.channelClose i w) := by
  refine ⟨h.1.of_same (State.channelClose_notices ..), ?_⟩
  have run : x.chanRun[i] = { gap := x.chanRun[i].gap } := by
    have same := congrArg (fun r : ChanRuntime => { r with gap := x.chanRun[i].gap }) h.2
    exact same
  have latest : (countedRun x.chanRun[i]).latest = none := by
    rw [run]
    rfl
  rw [State.channelClose_none on latest, State.record_setChanRun_self, run]
  rfl

end

section

variable {s : State} {i : Fin 256} (k : CloseKind) (pending : s.mgmt.session.state = .commitPending)
  (samples : ∀ ds ∈ s.handed, ∀ d ∈ ds, d.channel ≠ i)
include pending samples

/-- A channel that the apply resets holds reset values after the close, one close counted at most (R61, R63). -/
theorem State.sweepClose_resetChannel (shares : ∀ n ∈ s.notices, n.channel ≠ i) (resets : s.resetsChannel i) :
    ∃ n, n ≤ 1 ∧ (s.mergedChannels[i].enabled = false → n = 0) ∧ (s.sweepClose k).record i = { sinceReport := n } := by
  have reset := (s.mem_applyPlan_resets i).mpr resets
  refine State.sweepClose_applies (before := fun _ x => FreshShares i x)
    (after := fun rest x => ∃ n, n ≤ 1 ∧ (s.mergedChannels[i].enabled = false → n = 0) ∧ (.duties i ∈ rest → n = 0) ∧
      ResetRecord i n x) pending
    (result := fun t => ∃ n, n ≤ 1 ∧ (s.mergedChannels[i].enabled = false → n = 0) ∧ t.record i = { sinceReport := n })
    (fun n waits own => absurd own (shares n waits)) (fun a rest x h notApply _ _ fresh => ?_) (fun rest x h fresh => ?_)
    (fun a rest x h notApply _ once ⟨n, atMost, off, notYet, run⟩ => ?_)
    (fun x h ⟨n, atMost, off, _, run⟩ => ⟨n, atMost, off, ((resetRecord_law n reset).shares x.state run).2⟩)
  · by_cases own : a = .duties i
    · subst own
      exact fresh.of_same (State.channelClose_notices ..)
    · exact freshShares_law.act_judging (fun _ j w hy => hy.judgeNode j w) rfl rfl (fun _ _ _ _ => trivial) own notApply fresh
  · obtain ⟨v, applied⟩ := Closing.act_apply (k := k) (w := s.sweep.number) (supply := s.choice) (h.pending pending)
    have resetsX : x.state.resetsChannel i := by
      rw [← State.mem_applyPlan_resets, h.applyPlan]
      exact reset
    rw [applied]
    refine ⟨0, Nat.zero_le _, fun _ => rfl, fun _ => rfl, fresh.of_same (State.applyItems_notices ..), ?_⟩
    exact congrArg (fun r : ChanRuntime => { r with gap := false }) (State.applyItems_chanRun_resets _ _ _ resetsX)
  · by_cases own : a = .duties i
    · subst own
      obtain rfl := notYet List.mem_cons_self
      have cfg : x.state.chanCfg[i] = s.mergedChannels[i] := by rw [h.chanCfg]
      cases on : s.mergedChannels[i].enabled with
      | false =>
        have same : x.state.channelClose i s.sweep.number = x.state := State.channelClose_disabled (by rw [cfg]; exact on)
        refine ⟨0, Nat.zero_le _, fun _ => rfl, fun _ => rfl, ?_⟩
        show ResetRecord i 0 (x.state.channelClose i s.sweep.number)
        rw [same]
        exact run
      | true => exact ⟨1, le_rfl, nofun, fun again => absurd again (once rfl), run.duties (by rw [cfg]; exact on) _⟩
    · exact ⟨n, atMost, off, fun later => notYet (List.mem_cons_of_mem a later), (resetRecord_law n reset).act_judging
        (fun y j w hy => ⟨hy.1.judgeNode j w, (State.record_of_chanRun (State.judgeNode_chanRun ..)).trans hy.2⟩) rfl
        (congrArg ApplyPlan.resets h.plan) (fun ds waits => samples ds (h.handed ds waits)) own notApply run⟩

/-- A channel that the apply does not reset, and whose limit fields it changes, has no limit state after the close (R62). -/
theorem State.sweepClose_noLimit (keeps : ¬ s.resetsChannel i)
    (differ : limitFieldsDiffer s.chanCfg[i] s.mergedChannels[i] = true) : NoLimit i (s.sweepClose k) := by
  refine State.sweepClose_applies (before := fun _ _ => True) (after := fun _ x => NoLimit i x) pending (result := NoLimit i)
    trivial (fun _ _ _ _ _ _ _ _ => trivial) (fun rest x h _ => ?_) (fun a rest x h notApply _ _ run => ?_)
    (fun x h run => noLimit_law.shares x.state run)
  · obtain ⟨v, applied⟩ := Closing.act_apply (k := k) (w := s.sweep.number) (supply := s.choice) (h.pending pending)
    have keepsX : ¬ x.state.resetsChannel i := by
      rw [← State.mem_applyPlan_resets, h.applyPlan, State.mem_applyPlan_resets]
      exact keeps
    have differX : limitFieldsDiffer x.state.chanCfg[i] x.state.mergedChannels[i] = true := by
      rw [h.chanCfg, h.mergedChannels]
      exact differ
    rw [applied]
    have run := State.applyItems_chanRun_keeps x.state s.choice.dropFirst s.choice.lateDrops keepsX
    rw [if_pos differX] at run
    exact congrArg (fun r : ChanRuntime => r.measured.2) run
  · by_cases own : a = .duties i
    · subst own
      exact run.of_measured (State.measured_channelClose ..)
    · exact noLimit_law.act_judging (fun y j w hy => hy.of_record (State.record_of_chanRun (State.judgeNode_chanRun ..))) rfl
        (congrArg ApplyPlan.resets h.plan) (fun ds waits => samples ds (h.handed ds waits)) own notApply run

end

end Sys2Proof.Machine
end

section
/-! The trim of an apply, as the rest of the close leaves it. -/

namespace Sys2Proof.Machine

/-! ### The trim of an apply, as the rest of the close leaves it (R57, R89) -/

/-- What the trim of an apply speaks of is the same. -/
structure SameTrim (x y : State) : Prop where
  store : y.store = x.store
  dropped : ∀ k, y.counter (.reportsDropped k) = x.counter (.reportsDropped k)
  storeEmpty : y.latch.storeEmpty = x.latch.storeEmpty
  classDrop : y.latch.latched[EventKind.classDrop.index] = x.latch.latched[EventKind.classDrop.index]
  gap : ∀ c : Fin 256, y.chanRun[c].gap = x.chanRun[c].gap
  drops : y.drops = x.drops

namespace SameTrim

variable {s x y z : State} {early late : List (Fin 256)}

theorem refl (x : State) : SameTrim x x := ⟨rfl, fun _ => rfl, rfl, rfl, fun _ => rfl, rfl⟩

theorem of_eq (h : y = x) : SameTrim x y := h ▸ refl x

theorem trans (a : SameTrim x y) (b : SameTrim y z) : SameTrim x z :=
  ⟨b.store.trans a.store, fun k => (b.dropped k).trans (a.dropped k), b.storeEmpty.trans a.storeEmpty,
    b.classDrop.trans a.classDrop, fun c => (b.gap c).trans (a.gap c), b.drops.trans a.drops⟩

theorem of_sameParts (h : SameParts x y) : SameTrim x y :=
  ⟨h.store, h.dropped, h.storeEmpty, h.classDrop, fun c => by rw [h.chanRun], h.drops⟩

theorem notices (x : State) (l : List LossNotice) : SameTrim x { x with notices := l } :=
  ⟨rfl, fun _ => rfl, rfl, rfl, fun _ => rfl, rfl⟩

theorem advanceBeacon (x : State) : SameTrim x x.advanceBeacon := by
  have latch : x.advanceBeacon.latch.storeEmpty = x.latch.storeEmpty ∧ x.advanceBeacon.latch.latched = x.latch.latched := by
    unfold State.advanceBeacon
    dsimp only
    split
    · exact ⟨rfl, rfl⟩
    · split <;> exact ⟨rfl, rfl⟩
  refine ⟨State.advanceBeacon_store x, fun k => ?_, latch.1, by rw [latch.2], fun c => by rw [State.advanceBeacon_chanRun],
    State.advanceBeacon_drops x⟩
  unfold State.counter
  rw [State.advanceBeacon_bank]

theorem afterClose (x : State) (k : CloseKind) : SameTrim x (x.afterClose k) := by
  refine ⟨State.afterClose_store x k, fun c => ?_, by rw [State.afterClose_latch], by rw [State.afterClose_latch],
    fun c => by rw [State.afterClose_chanRun], State.afterClose_drops x k⟩
  unfold State.counter
  rw [State.afterClose_bank]

theorem judgeNode (x : State) (i : Fin 24) (w : Word) : SameTrim x (x.judgeNode i w) := by
  by_cases loses : x.losesNode i
  · rw [State.judgeNode_loses loses]
    refine ⟨?_, fun k => State.raise_counter (x.setNodeRun i (x.judgedRun i)) .nodeLost _ w (c := .reportsDropped k) nofun, ?_, ?_, fun c => ?_, ?_⟩
    · simp
    · rw [State.sendLoss_latch, State.raise_latch]
      rfl
    · rw [State.sendLoss_latch]
      exact State.raise_latched_other _ (by decide) _ _
    · simp
    · simp
  · rw [State.judgeNode_keeps loses]
    exact ⟨rfl, fun _ => rfl, rfl, rfl, fun _ => rfl, rfl⟩

/-- The trim of an apply, as far as later acts leave it. -/
theorem trimmed (same : SameTrim x y) (h : TrimmedBy s x early late) : TrimmedBy s y early late := by
  obtain ⟨queues, ⟨n, sum, free, empty⟩, classDrop, gaps⟩ := h
  refine ⟨fun k => ?_, ⟨n, sum, ?_, ?_⟩, same.classDrop.trans classDrop, fun c => ?_⟩
  · rw [State.queue, same.store, same.dropped]
    exact queues k
  · rw [same.store]
    exact free
  · rw [same.storeEmpty]
    exact empty
  · rw [same.gap, same.drops]
    exact gaps c

/-- The trim of an apply, told of the part as it was before. -/
theorem trimmed_before (same : SameTrim s x) (settings : x.mergedSettings = s.mergedSettings)
    (resets : ∀ c, x.resetsChannel c ↔ s.resetsChannel c) (h : TrimmedBy x y early late) : TrimmedBy s y early late := by
  have queue : ∀ k, x.queue k = s.queue k := fun k => by rw [State.queue, same.store]; rfl
  have excess : ∀ k, x.excessOf k = s.excessOf k := fun k => by rw [State.excessOf, queue, settings]; rfl
  have trims : ∀ c, x.trims c ↔ s.trims c := fun c => by
    unfold State.trims
    simp only [queue, excess]
  obtain ⟨queues, ⟨n, sum, free, empty⟩, classDrop, gaps⟩ := h
  refine ⟨fun k => ?_, ⟨n, ?_, ?_, ?_⟩, classDrop.trans same.classDrop, fun c => ?_⟩
  · rw [← queue, ← excess, ← same.dropped]
    exact queues k
  · simpa only [excess] using sum
  · rw [← same.store]
    exact free
  · rw [← same.storeEmpty]
    exact empty
  · rw [← trims, ← resets, ← same.gap]
    exact gaps c

end SameTrim

/-- A drop notice that waits past the apply, and is taken: its channel's gap flag is set after all (R57). -/
theorem TrimmedBy.dropTaken {s x : State} {early late : List (Fin 256)} {c : Fin 256} (h : TrimmedBy s x early late)
    (waits : c ∈ x.drops) (trimmed : s.trims c) (notFirst : c ∉ early) :
    TrimmedBy s (x.takeDropOf c) early (late.filter (fun i => decide (i ≠ c))) := by
  obtain ⟨queues, store, classDrop, gaps⟩ := h
  have taken : x.takeDropOf c = ({ x with drops := x.drops.erase c } : State).dropNotice c := if_pos waits
  rw [taken]
  refine ⟨queues, store, classDrop, fun i => ?_⟩
  by_cases own : i = c
  · subst own
    have flag : (({ x with drops := x.drops.erase i } : State).dropNotice i).chanRun[i].gap = true :=
      congrArg ChanRuntime.gap (Vector.getElem_set_self _)
    have gone : i ∉ late.filter (fun j => decide (j ≠ i)) := by simp
    exact ⟨fun _ => ⟨fun _ => .inr ⟨trimmed, .inr gone⟩, fun _ => flag⟩, fun _ => ⟨fun _ => ⟨trimmed, notFirst, gone⟩, fun _ => flag⟩,
      fun _ later => absurd later gone⟩
  · have kept : (({ x with drops := x.drops.erase c } : State).dropNotice c).chanRun[i] = x.chanRun[i] := by
      show (x.chanRun.set c { x.chanRun[c] with gap := true })[i] = x.chanRun[i]
      exact Vector.getElem_set_ne _ _ fun same => own (Fin.ext same.symm)
    have still : i ∈ late.filter (fun j => decide (j ≠ c)) ↔ i ∈ late := by simp [own]
    have others : i ∈ (({ x with drops := x.drops.erase c } : State).dropNotice c).drops ↔ i ∈ x.drops :=
      List.mem_erase_of_ne own
    rw [kept, still, others]
    exact gaps i

/-! ### A close in which no channel can report (R49, R54) -/

section

variable {x : Closing} {supply : Choice}

theorem State.takeDrops_late {y : State} {late : List (Fin 256)} (put : ∀ c ∈ y.drops, c ∈ late) : y.takeDrops late = y := by
  have none : y.drops.filter (fun c => decide (c ∉ late)) = [] :=
    List.filter_eq_nil_iff.mpr fun c waits => by simpa using put c waits
  have all : y.drops.filter (fun c => decide (c ∈ late)) = y.drops :=
    List.filter_eq_self.mpr fun c waits => by simpa using put c waits
  unfold State.takeDrops State.sendDrops
  rw [none, all]
  rfl

theorem SameTrim.takeShare_off {y : State} (off : ∀ c : Fin 256, y.chanCfg[c].enabled = false) (resets : List (Fin 256))
    (n : LossNotice) : State.takeShare resets y n = y := by
  unfold State.takeShare
  rw [State.takeLoss_disabled (off n.channel), ite_self]

theorem SameTrim.takeShares_off {y : State} (off : ∀ c : Fin 256, y.chanCfg[c].enabled = false) (late resets : List (Fin 256)) :
    SameTrim y (y.takeShares late resets) := by
  refine (State.takeShares_law (law := fun z => SameTrim y z ∧ z.chanCfg = y.chanCfg) late ⟨SameTrim.notices y _, rfl⟩
    fun z n _ ⟨same, cfg⟩ => ?_).1
  rw [SameTrim.takeShare_off (by rw [cfg]; exact off)]
  exact ⟨same, cfg⟩

/-- With every channel disabled and no delivery waiting, an act of a close touches the trim of an apply only where it is the
apply or takes a drop notice (R49, R54, R57). -/
theorem Closing.act_sameTrim {k : CloseKind} {w : Word} {a : CloseAct} (off : ∀ c : Fin 256, x.state.chanCfg[c].enabled = false)
    (empty : x.state.handed = []) (put : ∀ c ∈ x.state.drops, c ∈ supply.lateDrops) (notApply : a ≠ .apply)
    (noDrop : ∀ c, a = .take (.notice (.drop c)) → c ∉ x.state.drops) :
    SameTrim x.state (Closing.act k w supply x a).state := by
  cases a with
  | judge i =>
    show SameTrim x.state (x.judge i w).state
    unfold Closing.judge
    split
    · exact SameTrim.refl _
    · exact SameTrim.judgeNode ..
  | take f =>
    cases f with
    | notice n =>
      cases n with
      | share c =>
        show SameTrim x.state (x.state.takeShareOf x.plan.resets c)
        unfold State.takeShareOf
        split
        · exact SameTrim.refl _
        · rw [SameTrim.takeShare_off]
          · exact SameTrim.notices ..
          · exact off
      | drop c => exact SameTrim.of_eq (State.takeDropOf_none x.state c (noDrop c rfl))
    | delivery =>
      show SameTrim x.state (x.state.takeDelivery supply.between x.plan.resets)
      unfold State.takeDelivery
      rw [empty]
      exact SameTrim.refl _
  | shares => exact SameTrim.takeShares_off off ..
  | drops => exact SameTrim.of_eq (State.takeDrops_late put)
  | duties c => exact SameTrim.of_eq (State.channelClose_disabled (off c))
  | deliveries => exact SameTrim.of_eq (State.takeDeliveries_none x.state _ _ empty)
  | apply => exact absurd rfl notApply
  | beacon => exact SameTrim.advanceBeacon _
  | proceed => exact SameTrim.afterClose ..

end

/-! ### The trim of an apply as an act of a close (R57, R89) -/

theorem State.applyItems_drops (s : State) (early late : List (Fin 256)) (c : Fin 256) :
    c ∈ (s.applyItems s.applyPlan early late).drops ↔ c ∈ s.drops ∨ (s.trims c ∧ c ∉ early ∧ c ∈ late) := by
  unfold State.applyItems
  dsimp only
  rw [State.respondTo_drops, State.sendDrops_drops, State.trim_drops]
  show c ∈ (State.dropNotices s _).drops ++ _ ↔ _
  rw [State.dropNotices_drops, List.mem_append, List.mem_filter, List.mem_filter, State.mem_trimmed, decide_eq_true_eq,
    decide_eq_true_eq, and_assoc]

theorem Closing.act_apply_trims {k : CloseKind} {w : Word} {supply : Choice} {x : Closing}
    (pending : x.state.mgmt.session.state = .commitPending) :
    TrimmedBy x.state (Closing.act k w supply x .apply).state supply.dropFirst supply.lateDrops ∧
    ∀ c, c ∈ (Closing.act k w supply x .apply).state.drops ↔
      c ∈ x.state.drops ∨ (x.state.trims c ∧ c ∉ supply.dropFirst ∧ c ∈ supply.lateDrops) := by
  obtain ⟨v, applied⟩ := Closing.act_apply (k := k) (w := w) (supply := supply) pending
  rw [applied]
  exact ⟨x.state.applyItems_trims supply.dropFirst supply.lateDrops, x.state.applyItems_drops supply.dropFirst supply.lateDrops⟩

/-- In the default order the apply trims the part as the earlier acts have left it, and the later acts leave that (R57, R89). -/
theorem State.sweepClose_default_trims {s : State} (k : CloseKind) (choice : s.choice = {})
    (pending : s.mgmt.session.state = .commitPending) :
    TrimmedBy (s.dropChoice.endCollection.servedClose s.sweep.number) (s.sweepClose k) [] [] := by
  obtain ⟨x, acts, same⟩ := State.sweepClose_default k choice
  have empty := s.dropChoice.endCollection.servedClose_notices s.sweep.number
  have session := s.dropChoice.endCollection.servedClose_session s.sweep.number
  generalize s.dropChoice.endCollection.servedClose s.sweep.number = served at acts empty session ⊢
  have waits : served.mgmt.session.state = .commitPending := by
    rw [session]
    exact pending
  rw [List.foldl_cons] at acts
  have trimmed := (Closing.act_apply_trims (k := k) (w := s.sweep.number) (supply := {}) (x := { state := served }) waits).1
  obtain ⟨v, applied⟩ := Closing.act_apply (k := k) (w := s.sweep.number) (supply := {}) (x := { state := served }) waits
  have none : (Closing.act k s.sweep.number {} { state := served } .apply).state.notices = [] := by
    rw [applied]
    exact (State.applyItems_notices ..).trans empty
  generalize Closing.act k s.sweep.number {} { state := served } .apply = y at acts trimmed none
  have left : x.state = y.state.advanceBeacon.afterClose k := by
    rw [acts]
    rfl
  have noShare : x.state.notices = [] := by
    rw [left, State.afterClose_notices, State.advanceBeacon_notices, none]
  rw [same, State.takeShares_nothing noShare, State.keepShares_nothing noShare, left]
  exact ((SameTrim.advanceBeacon _).trans (SameTrim.afterClose ..)).trimmed trimmed

end Sys2Proof.Machine
end

section
/-! The trim of an apply by a close in every order. -/

namespace Sys2Proof.Machine

/-! ### The trim of an apply by a close in every order (R57, R89; notes/assumptions/16) -/

/-- The trim of the apply, with the drop notices that wait: those of `waiting` are of channels that the supply puts off, and of
every such channel whose notice no single taking takes. -/
structure TrimmedSoFar (s : State) (x : State) (waiting : List (Fin 256)) : Prop where
  trimmed : TrimmedBy s x s.choice.dropFirst waiting
  put : ∀ c ∈ waiting, c ∈ s.choice.lateDrops
  untaken : ∀ c ∈ s.choice.lateDrops, CloseAct.take (.notice (.drop c)) ∉ s.choice.acts → c ∈ waiting
  drops : ∀ c ∈ x.drops, c ∈ s.choice.lateDrops ∧ s.trims c ∧ c ∉ s.choice.dropFirst

theorem TrimmedSoFar.same {s x y : State} {waiting : List (Fin 256)} (h : TrimmedSoFar s x waiting) (same : SameTrim x y) :
    TrimmedSoFar s y waiting :=
  ⟨same.trimmed h.trimmed, h.put, h.untaken, fun c waits => h.drops c (same.drops ▸ waits)⟩

theorem TrimmedSoFar.taken {s x : State} {waiting : List (Fin 256)} (h : TrimmedSoFar s x waiting) {c : Fin 256}
    (waits : c ∈ x.drops) (chosen : CloseAct.take (.notice (.drop c)) ∈ s.choice.acts) :
    TrimmedSoFar s (x.takeDropOf c) (waiting.filter (fun i => decide (i ≠ c))) where
  trimmed := h.trimmed.dropTaken waits (h.drops c waits).2.1 (h.drops c waits).2.2
  put i isIn := h.put i (List.mem_filter.mp isIn).1
  untaken i put notTaken := by
    refine List.mem_filter.mpr ⟨h.untaken i put notTaken, decide_eq_true ?_⟩
    rintro rfl
    exact notTaken chosen
  drops i later := h.drops i (List.mem_of_mem_erase (by
    rw [show x.takeDropOf c = ({ x with drops := x.drops.erase c } : State).dropNotice c from if_pos waits] at later
    exact later))

/-- With no delivery, share or drop notice waiting and every channel disabled, a close trims the class queues once, and the
drop notices that it puts off wait past it, but for those that it takes one by one (R57, R89). -/
theorem State.sweepClose_trims {s : State} (k : CloseKind) (pending : s.mgmt.session.state = .commitPending)
    (handed : s.handed = []) (drops : s.drops = [])
    (off : ∀ i : Fin 256, s.chanCfg[i].enabled = false ∧ s.mergedChannels[i].enabled = false) :
    ∃ waiting, TrimmedSoFar s (s.sweepClose k) waiting := by
  have noHanded : ∀ x : State, (∀ ds ∈ x.handed, ds ∈ s.handed) → x.handed = [] := fun x among => by
    rw [handed] at among
    exact List.eq_nil_iff_forall_not_mem.mpr fun ds waits => absurd (among ds waits) List.not_mem_nil
  refine State.sweepClose_applies (before := fun _ x => SameTrim s x)
    (after := fun _ x => ∃ waiting, TrimmedSoFar s x waiting) pending
    (result := fun t => ∃ waiting, TrimmedSoFar s t waiting) ⟨rfl, fun _ => rfl, rfl, rfl, fun _ => rfl, rfl⟩
    (fun a rest x h notApply _ _ same => ?_) (fun rest x h same => ?_)
    (fun a rest x h notApply among _ ⟨waiting, so⟩ => ?_) (fun x h ⟨waiting, so⟩ => ?_)
  · have none : ∀ c, c ∉ x.state.drops := fun c => by
      rw [same.drops, drops]
      exact List.not_mem_nil
    exact same.trans (Closing.act_sameTrim (fun c => by rw [h.chanCfg]; exact (off c).1) (noHanded _ h.handed)
      (fun c waits => absurd waits (none c)) notApply fun c _ => none c)
  · obtain ⟨trimmed, waits⟩ := Closing.act_apply_trims (k := k) (w := s.sweep.number) (supply := s.choice) (h.pending pending)
    have resets : ∀ c, x.state.resetsChannel c ↔ s.resetsChannel c := fun c => by
      rw [← State.mem_applyPlan_resets, h.applyPlan, State.mem_applyPlan_resets]
    have trims : ∀ c, x.state.trims c → s.trims c := fun c => by
      unfold State.trims State.excessOf State.queue
      rw [same.store, h.mergedSettings]
      exact id
    refine ⟨s.choice.lateDrops, same.trimmed_before h.mergedSettings resets trimmed, fun _ put => put, fun _ put _ => put,
      fun c later => ?_⟩
    rcases (waits c).mp later with old | ⟨lost, notFirst, put⟩
    · rw [same.drops, drops] at old
      exact absurd old List.not_mem_nil
    · exact ⟨put, trims c lost, notFirst⟩
  · have cfg : ∀ c : Fin 256, x.state.chanCfg[c].enabled = false := fun c => by
      rw [h.chanCfg]
      exact (off c).2
    by_cases single : ∃ c, a = .take (.notice (.drop c)) ∧ c ∈ x.state.drops
    · obtain ⟨c, rfl, waits⟩ := single
      exact ⟨_, so.taken waits (mem_closeOrder_take among)⟩
    · exact ⟨waiting, so.same (Closing.act_sameTrim cfg (noHanded _ h.handed) (fun c waits => (so.drops c waits).1) notApply
        fun c own waits => single ⟨c, own, waits⟩)⟩
  · exact ⟨waiting, so.same ((SameTrim.takeShares_off (fun c => by rw [h.chanCfg]; exact (off c).2) ..).trans
      (SameTrim.notices _ _))⟩

/-! ### A close with a commit pending (R164, R165) -/

section

variable {s t : State} (same : SameParts s t)
include same

theorem SameParts.mergedNodes : t.mergedNodes = s.mergedNodes := by
  unfold State.mergedNodes
  rw [same.sessionItems, same.nodeCfg]

theorem SameParts.mergedChannels : t.mergedChannels = s.mergedChannels := by
  unfold State.mergedChannels
  rw [same.sessionItems, same.chanCfg]

theorem SameParts.mergedSettings : t.mergedSettings = s.mergedSettings := by
  unfold State.mergedSettings
  rw [same.sessionItems, same.settings]

theorem SameParts.resetsChannel (c : Fin 256) : t.resetsChannel c ↔ s.resetsChannel c := by
  unfold State.resetsChannel
  rw [same.chanCfg, same.mergedChannels, same.nodeCfg, same.mergedNodes]

end

/-- The slot of the COMMIT's response, with another request's slots before it (R150). -/
theorem slotsAfter_append {extra rest : List Reservation} {code : Byte} (others : ∀ e ∈ extra, e.code ≠ code) :
    slotsAfter code (extra ++ rest) = extra ++ slotsAfter code rest := by
  induction extra with
  | nil => rfl
  | cons e more ih =>
    rw [List.cons_append, slotsAfter_cons (others e List.mem_cons_self), ih fun r later => others r (List.mem_cons_of_mem e later)]
    rfl

theorem find?_slot_append {extra rest : List Reservation} {code : Byte} (others : ∀ e ∈ extra, e.code ≠ code) :
    (extra ++ rest).find? (fun x => x.code == code) = rest.find? (fun x => x.code == code) := by
  rw [List.find?_append, List.find?_eq_none.mpr fun e isIn => by simpa using others e isIn, Option.none_or]

theorem slotsAfter_found {l : List Reservation} {e : Reservation} {code : Byte}
    (found : l.find? (fun x => x.code == code) = some e) : slotsAfter code l = l.erase e := by
  unfold slotsAfter
  rw [found]

end Sys2Proof.Machine
end

section
/-! A sweep close with a commit pending. -/

namespace Sys2Proof.Machine

section

variable {c : Instr} {s a t : State} {k : CloseKind}

/-- The response of the COMMIT is in MQ, and its slot is gone (R150, R164). -/
theorem ClosesBy.responds (by_ : ClosesBy c s a k t) (pending : a.mgmt.session.state = .commitPending) {tag : Byte}
    (slot : s.mgmt.reserved.find? (fun x => x.code == 22) = some ⟨tag, 22⟩) :
    MqItem.response tag 22 .ok [] ∈ t.mgmt.items ∧ t.mgmt.reserved = s.mgmt.reserved.erase ⟨tag, 22⟩ := by
  obtain ⟨extra, slots, others, left⟩ := by_.slots
  have slotA : a.mgmt.reserved.find? (fun x => x.code == 22) = some ⟨tag, 22⟩ := by
    rw [slots, find?_slot_append others]
    exact slot
  refine ⟨by_.after.items _ (State.sweepClose_responds k pending slotA), left _ ?_⟩
  rw [State.sweepClose_reserved, if_pos pending, slots, slotsAfter_append others, slotsAfter_found slot]

/-- The record of a channel after the command, where that after its close is known but for the gap flag. -/
theorem ClosesBy.record (by_ : ClosesBy c s a k t) {i : Fin 256} {r : ChanRuntime} (same : (a.sweepClose k).record i = r) :
    t.chanRun[i] = { r with gap := t.chanRun[i].gap } := by
  rw [← same, by_.after.chanRun]
  rfl

/-- The part of the apply that trims the class queues, as the command leaves it (R57, R89). -/
theorem ClosesBy.trims (by_ : ClosesBy c s a k t) (pending : a.mgmt.session.state = .commitPending) (handed : s.handed = [])
    (drops : s.drops = []) (off : ∀ i : Fin 256, s.chanCfg[i].enabled = false ∧ s.mergedChannels[i].enabled = false) :
    ∃ waiting : List (Fin 256), (∀ i ∈ waiting, i ∈ (closeSupply c s).lateDrops) ∧
      (∀ i ∈ (closeSupply c s).lateDrops, CloseAct.take (.notice (.drop i)) ∉ (closeSupply c s).acts → i ∈ waiting) ∧
      TrimmedBy s t (closeSupply c s).dropFirst waiting := by
  obtain ⟨waiting, trimmed, put, untaken, -⟩ := State.sweepClose_trims k pending (by_.before.handed.trans handed)
    (by_.before.drops.trans drops) fun i => by
      rw [by_.before.chanCfg, by_.before.mergedChannels]
      exact off i
  rw [by_.choice] at trimmed put untaken
  exact ⟨waiting, put, untaken, (SameTrim.of_sameParts by_.after).trimmed ((SameTrim.of_sameParts by_.before).trimmed_before
    by_.before.mergedSettings by_.before.resetsChannel trimmed)⟩

/-- A node entry after the command (R29, R31, R35). -/
theorem ClosesBy.nodes (by_ : ClosesBy c s a k t) (pending : a.mgmt.session.state = .commitPending) (i : Fin 24) :
    (s.nodeCfg[i] ≠ s.mergedNodes[i] → t.nodeRun[i] = ⟨.unknown, 0, false, none, none⟩) ∧
    (s.nodeCfg[i] = s.mergedNodes[i] → s.nodeCfg[i].enabled = false → t.nodeRun[i] = s.nodeRun[i]) ∧
    (s.nodeCfg[i] = s.mergedNodes[i] → s.nodeCfg[i].enabled = true → s.nodeRun[i].responded = true →
      t.nodeRun[i] = { s.nodeRun[i] with presence := .present, misses := 0, responded := false }) := by
  have changed := State.sweepClose_changedNode (i := i) k pending
  have unchanged := @State.sweepClose_sameNode a k pending i
  rw [← by_.after.nodeRun, by_.before.nodeCfg, by_.before.mergedNodes] at changed unchanged
  refine ⟨changed, fun same off => unchanged same fun x cfg run => ?_, fun same on answered => unchanged same fun x cfg run => ?_⟩
  · rw [State.judgedRun, if_pos (by rw [cfg]; exact off), run, by_.before.nodeRun]
  · rw [by_.before.nodeRun] at run
    rw [State.judgedRun, if_neg (by rw [cfg, on]; exact nofun), if_pos (by rw [run]; exact answered), run]

/-- A channel after the command (R61, R62, R63). -/
theorem ClosesBy.channels (by_ : ClosesBy c s a k t) (pending : a.mgmt.session.state = .commitPending) {i : Fin 256}
    (samples : ∀ ds ∈ s.handed, ∀ d ∈ ds, d.channel ≠ i) (shares : ∀ n ∈ s.notices, n.channel ≠ i) :
    (s.resetsChannel i → t.chanRun[i] = ⟨none, none, t.chanRun[i].sinceReport, false, false, t.chanRun[i].gap, .unknown,
        0, none⟩ ∧ t.chanRun[i].sinceReport ≤ 1 ∧
      (s.mergedChannels[i].enabled = false → t.chanRun[i].sinceReport = 0)) ∧
    (¬ s.resetsChannel i → limitFieldsDiffer s.chanCfg[i] s.mergedChannels[i] = true →
      t.chanRun[i].limit = .unknown ∧ t.chanRun[i].count = 0 ∧ t.chanRun[i].candidate = none) := by
  have reset := State.sweepClose_resetChannel (s := a) (i := i) k pending
  have limits := State.sweepClose_noLimit (s := a) (i := i) k pending
  rw [by_.before.handed, by_.before.mergedChannels] at reset limits
  rw [by_.before.notices, by_.before.resetsChannel] at reset
  rw [by_.before.resetsChannel, by_.before.chanCfg] at limits
  refine ⟨fun resets => ?_, fun keeps differ => ?_⟩
  · obtain ⟨n, atMost, off, run⟩ := reset samples shares resets
    have record := by_.record run
    have since : t.chanRun[i].sinceReport = n := congrArg ChanRuntime.sinceReport record
    refine ⟨?_, since ▸ atMost, fun disabled => since.trans (off disabled)⟩
    rw [since]
    exact record
  · have cleared : (t.chanRun[i].limit, t.chanRun[i].count, t.chanRun[i].candidate) = (.unknown, 0, none) := by
      have none := limits samples keeps differ
      unfold NoLimit State.measured at none
      rw [← by_.after.chanRun] at none
      exact none
    obtain ⟨limit, rest⟩ := Prod.mk.inj cleared
    exact ⟨limit, Prod.mk.inj rest⟩

end

/-- Settles O22. -/
theorem applyAtClose : Obligations.ApplyAtClose := by
  refine ⟨fun k closing supply x pending => Closing.act_apply_trims pending,
    fun s w collecting window pending choice => ⟨_, _, _, _, _, rfl, rfl, rfl, rfl, exec_windowExpiry collecting window,
      State.sweepClose_default_trims (s := s.advance w) (.expiry s.sweep.oneShot) choice pending⟩,
    fun c s closes pending => ?_⟩
  obtain ⟨a, k, t, by_⟩ := closesBy_of_closesSweep closes
  have pendingA : a.mgmt.session.state = .commitPending := by rw [by_.before.sessionState]; exact pending
  obtain ⟨nodes, channels, settings, session⟩ := State.sweepClose_installs k pendingA
  have idle := State.sweepClose_idle pendingA k
  have supervises := State.sweepClose_supervises pendingA
  rw [by_.before.settings, by_.before.mergedSettings] at idle supervises
  refine ⟨t, by_.run, ?_, ?_, ?_, by_.session.trans session, fun tag slot => by_.responds pendingA slot, by_.nodes pendingA, fun j => ?_,
    fun handed _ drops off => by_.trims pendingA handed drops off, fun i samples shares => by_.channels pendingA samples shares,
    fun old new => ?_, fun expiry repeats old new => ?_, fun h n sync => ?_, fun r stop => ?_⟩
  · rw [by_.after.nodeCfg, nodes, by_.before.mergedNodes]
  · rw [by_.after.chanCfg, channels, by_.before.mergedChannels]
  · rw [by_.after.settings, settings, by_.before.mergedSettings]
  · have fits := State.sweepClose_queues k pendingA j
    rw [by_.before.mergedSettings] at fits
    rw [State.queue, by_.after.store]
    exact fits
  · rw [by_.sweep]
    exact idle old new
  · have kind := by_.expiry expiry
    rw [repeats] at kind
    subst kind
    rw [by_.sweep]
    exact supervises old new
  · have kind := by_.sync h n sync
    subst kind
    rw [by_.sweep]
    exact State.sweepClose_sync a n
  · have kind := by_.stop r stop
    subst kind
    rw [by_.sweep, State.sweepClose_stop_sweep]

end Sys2Proof.Machine
end
